-- ==== Sys2Proof/Word.lean ====
section
/-! DEFINITION. The words and the numbered things of the JX-12 (00_scope.md section 6). -/

namespace Sys2Proof

/-- One byte on the floor line (R152). -/
abbrev Byte := BitVec 8

/-- Floor time, and every stamp and remainder counted in its ticks (R78): 16 bits, modulo 65536. -/
abbrev Time := BitVec 16

/-- A carrier id, 0–65535 (R19). -/
abbrev CarrierId := BitVec 16

/-- Cells C0–C31. -/
abbrev CellId := Fin 32

/-- Approaches A0–A7. -/
abbrev ApproachId := Fin 8

/-- Routes, route 0 to route 47. -/
abbrev RouteId := Fin 48

/-- Master slots M0–M5. -/
abbrev MasterSlot := Fin 6

/-- Passage slots P0–P23. -/
abbrev Slot := Fin 24

/-- Nodes of the floor line, 0–15. -/
abbrev Node := Fin 16

end Sys2Proof
end

