-- ==== Sys2Proof/Config.lean ====
section
/-! DEFINITION. The constants the guide fixes for the part. The spec leaves no result value of a command open,
so there is no free value here. -/

namespace Sys2Proof.Config

/-- The part code reported by IDENTIFY (R146). -/
def partCode : Byte := 0x12

/-- The silicon revision reported by IDENTIFY (R146). -/
def revision : BitVec 4 := 1

/-- A notice FIFO holds at most this many notices (R158). -/
def fifoDepth : Nat := 16

/-- The largest window and the largest remainder, in ticks (R80, R84). -/
def windowLimit : Nat := 32767

/-- The oscillator-ready count, in cycles of the crystal (R166). -/
def oscillatorCycles : Nat := 16384

/-- Cycles of the crystal in a millisecond (R78, R95). -/
def cyclesPerMs : Nat := 8000

/-- Cycles of the crystal in the 40 bit times of the part's own halt pulse: 40 × 160 (R140, 12.1). -/
def haltPulseCycles : Nat := 6400

/-- 3 µs in cycles of the crystal: a shorter change of the line is ignored (R131). -/
def noiseFromCycles : Nat := 24

/-- 10 µs in cycles of the crystal: a change that holds so long is accepted and is no noise run (R131). -/
def acceptedFromCycles : Nat := 80

/-- 2 µs in cycles of the crystal: a shorter low level on RSTn is ignored (R165). -/
def resetFromCycles : Nat := 16

/-- The straps with no link fitted: the pull-ups read every open strap as 1 (12.1).
DESIGN CHOICE (log entry 1), unsafe: the straps of the part at `State.reset`. -/
def openStraps : BitVec 4 := 15

end Sys2Proof.Config
end

