-- ==== Sys2Proof/Syntax.lean ====
section
/-! DEFINITION. The commands of the JX-12: one constructor for each row of spec/opcode_table.json. -/

namespace Sys2Proof

/-- What a master's frame carries beside its kind and payload (R152): the priority bits of the header, and the
source node of the address byte. The destination is the part's own node (R135). -/
structure FrameHead where
  prio : BitVec 3
  src : Node
deriving DecidableEq, Repr

/-- A frame as the LIU reads it from the line (9.3, R133): the levels of the four bits of the opening mark (most
significant first, 0 dominant), each byte with its stop bit (true recessive), gap bits 1 and 2 (true recessive),
whether a tail mark stands in gap bits 3 to 5, and the bytes that follow it with their stop bits. A frame or tail that
ends early reads on as bytes of FFh (R135). -/
structure RawFrame where
  mark : BitVec 4
  bytes : List (Byte × Bool)
  gap1 : Bool
  gap2 : Bool
  tailMark : Bool
  tail : List (Byte × Bool)
deriving DecidableEq, Repr

/-- Where the part reads dominant though it sent recessive (R137): in bit 4 of its opening mark, or in a bit of the
arbitration field, the 16 bits of header and address in the order sent. A dominant level at the stop bit between the two
bytes is neither, and R137 and R138 name no outcome for it: the model has no lost arbitration there, and the event is
NOTICE_BIT_ERROR (DESIGN CHOICE, log entry 33). -/
inductive Loss where
  | mark
  | field (bit : Fin 16)
deriving DecidableEq, Repr

/-- What applies hardware reset (R165): the supply below its working level, or a low level on RSTn with how long
it has lasted, in cycles of the crystal. -/
inductive ResetCause where
  | supply
  | pin (cycles : Nat)
deriving DecidableEq, Repr

/-- The commands. A frame command stands for one frame that the LIU has read and checked, at its end-of-data gap
(R135); its operands are the fields of its payload (R152), as the frame carries them. -/
inductive Instr where
  /-- IDENTIFY (R146). -/
  | identify (hd : FrameHead)
  /-- LINE_PATTERN (R146). -/
  | linePattern (hd : FrameHead)
  /-- QUERY_JUNCTION whose part byte is not 2 (R150): part 1, or a value refused BAD_VALUE (log entry 13). -/
  | queryJunctionPart1 (hd : FrameHead) (part : Byte)
  /-- QUERY_JUNCTION part 2 (R151). -/
  | queryJunctionPart2 (hd : FrameHead)
  /-- QUERY_PASSAGE (R147). -/
  | queryPassage (hd : FrameHead) (slot : Byte)
  /-- QUERY_CELL (R148). -/
  | queryCell (hd : FrameHead) (cell : Byte)
  /-- QUERY_LINE (R149). -/
  | queryLine (hd : FrameHead)
  /-- REQUEST_PASSAGE (R26 to R30); `cls` is the class byte of R152. -/
  | requestPassage (hd : FrameHead) (carrier : CarrierId) (route cls speed : Byte) (length : BitVec 16)
  /-- WITHDRAW (R31, R32). -/
  | withdraw (hd : FrameHead) (slot : Byte) (carrier : CarrierId)
  /-- LOCK_CELLS (R34); bit n of the set stands for Cn. -/
  | lockCells (hd : FrameHead) (set : BitVec 32)
  /-- UNLOCK_CELLS (R35). -/
  | unlockCells (hd : FrameHead) (set : BitVec 32)
  /-- SET_SENSOR (R100). -/
  | setSensor (hd : FrameHead) (cell mode : Byte)
  /-- FORCE_RELEASE (R36, R37). -/
  | forceRelease (hd : FrameHead) (slot : Byte) (carrier : CarrierId)
  /-- DRAIN (R122). -/
  | drain (hd : FrameHead)
  /-- RESUME (R127). -/
  | resume (hd : FrameHead)
  /-- RESTART (R128). -/
  | restart (hd : FrameHead)
  /-- OPEN_SERVICE (R119). -/
  | openService (hd : FrameHead)
  /-- LOAD_OPTIONS (R9). -/
  | loadOptions (hd : FrameHead) (tick divider depth dwell skip : Byte) (tag : BitVec 16)
  /-- LOAD_CELL (R9). -/
  | loadCell (hd : FrameHead) (cell inUse : Byte) (length : BitVec 16) (sensor : Byte)
  /-- LOAD_APPROACH (R9). -/
  | loadApproach (hd : FrameHead) (approach inUse : Byte) (distance : BitVec 16) (limit : Byte)
  /-- LOAD_ROUTE (R10). -/
  | loadRoute (hd : FrameHead) (route inUse approach speed count : Byte)
  /-- LOAD_ROUTE_CELLS (R10); `span` holds the offset in bits 7–4 and the count in bits 3–0 (R152). -/
  | loadRouteCells (hd : FrameHead) (route span e0 e1 e2 e3 e4 e5 : Byte)
  /-- LOAD_MASTER (R9). -/
  | loadMaster (hd : FrameHead) (slot inUse node role option : Byte)
  /-- COMMIT_MAP (R15). -/
  | commitMap (hd : FrameHead)
  /-- FRAME_ERROR (R133, R135): the reading of a frame that fails a check, or that is for another node (log entry
  15). -/
  | frameError (raw : RawFrame)
  /-- TAIL_BIT_ERROR (R136). -/
  | tailBitError
  /-- NOISE_RUN (R131): a change of the line that held this many cycles of the crystal. -/
  | noiseRun (cycles : Nat)
  /-- LINE_IDLE (R132). -/
  | lineIdle
  /-- NOTICE_FRAME_START (R137). -/
  | noticeFrameStart
  /-- ARBITRATION_LOST (R137). -/
  | arbitrationLost (loss : Loss)
  /-- NOTICE_SENT_CLEAN (R138, R162). -/
  | noticeSentClean
  /-- NOTICE_BIT_ERROR (R138, R162). -/
  | noticeBitError
  /-- HALT_PULSE_START (R139). -/
  | haltPulseStart
  /-- HALT_PULSE_END (R139). -/
  | haltPulseEnd
  /-- LINE_STUCK (R141). -/
  | lineStuck
  /-- LINE_STUCK_RECOVERY (R141). -/
  | lineStuckRecovery
  /-- HALT_PULSE_RELEASE (R140). -/
  | haltPulseRelease
  /-- SCAN (R96): the levels of SNS31–SNS0, of SIG7–SIG0 and of ESTn (true high). -/
  | scan (cells : BitVec 32) (signals : BitVec 8) (emergency : Bool)
  /-- OCCUPANCY_CHANGE (R59): the Tracker takes the change report of this cell. -/
  | occupancyChange (cell : CellId)
  /-- READBACK_CHANGE (R108): the Signal Unit takes the completing sample of this approach. -/
  | readbackChange (approach : ApproachId)
  /-- EMERGENCY_ASSERTED (R113). -/
  | emergencyAsserted
  /-- EMERGENCY_CLEAR (R114). -/
  | emergencyClear
  /-- SETTLE_COUNT_RISE (R102, R121). -/
  | settleCountRise
  /-- TICK (R78). -/
  | tick
  /-- ARRIVAL_EXPIRY (R88) of the passage in this slot. -/
  | arrivalExpiry (slot : Slot)
  /-- DWELL_EXPIRY (R89) of the passage in this slot. -/
  | dwellExpiry (slot : Slot)
  /-- BLIND_CLEAR_EXPIRY (R90) of the passage in this slot. -/
  | blindClearExpiry (slot : Slot)
  /-- HARDWARE_RESET (R165). -/
  | hardwareReset (cause : ResetCause)
  /-- OSCILLATOR_READY (R166): the levels of ADR3–ADR0. -/
  | oscillatorReady (straps : BitVec 4)
  /-- LINE_BUSY (R132). -/
  | lineBusy
  /-- RESET_RELEASE (R166). -/
  | resetRelease
deriving DecidableEq, Repr

end Sys2Proof
end

