-- ==== Sys2Proof/WellFormed.lean ====
section
/-! DEFINITION. Which terms of `Instr` stand for a command of the part. -/

namespace Sys2Proof

/-- A reading holds no more bytes than the longest frame, which has header, address, 8 payload bytes and the CRC, and
the longest tail, which has 8 bytes and the CRC; and it begins at a dominant bit (9.3, R133). -/
def RawFrame.wellFormed (r : RawFrame) : Bool :=
  r.bytes.length ≤ 11 && r.tail.length ≤ 9 && !r.mark.msb

/-- A low level on RSTn applies reset only from 2 µs on (R165). -/
def ResetCause.wellFormed : ResetCause → Bool
  | .supply => true
  | .pin cycles => Config.resetFromCycles ≤ cycles

/-- The checks on a command's operands. A frame's fields are not among them: every value a frame can carry is
accepted, clamped or refused by the part itself (2.5, R8). QUERY_JUNCTION with part byte 2 is PART_2's row, and a
noise run is bounded by R131. -/
def Instr.wellFormed : Instr → Bool
  | .queryJunctionPart1 _ part => part ≠ 2
  | .frameError raw => raw.wellFormed
  | .noiseRun cycles => Config.noiseFromCycles ≤ cycles && cycles < Config.acceptedFromCycles
  | .hardwareReset cause => cause.wellFormed
  | .identify _ | .linePattern _ | .queryJunctionPart2 _ | .queryPassage _ _ | .queryCell _ _ | .queryLine _
  | .requestPassage _ _ _ _ _ _ | .withdraw _ _ _ | .lockCells _ _ | .unlockCells _ _ | .setSensor _ _ _
  | .forceRelease _ _ _ | .drain _ | .resume _ | .restart _ | .openService _ | .loadOptions _ _ _ _ _ _ _
  | .loadCell _ _ _ _ _ | .loadApproach _ _ _ _ _ | .loadRoute _ _ _ _ _ _ | .loadRouteCells _ _ _ _ _ _ _ _ _
  | .loadMaster _ _ _ _ _ _ | .commitMap _ | .tailBitError | .lineIdle | .noticeFrameStart | .arbitrationLost _
  | .noticeSentClean | .noticeBitError | .haltPulseStart | .haltPulseEnd | .lineStuck | .lineStuckRecovery
  | .haltPulseRelease | .scan _ _ _ | .occupancyChange _ | .readbackChange _ | .emergencyAsserted
  | .emergencyClear | .settleCountRise | .tick | .arrivalExpiry _ | .dwellExpiry _ | .blindClearExpiry _
  | .oscillatorReady _ | .lineBusy | .resetRelease => true

end Sys2Proof
end

