-- ==== Sys2Proof/Decode.lean ====
section
/-! DEFINITION. How a command is laid out in a frame on the floor line (R133 to R135, R152), reading and writing
one. The opcode table gives its rows no bits, so `decodeTableWord` spells no command. -/

namespace Sys2Proof

/-- The table's rows have no bit patterns: no word spells a command (log entry 18). -/
def decodeTableWord (_nbits _w : Nat) : Option Instr := none

/-- The frame kinds 0–22 that the part knows (R152). -/
inductive Kind where
  | identify | linePattern | queryJunction | queryPassage | queryCell | queryLine | requestPassage | withdraw
  | lockCells | unlockCells | setSensor | forceRelease | drain | resume | restart | openService | loadOptions
  | loadCell | loadApproach | loadRoute | loadRouteCells | loadMaster | commitMap
deriving DecidableEq, Repr

/-- The kinds in the order of their numbers (R152). -/
def Kind.all : List Kind :=
  [.identify, .linePattern, .queryJunction, .queryPassage, .queryCell, .queryLine, .requestPassage, .withdraw,
   .lockCells, .unlockCells, .setSensor, .forceRelease, .drain, .resume, .restart, .openService, .loadOptions,
   .loadCell, .loadApproach, .loadRoute, .loadRouteCells, .loadMaster, .commitMap]

/-- The number of a kind, in bits 4–0 of the header (R152). -/
def Kind.code : Kind → BitVec 5
  | .identify => 0 | .linePattern => 1 | .queryJunction => 2 | .queryPassage => 3 | .queryCell => 4
  | .queryLine => 5 | .requestPassage => 6 | .withdraw => 7 | .lockCells => 8 | .unlockCells => 9
  | .setSensor => 10 | .forceRelease => 11 | .drain => 12 | .resume => 13 | .restart => 14 | .openService => 15
  | .loadOptions => 16 | .loadCell => 17 | .loadApproach => 18 | .loadRoute => 19 | .loadRouteCells => 20
  | .loadMaster => 21 | .commitMap => 22

/-- The kind a number names, none for the unknown kinds 23–31 (R152). -/
def Kind.ofCode (code : BitVec 5) : Option Kind := Kind.all[code.toNat]?

/-- How many payload bytes a kind requires (R152). -/
def Kind.payloadLength : Kind → Nat
  | .identify | .linePattern | .queryLine | .drain | .resume | .restart | .openService | .commitMap => 0
  | .queryJunction | .queryPassage | .queryCell => 1
  | .setSensor => 2
  | .withdraw | .forceRelease => 3
  | .lockCells | .unlockCells => 4
  | .loadCell | .loadApproach | .loadRoute | .loadMaster => 5
  | .requestPassage | .loadOptions => 7
  | .loadRouteCells => 8

/-- A frame addressed to the part: its head, its kind and its payload bytes in order. -/
structure Frame where
  head : FrameHead
  kind : Kind
  payload : List Byte
deriving DecidableEq, Repr

/-- The two bytes of a 16-bit number, most significant first (R152). -/
def bytes16 (v : BitVec 16) : List Byte := [v.extractLsb' 8 8, v.extractLsb' 0 8]

/-- The four bytes of a 32-bit number, most significant first (R152). -/
def bytes32 (v : BitVec 32) : List Byte :=
  [v.extractLsb' 24 8, v.extractLsb' 16 8, v.extractLsb' 8 8, v.extractLsb' 0 8]

/-- The frame that carries a command; none for the events, which no frame carries. -/
def frameOf : Instr → Option Frame
  | .identify hd => some ⟨hd, .identify, []⟩
  | .linePattern hd => some ⟨hd, .linePattern, []⟩
  | .queryJunctionPart1 hd part => some ⟨hd, .queryJunction, [part]⟩
  | .queryJunctionPart2 hd => some ⟨hd, .queryJunction, [2]⟩
  | .queryPassage hd slot => some ⟨hd, .queryPassage, [slot]⟩
  | .queryCell hd cell => some ⟨hd, .queryCell, [cell]⟩
  | .queryLine hd => some ⟨hd, .queryLine, []⟩
  | .requestPassage hd carrier route cls speed length =>
    some ⟨hd, .requestPassage, bytes16 carrier ++ [route, cls, speed] ++ bytes16 length⟩
  | .withdraw hd slot carrier => some ⟨hd, .withdraw, slot :: bytes16 carrier⟩
  | .lockCells hd set => some ⟨hd, .lockCells, bytes32 set⟩
  | .unlockCells hd set => some ⟨hd, .unlockCells, bytes32 set⟩
  | .setSensor hd cell mode => some ⟨hd, .setSensor, [cell, mode]⟩
  | .forceRelease hd slot carrier => some ⟨hd, .forceRelease, slot :: bytes16 carrier⟩
  | .drain hd => some ⟨hd, .drain, []⟩
  | .resume hd => some ⟨hd, .resume, []⟩
  | .restart hd => some ⟨hd, .restart, []⟩
  | .openService hd => some ⟨hd, .openService, []⟩
  | .loadOptions hd tick divider depth dwell skip tag =>
    some ⟨hd, .loadOptions, [tick, divider, depth, dwell, skip] ++ bytes16 tag⟩
  | .loadCell hd cell inUse length sensor => some ⟨hd, .loadCell, [cell, inUse] ++ bytes16 length ++ [sensor]⟩
  | .loadApproach hd approach inUse distance limit =>
    some ⟨hd, .loadApproach, [approach, inUse] ++ bytes16 distance ++ [limit]⟩
  | .loadRoute hd route inUse approach speed count =>
    some ⟨hd, .loadRoute, [route, inUse, approach, speed, count]⟩
  | .loadRouteCells hd route span e0 e1 e2 e3 e4 e5 =>
    some ⟨hd, .loadRouteCells, [route, span, e0, e1, e2, e3, e4, e5]⟩
  | .loadMaster hd slot inUse node role option => some ⟨hd, .loadMaster, [slot, inUse, node, role, option]⟩
  | .commitMap hd => some ⟨hd, .commitMap, []⟩
  | .frameError _ | .tailBitError | .noiseRun _ | .lineIdle | .noticeFrameStart | .arbitrationLost _
  | .noticeSentClean | .noticeBitError | .haltPulseStart | .haltPulseEnd | .lineStuck | .lineStuckRecovery
  | .haltPulseRelease | .scan _ _ _ | .occupancyChange _ | .readbackChange _ | .emergencyAsserted
  | .emergencyClear | .settleCountRise | .tick | .arrivalExpiry _ | .dwellExpiry _ | .blindClearExpiry _
  | .hardwareReset _ | .oscillatorReady _ | .lineBusy | .resetRelease => none

/-- The command a checked frame carries (R152); none when the payload has not the kind's length. -/
def commandOf (f : Frame) : Option Instr :=
  match f.kind, f.payload with
  | .identify, [] => some (.identify f.head)
  | .linePattern, [] => some (.linePattern f.head)
  | .queryJunction, [part] =>
    some (if part = 2 then .queryJunctionPart2 f.head else .queryJunctionPart1 f.head part)
  | .queryPassage, [slot] => some (.queryPassage f.head slot)
  | .queryCell, [cell] => some (.queryCell f.head cell)
  | .queryLine, [] => some (.queryLine f.head)
  | .requestPassage, [c1, c0, route, cls, speed, l1, l0] =>
    some (.requestPassage f.head (c1 ++ c0) route cls speed (l1 ++ l0))
  | .withdraw, [slot, c1, c0] => some (.withdraw f.head slot (c1 ++ c0))
  | .lockCells, [b3, b2, b1, b0] => some (.lockCells f.head (b3 ++ b2 ++ b1 ++ b0))
  | .unlockCells, [b3, b2, b1, b0] => some (.unlockCells f.head (b3 ++ b2 ++ b1 ++ b0))
  | .setSensor, [cell, mode] => some (.setSensor f.head cell mode)
  | .forceRelease, [slot, c1, c0] => some (.forceRelease f.head slot (c1 ++ c0))
  | .drain, [] => some (.drain f.head)
  | .resume, [] => some (.resume f.head)
  | .restart, [] => some (.restart f.head)
  | .openService, [] => some (.openService f.head)
  | .loadOptions, [tick, divider, depth, dwell, skip, t1, t0] =>
    some (.loadOptions f.head tick divider depth dwell skip (t1 ++ t0))
  | .loadCell, [cell, inUse, l1, l0, sensor] => some (.loadCell f.head cell inUse (l1 ++ l0) sensor)
  | .loadApproach, [approach, inUse, d1, d0, limit] => some (.loadApproach f.head approach inUse (d1 ++ d0) limit)
  | .loadRoute, [route, inUse, approach, speed, count] =>
    some (.loadRoute f.head route inUse approach speed count)
  | .loadRouteCells, [route, span, e0, e1, e2, e3, e4, e5] =>
    some (.loadRouteCells f.head route span e0 e1 e2 e3 e4 e5)
  | .loadMaster, [slot, inUse, node, role, option] => some (.loadMaster f.head slot inUse node role option)
  | .commitMap, [] => some (.commitMap f.head)
  | _, _ => none

/-- One bit fed to a CRC register (R14, R134): shift left by one place, and combine with the generator when the
bit that left the top differs from the bit fed. -/
def crcBit {w : Nat} (generator register : BitVec w) (bit : Bool) : BitVec w :=
  if register.msb = bit then register <<< 1 else (register <<< 1) ^^^ generator

/-- The bits of a byte, most significant first. -/
def bitsOf (b : Byte) : List Bool :=
  [b.getLsbD 7, b.getLsbD 6, b.getLsbD 5, b.getLsbD 4, b.getLsbD 3, b.getLsbD 2, b.getLsbD 1, b.getLsbD 0]

/-- A CRC over bytes, each fed most significant bit first (R14, R134). -/
def crcOver {w : Nat} (generator preset : BitVec w) (bytes : List Byte) : BitVec w :=
  bytes.foldl (fun register b => (bitsOf b).foldl (crcBit generator) register) preset

/-- The CRC-8 of a frame or a tail (R134). -/
def crc8 (bytes : List Byte) : Byte := crcOver (w := 8) 0x2F 0xFF bytes

/-- The header byte: priority in bits 7–5, kind number in bits 4–0 (R152). -/
def headerByte (prio : BitVec 3) (code : BitVec 5) : Byte := prio ++ code

/-- The address byte: destination in bits 7–4, source in bits 3–0 (R152). -/
def addressByte (dest src : Node) : Byte := BitVec.ofNat 4 dest.val ++ BitVec.ofNat 4 src.val

/-- The node in a half of an address byte. -/
def nodeOfBits (b : BitVec 4) : Node := b.toFin

/-- The bytes of a frame to the part, header to CRC (9.3, R134). -/
def Frame.bytes (own : Node) (f : Frame) : List Byte :=
  let body := [headerByte f.head.prio f.kind.code, addressByte own f.head.src] ++ f.payload
  body ++ [crc8 body]

/-- The encoder: the bytes of the frame that carries a command to the part at node `own`. -/
def encodeFrame (own : Node) (c : Instr) : Option (List Byte) := (frameOf c).map (Frame.bytes own)

/-- A frame as it stands on the line without an error: a whole opening mark, every stop bit and both gap bits
recessive. -/
def cleanReading (bytes : List Byte) : RawFrame :=
  { mark := 1, bytes := bytes.map fun b => (b, true), gap1 := true, gap2 := true, tailMark := false, tail := [] }

/-- The checks that a frame addressed to the part, or not yet known to be for another node, can fail (R133, R135). -/
inductive FrameFault where
  | byte | format | crc | length
deriving DecidableEq, Repr

/-- What the LIU makes of a reading: an error to be recorded, a frame for another node with what it follows of it, or
a frame handed to the Command Decoder (R133, R135). -/
inductive Reading where
  | error (fault : FrameFault)
  | onlooker (followed : Option (List Byte × List Byte))
  | handed (f : Frame)
deriving DecidableEq, Repr

/-- Byte `i` of a reading with its stop bit; past its end the line is recessive and reads FFh (R135). -/
def RawFrame.byteAt (r : RawFrame) (i : Nat) : Byte × Bool := r.bytes.getD i (0xFF, true)

/-- The first `n` bytes of a reading. -/
def RawFrame.firstBytes (r : RawFrame) (n : Nat) : List Byte := (List.range n).map fun i => (r.byteAt i).1

/-- How many payload bytes an onlooker counts for a kind: those of R152 for kinds 0–22, 8 for the notice frame, none
for the kinds 23–30, which it does not know (R133). -/
def onlookerLength (code : BitVec 5) : Option Nat :=
  if code = 31 then some 8 else (Kind.ofCode code).map Kind.payloadLength

/-- Byte `i` after the tail mark with its stop bit. -/
def RawFrame.tailAt (r : RawFrame) (i : Nat) : Byte × Bool := r.tail.getD i (0xFF, true)

/-- How many bytes follow a tail mark: bits 7–5 of the first tail byte hold the tail's length less one (R145), and a
CRC byte comes after (R136). -/
def RawFrame.tailLength (r : RawFrame) : Nat :=
  if r.tailMark then ((r.tailAt 0).1.extractLsb' 5 3).toNat + 2 else 0

/-- What an onlooker follows of a frame to its end: the bytes to the CRC, and those of a tail. It stops following, none,
at a kind it does not know and at a dominant stop bit (R133). -/
def RawFrame.followed (r : RawFrame) : Option (List Byte × List Byte) :=
  match onlookerLength ((r.byteAt 0).1.extractLsb' 0 5) with
  | none => none
  | some n =>
    if (List.range (n + 3)).all (fun i => (r.byteAt i).2) &&
        (List.range r.tailLength).all (fun i => (r.tailAt i).2) then
      some (r.firstBytes (n + 3), (List.range r.tailLength).map fun i => (r.tailAt i).1)
    else none

/-- R133 and R135, in the order of their checks: the opening mark, the stop bits of header and address, the
destination, the kind, the stop bits of payload and CRC byte, the CRC, gap bits 1 and 2. -/
def readFrame (own : Node) (r : RawFrame) : Reading :=
  if r.mark ≠ 1 then .error .byte
  else if !(r.byteAt 0).2 || !(r.byteAt 1).2 then .error .byte
  else
    let header := (r.byteAt 0).1
    let address := (r.byteAt 1).1
    if nodeOfBits (address.extractLsb' 4 4) ≠ own then .onlooker r.followed
    else match Kind.ofCode (header.extractLsb' 0 5) with
      | none => .error .format
      | some kind =>
        let n := kind.payloadLength
        if (List.range (n + 1)).any fun i => !(r.byteAt (2 + i)).2 then .error .byte
        else if crc8 (r.firstBytes (2 + n)) ≠ (r.byteAt (2 + n)).1 then .error .crc
        else if !r.gap1 || !r.gap2 then .error .length
        else .handed
          { head := { prio := header.extractLsb' 5 3, src := nodeOfBits (address.extractLsb' 0 4) }
            kind := kind
            payload := (r.firstBytes (2 + n)).drop 2 }

/-- The command the part reads from a frame on the line: the LIU's checks, then the Decoder's layouts. -/
def decodeFrame (own : Node) (r : RawFrame) : Option Instr :=
  match readFrame own r with
  | .handed f => commandOf f
  | .error _ | .onlooker _ => none

end Sys2Proof
end

