-- ==== Sys2Proof/Machine/Map.lean ====
section
/-! DEFINITION. The junction map: its tables with their hardware-reset values (R2 to R6), its canonical
serialisation (R13, R156) and its CRC (R14). -/

namespace Sys2Proof.Machine

/-- The mode of a cell's sensor (R3, R94). -/
inductive SensorMode where
  | active | standby
deriving DecidableEq, Repr

/-- The role of a master (R6). -/
inductive Role where
  | fleet | safety
deriving DecidableEq, Repr

/-- What a notice FIFO does when full (R6, R160). -/
inductive NoticeOption where
  | keepOldest | keepNewest
deriving DecidableEq, Repr

/-- The six options (R2). -/
structure Options where
  tick : Nat
  divider : Nat
  depth : Nat
  dwell : Nat
  skipLimit : Nat
  tag : BitVec 16
deriving DecidableEq, Repr

/-- One entry of the cell table (R3). -/
structure CellEntry where
  inUse : Bool
  length : Nat
  sensor : SensorMode
deriving DecidableEq, Repr

/-- One entry of the approach table (R4). -/
structure ApproachEntry where
  inUse : Bool
  distance : Nat
  limit : Nat
deriving DecidableEq, Repr

/-- One entry of the route table (R5); a list position holds a cell or NONE. -/
structure RouteEntry where
  inUse : Bool
  approach : ApproachId
  speed : Nat
  count : Nat
  list : Vector (Option CellId) 8
deriving DecidableEq, Repr

/-- One entry of the master table, and of the committed enrolment (R6). -/
structure MasterEntry where
  inUse : Bool
  node : Node
  role : Role
  option : NoticeOption
deriving DecidableEq, Repr

/-- The working map (R1). -/
structure WorkingMap where
  options : Options
  cells : Vector CellEntry 32
  approaches : Vector ApproachEntry 8
  routes : Vector RouteEntry 48
  masters : Vector MasterEntry 6
deriving DecidableEq, Repr

/-- The hardware-reset values of R2. -/
def Options.reset : Options := { tick := 10, divider := 4, depth := 3, dwell := 12, skipLimit := 4, tag := 0 }

/-- The hardware-reset values of R3. -/
def CellEntry.reset : CellEntry := { inUse := false, length := 100, sensor := .active }

/-- The hardware-reset values of R4. -/
def ApproachEntry.reset : ApproachEntry := { inUse := false, distance := 300, limit := 2 }

/-- The hardware-reset values of R5. -/
def RouteEntry.reset : RouteEntry :=
  { inUse := false, approach := 0, speed := 100, count := 0, list := Vector.replicate 8 none }

/-- The hardware-reset values of R6. -/
def MasterEntry.reset : MasterEntry := { inUse := false, node := 0, role := .fleet, option := .keepOldest }

/-- The reset working map (R1). -/
def WorkingMap.reset : WorkingMap :=
  { options := .reset
    cells := Vector.replicate 32 .reset
    approaches := Vector.replicate 8 .reset
    routes := Vector.replicate 48 .reset
    masters := Vector.replicate 6 .reset }

/-- The cells of a route (R5): list positions 0 to count − 1, in order. A position that holds NONE, which no
committed route in use has there, names no cell (log entry 23). -/
def RouteEntry.cells (r : RouteEntry) : List CellId := (r.list.toList.take r.count).filterMap id

/-- A number below 256 as a byte. -/
def byteOf (n : Nat) : Byte := BitVec.ofNat 8 n

/-- A number below 65536 as two bytes, most significant first. -/
def word16Of (n : Nat) : List Byte := bytes16 (BitVec.ofNat 16 n)

/-- A yes-or-no field (R152, R156). -/
def flagByte (b : Bool) : Byte := if b then 1 else 0

/-- Code set "sensor mode" (R157). -/
def SensorMode.code : SensorMode → Byte
  | .active => 0
  | .standby => 1

/-- Code set "role" (R157). -/
def Role.code : Role → Byte
  | .fleet => 0
  | .safety => 1

/-- Code set "notice option" (R157). -/
def NoticeOption.code : NoticeOption → Byte
  | .keepOldest => 0
  | .keepNewest => 1

/-- A cell number, or FFh for none (R156). -/
def cellByte : Option CellId → Byte
  | none => 0xFF
  | some c => byteOf c.val

/-- The options' seven bytes (R156). -/
def Options.bytes (o : Options) : List Byte :=
  [byteOf o.tick, byteOf o.divider, byteOf o.depth, byteOf o.dwell, byteOf o.skipLimit] ++ bytes16 o.tag

/-- A cell entry's four bytes (R156). -/
def CellEntry.bytes (e : CellEntry) : List Byte := [flagByte e.inUse] ++ word16Of e.length ++ [e.sensor.code]

/-- An approach entry's four bytes (R156). -/
def ApproachEntry.bytes (e : ApproachEntry) : List Byte :=
  [flagByte e.inUse] ++ word16Of e.distance ++ [byteOf e.limit]

/-- A route entry's twelve bytes (R156): LOAD_ROUTE's four, then the eight list positions. -/
def RouteEntry.bytes (e : RouteEntry) : List Byte :=
  [flagByte e.inUse, byteOf e.approach.val, byteOf e.speed, byteOf e.count] ++ e.list.toList.map cellByte

/-- A master entry's four bytes (R156). -/
def MasterEntry.bytes (e : MasterEntry) : List Byte :=
  [flagByte e.inUse, byteOf e.node.val, e.role.code, e.option.code]

/-- The canonical serialisation (R13, R156). -/
def WorkingMap.bytes (m : WorkingMap) : List Byte :=
  m.options.bytes ++ m.cells.toList.flatMap CellEntry.bytes ++ m.approaches.toList.flatMap ApproachEntry.bytes
    ++ m.routes.toList.flatMap RouteEntry.bytes ++ m.masters.toList.flatMap MasterEntry.bytes

/-- The map CRC (R14). -/
def WorkingMap.crc (m : WorkingMap) : BitVec 16 := crcOver (w := 16) 0x1021 0xFFFF m.bytes

/-- The part's own node: the strap value, with 15 read as 14 (R130, R166). -/
def ownNodeOf (straps : BitVec 4) : Node := if straps = 15 then 14 else straps.toFin

end Sys2Proof.Machine
end

