-- ==== Sys2Proof/Machine/State.lean ====
section
/-! DEFINITION. Everything the spec gives the JX-12 to remember, block by block (00_scope.md section 3), the reasons
a step can stop, and the state right after hardware reset (R166). -/

namespace Sys2Proof.Machine

/-! ### The Reservation Book -/

/-- The lock of a cell (R33). -/
inductive Lock where
  | none | pending | locked
deriving DecidableEq, Repr

/-- Occupancy as the Sensor Scanner believes it (R17, R94). -/
inductive Occupancy where
  | free | occupied | blind
deriving DecidableEq, Repr

/-- The cell record (R17); its field "in use" is the cell table's (R3). `heard` is the model's own: the occupancy in
the last change report the Tracker has taken. It differs from `occupancy` exactly while a report stands untaken
(R59, R98; log entry 5). -/
structure CellRec where
  holder : Option Slot
  reservation : Option Slot
  lock : Lock
  intruded : Bool
  occupancy : Occupancy
  stamp : Time
  heard : Occupancy
deriving DecidableEq, Repr

/-- The state of a passage (R19, R20). -/
inductive PassageState where
  | queued | granted | entered
deriving DecidableEq, Repr

/-- The overdue level of a passage (R19, R89). -/
inductive Overdue where
  | normal | overdue | stalled
deriving DecidableEq, Repr

/-- The kinds of a deadline other than NONE (R79). -/
inductive ArmedKind where
  | arrival | dwell | blindClear
deriving DecidableEq, Repr

/-- The condition of a deadline of kind other than NONE (R79). -/
inductive Clock where
  | armed (deadline : Time)
  | frozen (remainder : Time)
deriving DecidableEq, Repr

/-- A deadline of kind other than NONE: its kind, the window it was last armed with, its condition (R79). -/
structure Running where
  kind : ArmedKind
  window : Time
  clock : Clock
deriving DecidableEq, Repr

/-- The deadline record (R79): no running deadline is kind NONE, idle. `halt` and `extStop` are the freeze-cause
set. -/
structure Deadline where
  run : Option Running
  halt : Bool
  extStop : Bool
deriving DecidableEq, Repr

/-- The passage record (R19). -/
structure Passage where
  master : MasterSlot
  carrier : CarrierId
  route : RouteId
  priority : Nat
  speed : Nat
  length : Nat
  load : Nat
  state : PassageState
  blocking : Bool
  skips : Nat
  position : Option Nat
  firstHeld : Nat
  overdue : Overdue
  clamped : Bool
  wasOverdue : Bool
  deadline : Deadline
deriving DecidableEq, Repr

/-- The Reservation Book: cell records, pool, arrival-order list and approach queues (R17 to R22). -/
structure Book where
  cells : Vector CellRec 32
  pool : Vector (Option Passage) 24
  arrivals : List Slot
  queues : Vector (List Slot) 8
deriving DecidableEq, Repr

/-! ### The Map Store -/

/-- The Map Store (R1): working map, map identity, committed enrolment. -/
structure MapStore where
  working : WorkingMap
  tag : BitVec 16
  crc : BitVec 16
  enrolment : Vector MasterEntry 6
deriving DecidableEq, Repr

/-! ### Clearance Timer and Sensor Scanner -/

/-- Floor time, with the length in ms of the tick interval now running and the cycles into it (R78). -/
structure Timer where
  floor : Time
  interval : Nat
  cycles : Nat
deriving DecidableEq, Repr

/-- A raw sample of a cell input: low reads OCCUPIED (R94). -/
inductive RawSample where
  | free | occupied
deriving DecidableEq, Repr

/-- The sensor record (R94); occupancy and last change stamp stand in the cell record. -/
structure SensorRec where
  mode : SensorMode
  raw : RawSample
  count : Nat
deriving DecidableEq, Repr

/-- The sensor records and the scan timer: ms, the cycles into the ms now running, and the divider of the period now
running (R94, R95). -/
structure Scanner where
  sensors : Vector SensorRec 32
  ms : Nat
  cycles : Nat
  period : Nat
deriving DecidableEq, Repr

/-! ### The Signal Unit -/

/-- What an approach's beacon is meant to show (R105). -/
inductive Latch where
  | go | stop
deriving DecidableEq, Repr

/-- The level of a signal line (R105). -/
inductive Level where
  | low | high
deriving DecidableEq, Repr

/-- The approach record of the Signal Unit (R105). `due` is the model's own: the last sample completes a change of
the filtered readback, and that event has not been taken (R108; log entry 6). -/
structure SignalRec where
  latch : Latch
  raw : Level
  count : Nat
  filtered : Level
  extStop : Bool
  fault : Bool
  due : Bool
deriving DecidableEq, Repr

/-! ### The Mode Controller -/

/-- The six junction modes (8.1). -/
inductive Mode where
  | unmapped | service | settling | running | draining | halted
deriving DecidableEq, Repr

/-- The values of the prior mode (R116). -/
inductive PriorMode where
  | unmapped | settling | running | draining
deriving DecidableEq, Repr

/-- A subset of the four halt causes (R116, R124). -/
structure HaltCauses where
  haltPulse : Bool
  estop : Bool
  lineStuck : Bool
  signalFault : Bool
deriving DecidableEq, Repr

/-- The emergency input (R112); `asserted` is the filtered state, `rawAsserted` the raw sample. `due` is the model's
own: the last sample completes a change, and that event has not been taken (log entry 6). -/
structure EmergencyRec where
  rawAsserted : Bool
  count : Nat
  asserted : Bool
  due : Bool
deriving DecidableEq, Repr

/-- The Mode Controller (R116). `risesDue` is the model's own: scans in SETTLING whose rise of the settle count has
not been taken (R102, R121; log entry 10). -/
structure Control where
  mode : Mode
  prior : PriorMode
  causes : HaltCauses
  settleCount : Nat
  risesDue : Nat
  emergency : EmergencyRec
deriving DecidableEq, Repr

/-! ### Notices -/

/-- The reasons of an INTRUSION notice (R157). -/
inductive IntrusionReason where
  | occupiedFree | early | skip | blindRoute
deriving DecidableEq, Repr

/-- The kinds of notice with their extra field (R155, R159). -/
inductive NoticeBody where
  | granted (window : Time)
  | lapsed | cleared | forced | flushed | overdue | stalled
  | intrusion (cell : CellId) (reason : IntrusionReason)
  | locked (cell : CellId)
  | mode (mode : Mode) (drained : Bool) (causes : HaltCauses)
deriving DecidableEq, Repr

/-- A notice in a FIFO (R159). -/
structure Notice where
  body : NoticeBody
  passage : Option (Slot × CarrierId)
  stamp : Time
  clamped : Bool
  wasOverdue : Bool
deriving DecidableEq, Repr

/-- A notice FIFO, oldest first, with its LOST flag (R158). -/
structure Fifo where
  queue : List Notice
  lost : Bool
deriving DecidableEq, Repr

/-- The Notice Unit (R158). -/
structure NoticeUnit where
  fifos : Vector Fifo 6
  pointer : MasterSlot
  attempts : Nat
  lateLoss : Bool
deriving DecidableEq, Repr

/-! ### Verdicts -/

/-- The conditions of the attention index (R157, R163). -/
inductive Attention where
  | none | lineStuck | signalFault | estopActive | halted | stalled | intruded | overdue | blocking | lockPending
  | fifoLost | lineError
deriving DecidableEq, Repr

/-- The kinds of the line error record (R142, R157). -/
inductive LineError where
  | none | noise | bit | byte | length | crc | format | txAbandoned | stuck
deriving DecidableEq, Repr

/-- The kinds of a deadline as QUERY_PASSAGE reports them (R79, R157). -/
inductive DeadlineKind where
  | none | arrival | dwell | blindClear
deriving DecidableEq, Repr

/-- The reasons of MAP_INVALID (R12, R157). -/
inductive MapReason where
  | cellCount | approachUnused | cellUnused | cellRepeated | noRoute | safetyCount | nodeReserved | nodeOwn
  | nodeDuplicate
deriving DecidableEq, Repr

/-- A snapshot of the junction (R150). -/
structure Snapshot where
  mode : Mode
  attention : Attention
  tag : BitVec 16
  crc : BitVec 16
  floor : Time
  prior : PriorMode
  causes : HaltCauses
  live : Nat
  queued : Nat
  held : Nat
  locked : Nat
  intruded : Nat
  notices : Nat
deriving DecidableEq, Repr

/-- The data of a DONE verdict, by command (R154). -/
inductive DoneData where
  | identify (straps : BitVec 4) (mode : Mode) (tag crc : BitVec 16)
  | linePattern
  | junctionPart1 (snap : Snapshot)
  | junctionPart2 (snap : Snapshot)
  | passage (carrier : CarrierId) (state : PassageState) (level : Overdue) (kind : DeadlineKind)
      (frozen clamped : Bool) (position : Option Nat) (firstHeld : Nat) (remainder : Time)
  | cell (holder reservation : Option Slot) (inUse : Bool) (lock : Lock) (intruded : Bool) (occupancy : Occupancy)
      (stamp : Time)
  | line (error : LineError) (overrun : Bool) (stamp : Time)
  | withdraw (state : PassageState)
  | lockCells (locked pending : Nat)
  | unlockCells (changed : Nat)
  | setSensor (before : SensorMode) (after : Occupancy)
  | forceRelease (state : PassageState) (released : Nat)
  | openService (flushed : Nat)
  | drain (live : Nat)
  | resume (mode : Mode)
  | restart (flushed : Nat) (mode : Mode)
  | load
  | commitMap (tag crc : BitVec 16)
deriving DecidableEq, Repr

/-- The verdicts with their data (R145). -/
inductive Verdict where
  | done (data : DoneData)
  | queued (slot : Slot) (place : Nat)
  | granted (slot : Slot) (window : Time) (clamped : Bool)
  | refusedMode (mode : Mode)
  | refusedRole
  | unknownRoute
  | unknownPassage
  | duplicate (slot : Slot) (state : PassageState)
  | queueFull
  | poolFull
  | tooLate
  | badValue (field : Nat) (item : Option CellId)
  | mapInvalid (reason : MapReason) (item sub : Option Nat)
  | busy (live : Nat)
  | noSnapshot
  | causePresent (causes : HaltCauses)
deriving DecidableEq, Repr

/-! ### The Line Interface Unit and the Command Decoder -/

/-- The line state (R130, R132). -/
inductive LineState where
  | idle | busy | haltPulse | stuck
deriving DecidableEq, Repr

/-- What the receive shifter and the byte buffer hold of the frame that the LIU is following (R130, R133). -/
inductive Receive where
  /-- Its header, address, payload and CRC are being read: the whole bytes, and the bits of the byte in the shifter,
  oldest first. -/
  | data (bytes : List Byte) (bits : List Bool)
  /-- It has been read to its CRC byte: its bytes, and those of another node's tail that has been followed. -/
  | closing (bytes tail : List Byte)
deriving DecidableEq, Repr

/-- A notice frame in the transmit shifter or the staged buffer: the slot it is for and the notice it carries. Its
bytes are formed as its opening mark is driven (R158, R161, R162). -/
structure TxFrame where
  slot : MasterSlot
  notice : Notice
deriving DecidableEq, Repr

/-- The attempt now on the line: the LOST bit it carries, and the whole frame as it is being sent (R137, R162). -/
structure Attempt where
  lost : Bool
  bytes : List Byte
deriving DecidableEq, Repr

/-- The line error record (R142). -/
structure ErrorRecord where
  kind : LineError
  stamp : Time
  overrun : Bool
deriving DecidableEq, Repr

/-- The verdict tail of the last frame handed to the Decoder, and whether it is still being sent (R136; log entry 25). -/
structure Tail where
  verdict : Verdict
  sending : Bool
deriving DecidableEq, Repr

/-- The LIU (R130). `rx` is the receive shifter and byte buffer, none while no frame is followed; `attempt` is the
part's own frame while it is on the line (R137); `pulse` the cycles for which a halt pulse has been driven (R140). -/
structure Liu where
  line : LineState
  rx : Option Receive
  tail : Option Tail
  shifter : Option TxFrame
  attempt : Option Attempt
  staged : Option TxFrame
  error : ErrorRecord
  own : Node
  pulse : Option Nat
deriving DecidableEq, Repr

/-- The Command Decoder (R144). -/
structure Decoder where
  service : Option Node
  latches : Vector (Option Snapshot) 15
deriving DecidableEq, Repr

/-! ### Hardware reset -/

/-- Where hardware reset stands (R165, R166). -/
inductive ResetPhase where
  | applied | counting | running
deriving DecidableEq, Repr

/-- Hardware reset, its oscillator-ready count in cycles, and the strap value as read (R165, R166). -/
structure Power where
  phase : ResetPhase
  count : Nat
  straps : BitVec 4
deriving DecidableEq, Repr

/-! ### The whole part -/

/-- The state of the part, and the queue of the commands that are waiting, first in, first out. -/
structure State where
  power : Power
  map : MapStore
  book : Book
  marks : Vector (Option Slot) 8
  timer : Timer
  scanner : Scanner
  signals : Vector SignalRec 8
  control : Control
  liu : Liu
  decoder : Decoder
  notices : NoticeUnit
  pending : List Instr
deriving DecidableEq, Repr

/-- No command of the part faults: the spec gives every command an effect, a verdict or no tail in every state. -/
inductive Fault where
deriving DecidableEq, Repr

/-- The reasons a command has no meaning. -/
inductive Refusal where
  /-- Raised by `exec` for a row of the table that is not modelled; no arm raises it. Safe: a run stops. -/
  | notModelled (mnemonic : String)
deriving DecidableEq, Repr

/-- The hardware-reset values of R17. -/
def CellRec.reset : CellRec :=
  { holder := none, reservation := none, lock := .none, intruded := false, occupancy := .free, stamp := 0
    heard := .free }

/-- The empty halt-cause set. -/
def HaltCauses.empty : HaltCauses := { haltPulse := false, estop := false, lineStuck := false, signalFault := false }

/-- The hardware-reset values of R105. -/
def SignalRec.reset : SignalRec :=
  { latch := .stop, raw := .low, count := 0, filtered := .low, extStop := false, fault := false, due := false }

/-- The hardware-reset values of R94. -/
def SensorRec.reset : SensorRec := { mode := .active, raw := .free, count := 0 }

/-- The empty line error record (R142). -/
def ErrorRecord.empty : ErrorRecord := { kind := .none, stamp := 0, overrun := false }

/-- The part at the end of the oscillator-ready count (R166), with the straps read then: every block at the
hardware-reset values of its own chapter, mode UNMAPPED, nothing waiting. -/
def State.afterReset (straps : BitVec 4) : State :=
  { power := { phase := .running, count := 0, straps := straps }
    map :=
      { working := .reset, tag := 0, crc := WorkingMap.reset.crc, enrolment := Vector.replicate 6 .reset }
    book :=
      { cells := Vector.replicate 32 .reset, pool := Vector.replicate 24 none, arrivals := []
        queues := Vector.replicate 8 [] }
    marks := Vector.replicate 8 none
    timer := { floor := 0, interval := Options.reset.tick, cycles := 0 }
    scanner :=
      { sensors := Vector.replicate 32 .reset, ms := 0, cycles := 0, period := Options.reset.divider }
    signals := Vector.replicate 8 .reset
    control :=
      { mode := .unmapped, prior := .unmapped, causes := .empty, settleCount := 0, risesDue := 0
        emergency := { rawAsserted := false, count := 0, asserted := false, due := false } }
    liu :=
      { line := .busy, rx := none, tail := none, shifter := none, attempt := none, staged := none
        error := .empty, own := ownNodeOf straps, pulse := none }
    decoder := { service := none, latches := Vector.replicate 15 none }
    notices :=
      { fifos := Vector.replicate 6 { queue := [], lost := false }, pointer := 0, attempts := 0
        lateLoss := false }
    pending := [] }

/-- The machine right after reset, with no strap fitted (log entry 1). -/
def State.reset : State := State.afterReset Config.openStraps

end Sys2Proof.Machine
end

