-- ==== Sys2Proof/Machine/Layout.lean ====
section
/-! DEFINITION. The numeric values of the named codes (R157) and the bytes that masters see: verdict tails (R145,
R153, R154) and notice frames (R155). -/

namespace Sys2Proof.Machine

/-- Code set "mode" (R157). -/
def Mode.code : Mode → BitVec 3
  | .unmapped => 0 | .service => 1 | .settling => 2 | .running => 3 | .draining => 4 | .halted => 5

/-- The prior mode as a mode; UNMAPPED before the first halt (R116). -/
def PriorMode.toMode : PriorMode → Mode
  | .unmapped => .unmapped | .settling => .settling | .running => .running | .draining => .draining

/-- Code set "halt-cause set" (R157): bit 0 HALT_PULSE, 1 ESTOP, 2 LINE_STUCK, 3 SIGNAL_FAULT. -/
def HaltCauses.code (c : HaltCauses) : BitVec 4 :=
  BitVec.ofBool c.signalFault ++ BitVec.ofBool c.lineStuck ++ BitVec.ofBool c.estop ++ BitVec.ofBool c.haltPulse

/-- Code set "passage state" (R157). -/
def PassageState.code : PassageState → BitVec 2
  | .queued => 0 | .granted => 1 | .entered => 2

/-- Code set "overdue level" (R157). -/
def Overdue.code : Overdue → BitVec 2
  | .normal => 0 | .overdue => 1 | .stalled => 2

/-- Code set "deadline kind" (R157). -/
def DeadlineKind.code : DeadlineKind → BitVec 2
  | .none => 0 | .arrival => 1 | .dwell => 2 | .blindClear => 3

/-- Code set "lock" (R157). -/
def Lock.code : Lock → BitVec 2
  | .none => 0 | .pending => 1 | .locked => 2

/-- Code set "occupancy" (R157). -/
def Occupancy.code : Occupancy → BitVec 2
  | .free => 0 | .occupied => 1 | .blind => 2

/-- Code set "intrusion reason" (R157). -/
def IntrusionReason.code : IntrusionReason → Byte
  | .occupiedFree => 0 | .early => 1 | .skip => 2 | .blindRoute => 3

/-- Code set "map reason" (R157). -/
def MapReason.code : MapReason → Byte
  | .cellCount => 0 | .approachUnused => 1 | .cellUnused => 2 | .cellRepeated => 3 | .noRoute => 4
  | .safetyCount => 5 | .nodeReserved => 6 | .nodeOwn => 7 | .nodeDuplicate => 8

/-- Code set "line error kind" (R157). -/
def LineError.code : LineError → BitVec 4
  | .none => 0 | .noise => 1 | .bit => 2 | .byte => 3 | .length => 4 | .crc => 5 | .format => 6
  | .txAbandoned => 7 | .stuck => 8

/-- Code set "attention index" (R157). -/
def Attention.code : Attention → BitVec 4
  | .none => 0 | .lineStuck => 1 | .signalFault => 2 | .estopActive => 3 | .halted => 4 | .stalled => 5
  | .intruded => 6 | .overdue => 7 | .blocking => 8 | .lockPending => 9 | .fifoLost => 10 | .lineError => 11

/-- A slot number, or FFh for none. -/
def slotByte : Option Slot → Byte
  | none => 0xFF
  | some p => byteOf p.val

/-- A number, or FFh for none. -/
def numberByte : Option Nat → Byte
  | none => 0xFF
  | some n => byteOf n

/-- A mode alone in a byte. -/
def Mode.byte (m : Mode) : Byte := (0 : BitVec 5) ++ m.code

/-- A passage state alone in a byte. -/
def PassageState.byte (s : PassageState) : Byte := (0 : BitVec 6) ++ s.code

/-- The data of a DONE verdict (R154). -/
def DoneData.bytes : DoneData → List Byte
  | .identify straps mode tag crc =>
    [Config.partCode, Config.revision ++ straps, mode.byte] ++ bytes16 tag ++ bytes16 crc
  | .linePattern => [0x55, 0xAA, 0x00, 0xFF]
  | .junctionPart1 snap =>
    [snap.mode.code ++ (0 : BitVec 1) ++ snap.attention.code] ++ bytes16 snap.tag ++ bytes16 snap.crc
      ++ bytes16 snap.floor
  | .junctionPart2 snap =>
    [snap.prior.toMode.code ++ (0 : BitVec 1) ++ snap.causes.code, byteOf snap.live, byteOf snap.queued,
      byteOf snap.held, byteOf snap.locked, byteOf snap.intruded, byteOf snap.notices]
  | .passage carrier state level kind frozen clamped position firstHeld remainder =>
    bytes16 carrier
      ++ [state.code ++ level.code ++ kind.code ++ BitVec.ofBool frozen ++ BitVec.ofBool clamped,
        numberByte position, byteOf firstHeld]
      ++ bytes16 remainder
  | .cell holder reservation inUse lock intruded occupancy stamp =>
    [slotByte holder, slotByte reservation,
      BitVec.ofBool inUse ++ lock.code ++ BitVec.ofBool intruded ++ occupancy.code ++ (0 : BitVec 2)]
      ++ bytes16 stamp
  | .line error overrun stamp => [BitVec.ofBool overrun ++ (0 : BitVec 3) ++ error.code] ++ bytes16 stamp
  | .withdraw state => [state.byte]
  | .lockCells locked pending => [byteOf locked, byteOf pending]
  | .unlockCells changed => [byteOf changed]
  | .setSensor before after => [before.code, (0 : BitVec 6) ++ after.code]
  | .forceRelease state released => [state.byte, byteOf released]
  | .openService flushed => [byteOf flushed]
  | .drain live => [byteOf live]
  | .resume mode => [mode.byte]
  | .restart flushed mode => [byteOf flushed, mode.byte]
  | .load => []
  | .commitMap tag crc => bytes16 tag ++ bytes16 crc

/-- The number of a verdict (R145). -/
def Verdict.code : Verdict → BitVec 5
  | .done _ => 0 | .queued _ _ => 1 | .granted _ _ _ => 2 | .refusedMode _ => 3 | .refusedRole => 4
  | .unknownRoute => 5 | .unknownPassage => 6 | .duplicate _ _ => 7 | .queueFull => 8 | .poolFull => 9
  | .tooLate => 10 | .badValue _ _ => 11 | .mapInvalid _ _ _ => 12 | .busy _ => 13 | .noSnapshot => 14
  | .causePresent _ => 15

/-- The data bytes of a verdict (R145, R153, R154). -/
def Verdict.data : Verdict → List Byte
  | .done data => data.bytes
  | .queued slot place => [slotByte slot, byteOf place]
  | .granted slot window clamped => [slotByte slot] ++ bytes16 window ++ [flagByte clamped]
  | .refusedMode mode => [mode.byte]
  | .duplicate slot state => [slotByte slot, state.byte]
  | .badValue field item => [byteOf field, cellByte item]
  | .mapInvalid reason item sub => [reason.code, numberByte item, numberByte sub]
  | .busy live => [byteOf live]
  | .causePresent causes => [(0 : BitVec 4) ++ causes.code]
  | .refusedRole | .unknownRoute | .unknownPassage | .queueFull | .poolFull | .tooLate | .noSnapshot => []

/-- The tail bytes of a verdict: the verdict byte holds the tail's length less one in bits 7–5 and the code in bits
4–0 (R145). -/
def Verdict.bytes (v : Verdict) : List Byte := (BitVec.ofNat 3 v.data.length ++ v.code) :: v.data

/-- The tail as it is sent: the tail bytes and their CRC-8 (R134, R136). -/
def Verdict.tailBytes (v : Verdict) : List Byte := v.bytes ++ [crc8 v.bytes]

/-- Code set "notice kind" (R157). -/
def NoticeBody.code : NoticeBody → BitVec 4
  | .granted _ => 0 | .lapsed => 1 | .cleared => 2 | .forced => 3 | .flushed => 4 | .overdue => 5
  | .stalled => 6 | .intrusion _ _ => 7 | .locked _ => 8 | .mode _ _ _ => 9

/-- The extra field, by kind (R155). -/
def NoticeBody.extra : NoticeBody → List Byte
  | .granted window => bytes16 window
  | .intrusion cell reason => [byteOf cell.val, reason.code]
  | .locked cell => [byteOf cell.val, 0xFF]
  | .mode m drained causes =>
    [BitVec.ofBool drained ++ (0 : BitVec 4) ++ m.code, (0 : BitVec 4) ++ causes.code]
  | .lapsed | .cleared | .forced | .flushed | .overdue | .stalled => [0, 0]

/-- The eight payload bytes of a notice frame (R155); the LOST bit is taken as the attempt starts (R162). -/
def Notice.payload (n : Notice) (lost : Bool) : List Byte :=
  [n.body.code ++ (0 : BitVec 1) ++ BitVec.ofBool lost ++ BitVec.ofBool n.clamped ++ BitVec.ofBool n.wasOverdue,
    slotByte (n.passage.map Prod.fst)]
    ++ bytes16 ((n.passage.map Prod.snd).getD 0) ++ bytes16 n.stamp ++ n.body.extra

/-- The whole notice frame, header to CRC: priority 5 and kind 31, from node `own` to node `dest` (R155). -/
def TxFrame.bytes (own dest : Node) (f : TxFrame) (lost : Bool) : List Byte :=
  let body := [headerByte 5 31, addressByte dest own] ++ f.notice.payload lost
  body ++ [crc8 body]

/-- The notice frame as the part sends it: from its own node, to the node that the committed enrolment gives the slot
at that moment (R6, R158, R161). -/
def State.noticeFrame (s : State) (f : TxFrame) (lost : Bool) : List Byte :=
  f.bytes s.liu.own s.map.enrolment[f.slot].node lost

end Sys2Proof.Machine
end

