-- ==== Sys2Proof/Machine/Flags.lean ====
section
/-! DEFINITION. What is read off the state: the records of a cell, a passage and an approach, the counts of R38, the
attention index of R163, the drained flag of R117, who is enrolled (R6, R143), the levels the part drives. -/

namespace Sys2Proof.Machine

/-! ### Records -/

/-- The cell record of a cell (R17). -/
def State.cell (s : State) (c : CellId) : CellRec := s.book.cells[c]

/-- The sensor record of a cell (R94). -/
def State.sensor (s : State) (c : CellId) : SensorRec := s.scanner.sensors[c]

/-- Whether a cell is in use in the map (R3, R17). -/
def State.cellInUse (s : State) (c : CellId) : Bool := s.map.working.cells[c].inUse

/-- The passage record in a slot, none for a free slot (R19). -/
def State.passage (s : State) (p : Slot) : Option Passage := s.book.pool[p]

/-- The approach record of the Signal Unit (R105). -/
def State.signal (s : State) (a : ApproachId) : SignalRec := s.signals[a]

/-- The approach queue, head first (R22). -/
def State.queue (s : State) (a : ApproachId) : List Slot := s.book.queues[a]

/-- The route table entry of a passage. -/
def State.routeOf (s : State) (q : Passage) : RouteEntry := s.map.working.routes[q.route]

/-- The entry approach of a passage's route (R5). -/
def State.approachOf (s : State) (q : Passage) : ApproachId := (s.routeOf q).approach

/-- The cells of a passage's route, in route order (R5). -/
def State.cellsOf (s : State) (q : Passage) : List CellId := (s.routeOf q).cells

/-- A passage in GRANTED or ENTERED (00_scope.md section 5). -/
def Passage.live (q : Passage) : Bool := q.state ≠ .queued

/-- The cells a passage holds: its route from the first held index on while it is live (R18). -/
def State.heldRun (s : State) (q : Passage) : List CellId :=
  if q.live then (s.cellsOf q).drop q.firstHeld else []

/-- All the slots whose passage satisfies a condition, in ascending order. -/
def State.slotsWhere (s : State) (f : Passage → Bool) : List Slot :=
  (List.finRange 24).filter fun p => (s.passage p).any f

/-- The GRANTED passage of an approach, if it has one (R43). -/
def State.grantedOn (s : State) (a : ApproachId) : Option Slot :=
  (s.slotsWhere fun q => q.state = .granted && s.approachOf q = a).head?

/-- The modes with a committed map in force (R96, R129): SETTLING, RUNNING, DRAINING and HALTED. -/
def Mode.operating : Mode → Bool
  | .settling | .running | .draining | .halted => true
  | .unmapped | .service => false

/-! ### The counts of R38 -/

/-- Queued count: passages in the arrival-order list. -/
def State.queuedCount (s : State) : Nat := s.book.arrivals.length

/-- Live count: passages in GRANTED or ENTERED. -/
def State.liveCount (s : State) : Nat := (s.slotsWhere Passage.live).length

/-- Cells whose record satisfies a condition, counted. -/
def State.countCells (s : State) (f : CellRec → Bool) : Nat := (s.book.cells.toList.filter f).length

/-- Held cells. -/
def State.heldCount (s : State) : Nat := s.countCells fun r => r.holder.isSome

/-- Locked cells: those whose lock is LOCKED. -/
def State.lockedCount (s : State) : Nat := s.countCells fun r => r.lock = .locked

/-- Intruded cells. -/
def State.intrudedCount (s : State) : Nat := s.countCells fun r => r.intruded

/-! ### Halt causes, the drained flag and the attention index -/

/-- No halt cause is present. -/
def HaltCauses.isEmpty (c : HaltCauses) : Bool := c = HaltCauses.empty

/-- The drained flag of a MODE notice (R117). -/
def State.drained (s : State) : Bool :=
  (s.control.mode = .draining || (s.control.mode = .halted && s.control.prior = .draining)) && s.liveCount = 0

/-- Some approach is at fault (R110). -/
def State.anyFault (s : State) : Bool := s.signals.toList.any SignalRec.fault

/-- Some passage has this overdue level. -/
def State.anyOverdue (s : State) (level : Overdue) : Bool := s.slotsWhere (fun q => q.overdue = level) ≠ []

/-- The attention index: the highest-ranked condition present (R163). -/
def State.attention (s : State) : Attention :=
  if s.liu.line = .stuck then .lineStuck
  else if s.anyFault then .signalFault
  else if s.control.emergency.asserted then .estopActive
  else if s.control.mode = .halted then .halted
  else if s.anyOverdue .stalled then .stalled
  else if 0 < s.intrudedCount then .intruded
  else if s.anyOverdue .overdue then .overdue
  else if s.slotsWhere (fun q => q.state = .queued && q.blocking) ≠ [] then .blocking
  else if s.book.cells.toList.any (fun r => r.lock = .pending) then .lockPending
  else if s.notices.fifos.toList.any Fifo.lost then .fifoLost
  else if s.liu.error.kind ≠ .none then .lineError
  else .none

/-! ### Enrolment -/

/-- The slot in use whose node is this one, in the committed enrolment (R143). -/
def State.enrolledSlot (s : State) (n : Node) : Option MasterSlot :=
  (List.finRange 6).find? fun k => s.map.enrolment[k].inUse && s.map.enrolment[k].node = n

/-- The slot with role SAFETY in the committed enrolment (R143). -/
def State.safetySlot (s : State) : Option MasterSlot :=
  (List.finRange 6).find? fun k => s.map.enrolment[k].inUse && s.map.enrolment[k].role = .safety

/-- A slot of the committed enrolment has role SAFETY. -/
def State.isSafety (s : State) (k : MasterSlot) : Bool := s.map.enrolment[k].role = .safety

/-- The number of notices in the FIFO of a node's slot, 0 for a node that has no slot (R150). -/
def State.noticeCount (s : State) (n : Node) : Nat :=
  match s.enrolledSlot n with
  | none => 0
  | some k => s.notices.fifos[k].queue.length

/-- The snapshot that QUERY_JUNCTION part 1 takes for a node (R150). -/
def State.snapshot (s : State) (n : Node) : Snapshot :=
  { mode := s.control.mode, attention := s.attention, tag := s.map.tag, crc := s.map.crc, floor := s.timer.floor
    prior := s.control.prior, causes := s.control.causes, live := s.liveCount, queued := s.queuedCount
    held := s.heldCount, locked := s.lockedCount, intruded := s.intrudedCount, notices := s.noticeCount n }

/-! ### Deadlines as they are read -/

/-- The kind of a deadline record (R79). -/
def Deadline.kind (d : Deadline) : DeadlineKind :=
  match d.run with
  | none => .none
  | some r => match r.kind with
    | .arrival => .arrival
    | .dwell => .dwell
    | .blindClear => .blindClear

/-- The remainder a master sees (R80). -/
def Deadline.remainder (d : Deadline) (now : Time) : Time :=
  match d.run with
  | none => 0
  | some r => match r.clock with
    | .armed deadline => deadline - now
    | .frozen remainder => remainder

/-- The frozen bit of QUERY_PASSAGE (R154): a cause is present and the kind is not NONE. -/
def Deadline.frozenBit (d : Deadline) : Bool := (d.halt || d.extStop) && d.run.isSome

/-- An armed deadline of this kind whose floor time has been reached (R80, R87). -/
def Deadline.dueAs (d : Deadline) (kind : ArmedKind) (now : Time) : Bool :=
  match d.run with
  | none => false
  | some r => r.kind = kind && r.clock = .armed now

/-! ### What the part drives -/

/-- The part pulls an approach's signal line low: while the latch is STOP, and throughout hardware reset (R107, R165). -/
def State.signalDrivenLow (s : State) (a : ApproachId) : Bool :=
  s.power.phase ≠ .running || (s.signal a).latch = .stop

/-- The part holds the floor line dominant for a halt pulse; during hardware reset it releases the line (R140, R165). -/
def State.lineDrivenDominant (s : State) : Bool := s.power.phase = .running && s.liu.pulse.isSome

end Sys2Proof.Machine
end

