-- ==== Sys2Proof/Machine/Ops.lean ====
section
/-! DEFINITION. The operations the commands share, block by block: updating a record, posting a notice, deadlines,
latches, releases and removals, the grant pass, the Tracker's work on a change report, halting, entering SETTLING. -/

namespace Sys2Proof.Machine

/-! ### Updating one record -/

/-- Replaces one cell record. -/
def State.setCell (s : State) (c : CellId) (r : CellRec) : State :=
  { s with book := { s.book with cells := s.book.cells.set c r } }

/-- Replaces one slot of the pool. -/
def State.setPassage (s : State) (p : Slot) (q : Option Passage) : State :=
  { s with book := { s.book with pool := s.book.pool.set p q } }

/-- Changes the record in a slot; a free slot stays free. -/
def State.modPassage (s : State) (p : Slot) (f : Passage → Passage) : State :=
  s.setPassage p ((s.passage p).map f)

/-- Replaces the arrival-order list. -/
def State.setArrivals (s : State) (l : List Slot) : State := { s with book := { s.book with arrivals := l } }

/-- Replaces one approach queue. -/
def State.setQueue (s : State) (a : ApproachId) (l : List Slot) : State :=
  { s with book := { s.book with queues := s.book.queues.set a l } }

/-- Replaces one blind-route mark. -/
def State.setMark (s : State) (a : ApproachId) (m : Option Slot) : State := { s with marks := s.marks.set a m }

/-- Replaces one sensor record. -/
def State.setSensor (s : State) (c : CellId) (r : SensorRec) : State :=
  { s with scanner := { s.scanner with sensors := s.scanner.sensors.set c r } }

/-- Replaces one approach record of the Signal Unit. -/
def State.setSignal (s : State) (a : ApproachId) (r : SignalRec) : State := { s with signals := s.signals.set a r }

/-- Replaces one notice FIFO. -/
def State.setFifo (s : State) (k : MasterSlot) (f : Fifo) : State :=
  { s with notices := { s.notices with fifos := s.notices.fifos.set k f } }

/-- Replaces the state of the LIU. -/
def State.setLiu (s : State) (l : Liu) : State := { s with liu := l }

/-- Replaces the state of the Mode Controller. -/
def State.setControl (s : State) (c : Control) : State := { s with control := c }

/-- Replaces the working map. -/
def State.setWorking (s : State) (m : WorkingMap) : State := { s with map := { s.map with working := m } }

/-! ### Notices (R159 to R162) -/

/-- The slots in the order a selection examines them: cyclically from the round-robin pointer (R161). -/
def State.searchOrder (s : State) : List MasterSlot := (List.finRange 6).map fun i => s.notices.pointer + i

/-- The slot whose notice is in the transmit shifter. -/
def State.shifterSlot (s : State) : Option MasterSlot := s.liu.shifter.map TxFrame.slot

/-- The first slot, from the pointer on, whose FIFO is not empty and whose head is not in the shifter, with that
head (R161). -/
def State.selected (s : State) : Option TxFrame :=
  s.searchOrder.findSome? fun k =>
    match s.notices.fifos[k].queue with
    | [] => none
    | n :: _ => if s.shifterSlot = some k then none else some { slot := k, notice := n }

/-- One selection (R161): fills the shifter if it is empty, else the staged buffer if it is empty. -/
def State.select (s : State) : State :=
  match s.liu.shifter, s.liu.staged, s.selected with
  | none, _, some f =>
    { s with
      liu := { s.liu with shifter := some f, attempt := none }
      notices := { s.notices with pointer := f.slot + 1, attempts := 0, lateLoss := false } }
  | some _, none, some f =>
    { s with
      liu := { s.liu with staged := some f }
      notices := { s.notices with pointer := f.slot + 1 } }
  | _, _, _ => s

/-- The staged frame moves into an empty shifter (R138, R161). -/
def State.promote (s : State) : State :=
  match s.liu.shifter, s.liu.staged with
  | none, some f =>
    { s with
      liu := { s.liu with shifter := some f, staged := none, attempt := none }
      notices := { s.notices with attempts := 0, lateLoss := false } }
  | _, _ => s

/-- Shifter and staged buffer are kept filled (R161): the staged frame moves up, then each empty place is selected
for (log entry 27). -/
def State.refill (s : State) : State := s.promote.select.select

/-- A notice joins one FIFO, which may be full (R160). A slot not in use gets no copy (R159). -/
def State.enqueue (s : State) (k : MasterSlot) (n : Notice) : State :=
  let f := s.notices.fifos[k]
  if !s.map.enrolment[k].inUse then s
  else if f.queue.length < Config.fifoDepth then (s.setFifo k { f with queue := f.queue ++ [n] }).refill
  else
    let inShifter := s.shifterSlot = some k
    let s := if inShifter then { s with notices := { s.notices with lateLoss := true } } else s
    match s.map.enrolment[k].option with
    | .keepOldest => s.setFifo k { f with lost := true }
    | .keepNewest =>
      let kept := if inShifter then f.queue.take 1 ++ f.queue.drop 2 else f.queue.drop 1
      let s := s.setFifo k { queue := kept ++ [n], lost := true }
      let s := if !inShifter && s.liu.staged.map TxFrame.slot = some k then
        s.setLiu { s.liu with staged := none } else s
      s.refill

/-- Posts a notice to several slots, in ascending slot order (DESIGN CHOICE, log entry 14). -/
def State.postTo (s : State) (receivers : List MasterSlot) (n : Notice) : State :=
  receivers.foldl (fun s k => s.enqueue k n) s

/-- A notice as it is posted now (R159); `who` is the passage it names. -/
def State.note (s : State) (body : NoticeBody) (who : Option (Slot × Passage)) : Notice :=
  { body := body
    passage := who.map fun w => (w.1, w.2.carrier)
    stamp := s.timer.floor
    clamped := who.any fun w => w.2.clamped
    wasOverdue := body = .cleared && who.any fun w => w.2.wasOverdue }

/-- Posts to the safety master (R159). -/
def State.postSafety (s : State) (n : Notice) : State := s.postTo s.safetySlot.toList n

/-- Posts a notice about a passage to its owner (R159). -/
def State.postOwner (s : State) (body : NoticeBody) (p : Slot) (q : Passage) : State :=
  s.postTo [q.master] (s.note body (some (p, q)))

/-- Posts a notice about a passage to its owner and to the safety master, one copy where the two are one slot
(R159). -/
def State.postOwnerAndSafety (s : State) (body : NoticeBody) (p : Slot) (q : Passage) : State :=
  s.postTo ((List.finRange 6).filter fun k => k = q.master || some k = s.safetySlot) (s.note body (some (p, q)))

/-- Posts a MODE notice, naming the state as it now is, to every slot (R117). -/
def State.postMode (s : State) : State :=
  s.postTo (List.finRange 6) (s.note (.mode s.control.mode s.drained s.control.causes) none)

/-! ### Deadlines (R79 to R92) -/

/-- Division rounded up (5.3). -/
def ceilDiv (a b : Nat) : Nat := (a + b - 1) / b

/-- The acceleration for a load class, in cm/s² (R81). -/
def acceleration : Nat → Nat
  | 0 => 50
  | 1 => 40
  | 2 => 25
  | _ => 15

/-- The arrival time of a passage in ms (R82). -/
def arrivalTime (distance speed load : Nat) : Nat :=
  ceilDiv (distance * 1000) speed + ceilDiv (speed * 500) (acceleration load)

/-- The traverse time of a cell in ms (R83). -/
def traverseTime (cellLength carrierLength speed : Nat) : Nat := ceilDiv ((cellLength + carrierLength) * 1000) speed

/-- A time in ms as ticks, before saturation (R84). -/
def ticksOf (o : Options) (ms : Nat) : Nat := ceilDiv (ms * o.dwell) (8 * o.tick)

/-- The window used, and whether it is saturated (R84). -/
def windowOf (o : Options) (ms : Nat) : Nat × Bool :=
  if Config.windowLimit < ticksOf o ms then (Config.windowLimit, true) else (ticksOf o ms, false)

/-- Freezing (R92). A deadline that floor time has just reached, its expiry not yet taken, keeps remainder 1: the
cause is then the one taken first (R93; log entry 9). -/
def Clock.freeze (now : Time) : Clock → Clock
  | .armed deadline => .frozen (if deadline = now then 1 else deadline - now)
  | .frozen remainder => .frozen remainder

/-- Restoring (R92). -/
def Clock.restore (now : Time) : Clock → Clock
  | .armed deadline => .armed deadline
  | .frozen remainder => .armed (now + remainder)

/-- The freeze-cause set becomes the one given, with what that does to the deadline (R92). -/
def Deadline.setCauses (d : Deadline) (halt extStop : Bool) (now : Time) : Deadline :=
  let before := d.halt || d.extStop
  let after := halt || extStop
  let move : Clock → Clock :=
    if !before && after then Clock.freeze now else if before && !after then Clock.restore now else id
  { run := d.run.map fun r => { r with clock := move r.clock }, halt := halt, extStop := extStop }

/-- HALT joins (R91). -/
def Deadline.joinHalt (d : Deadline) (now : Time) : Deadline := d.setCauses true d.extStop now

/-- HALT leaves (R91). -/
def Deadline.leaveHalt (d : Deadline) (now : Time) : Deadline := d.setCauses false d.extStop now

/-- EXT_STOP joins (R91). -/
def Deadline.joinExtStop (d : Deadline) (now : Time) : Deadline := d.setCauses d.halt true now

/-- EXT_STOP leaves (R91). -/
def Deadline.leaveExtStop (d : Deadline) (now : Time) : Deadline := d.setCauses d.halt false now

/-- An arming (R86): EXT_STOP leaves with the ARRIVAL it applies to; the new deadline is armed while the set is empty,
and otherwise frozen at its full window. -/
def Deadline.arm (d : Deadline) (kind : ArmedKind) (window now : Time) : Deadline :=
  let extStop := d.extStop && d.kind ≠ .arrival
  { run := some
      { kind := kind, window := window
        clock := if d.halt || extStop then .frozen window else .armed (now + window) }
    halt := d.halt, extStop := extStop }

/-- The deadline of a passage is armed with the window of a time in ms, and the clamped flag set if that window is
saturated (R84 to R86). -/
def Passage.armFor (q : Passage) (kind : ArmedKind) (o : Options) (ms : Nat) (now : Time) : Passage :=
  let w := windowOf o ms
  { q with
    deadline := q.deadline.arm kind (BitVec.ofNat 16 w.1) now
    clamped := q.clamped || w.2 }

/-- The traverse time of a cell for a passage (R83). -/
def State.traverseMs (s : State) (q : Passage) (c : CellId) : Nat :=
  traverseTime s.map.working.cells[c].length q.length q.speed

/-- The arrival time of a passage (R82). -/
def State.arrivalMs (s : State) (q : Passage) : Nat :=
  arrivalTime s.map.working.approaches[s.approachOf q].distance q.speed q.load

/-- Changes the deadline record of the passage in a slot. -/
def State.modDeadline (s : State) (p : Slot) (f : Deadline → Deadline) : State :=
  s.modPassage p fun q => { q with deadline := f q.deadline }

/-- Changes every live passage's deadline record (R91). -/
def State.modLiveDeadlines (s : State) (f : Deadline → Deadline) : State :=
  { s with book := { s.book with
      pool := Vector.ofFn fun p => (s.passage p).map fun q =>
        if q.live then { q with deadline := f q.deadline } else q } }

/-! ### Latches (R106 to R109) -/

/-- The readback level a latch expects (R108). -/
def Latch.expects : Latch → Level
  | .go => .high
  | .stop => .low

/-- The latch of an approach changes: its readback filter restarts at the level the new latch expects, and an external
stop ends, EXT_STOP leaving the GRANTED passage's set (R106, R108, R109). A latch that stays as it is changes
nothing. A completing sample not yet taken falls away with the restart, even where one event takes the latch from GO to
STOP and back to GO: the sample is not counted against the new filter (DESIGN CHOICE, log entry 31). -/
def State.setLatch (s : State) (a : ApproachId) (latch : Latch) : State :=
  let r := s.signal a
  if r.latch = latch then s
  else
    let s := s.setSignal a
      { r with latch := latch, raw := latch.expects, count := 0, filtered := latch.expects, extStop := false
               due := false }
    if r.extStop then
      match s.grantedOn a with
      | none => s
      | some p => s.modDeadline p fun d => d.leaveExtStop s.timer.floor
    else s

/-! ### Releases and removals (R23 to R25) -/

/-- Marks a cell intruded and posts the INTRUSION notice with its reason, the passage it names and its stamp (R59,
R61). -/
def State.intrude (s : State) (c : CellId) (reason : IntrusionReason) (who : Option (Slot × Passage))
    (stamp : Time) : State :=
  let s := s.setCell c { s.cell c with intruded := true }
  s.postSafety { s.note (.intrusion c reason) who with stamp := stamp }

/-- A release (R23, steps 1 to 3) of a cell of the passage `q` in slot `p`. Step 3 reads the occupancy the Tracker has
heard (log entry 5). A pending lock becomes LOCKED in a flush too (DESIGN CHOICE, log entry 35). -/
def State.release (s : State) (p : Slot) (q : Passage) (c : CellId) : State :=
  let r := s.cell c
  let s := s.setCell c { r with holder := none, lock := if r.lock = .pending then .locked else r.lock }
  let s := if r.lock = .pending then s.postSafety (s.note (.locked c) none) else s
  if r.heard = .occupied && !r.intruded then s.intrude c .occupiedFree (some (p, q)) s.timer.floor else s

/-- Releases every cell a passage still holds, in route order (R24, step 2). -/
def State.releaseRun (s : State) (p : Slot) (q : Passage) : State :=
  (s.heldRun q).foldl (fun s c => s.release p q c) s

/-- A passage leaves the arrival-order list and its approach queue, and the blind-route mark that names it becomes none
(R22, R39). -/
def State.leaveLists (s : State) (p : Slot) (a : ApproachId) : State :=
  let s := s.setArrivals (s.book.arrivals.filter fun x => x ≠ p)
  let s := s.setQueue a ((s.queue a).filter fun x => x ≠ p)
  if s.marks[a] = some p then s.setMark a none else s

/-- Every reservation that names a passage becomes none (R53). -/
def State.clearReservations (s : State) (p : Slot) : State :=
  { s with book := { s.book with
      cells := Vector.ofFn fun c =>
        if (s.cell c).reservation = some p then { s.cell c with reservation := none } else s.cell c } }

/-- The outcomes of a passage (R24). -/
inductive Outcome where
  | lapsed | withdrawn | forced | flushed | cleared
deriving DecidableEq, Repr

/-- The notice of an outcome; WITHDRAWN posts none (R24). -/
def Outcome.body : Outcome → Option NoticeBody
  | .lapsed => some .lapsed
  | .withdrawn => none
  | .forced => some .forced
  | .flushed => some .flushed
  | .cleared => some .cleared

/-- A removal (R24, steps 1 to 4). Step 5, the grant pass, belongs to the removing event. -/
def State.remove (s : State) (p : Slot) (outcome : Outcome) : State :=
  match s.passage p with
  | none => s
  | some q =>
    let s :=
      if q.live then
        let s := s.releaseRun p q
        let s := s.modDeadline p fun d => { d with run := none }
        if q.state = .granted then s.setLatch (s.approachOf q) .stop else s
      else
        let s := s.leaveLists p (s.approachOf q)
        if q.blocking then s.clearReservations p else s
    let s := s.setPassage p none
    match outcome.body with
    | none => s
    | some body => s.postOwner body p q

/-- A flush of the passages that satisfy a condition, in ascending slot order (R25). Its releases take pending locks to
LOCKED, in RESTART's flush too, where R38 says that the locked count is unchanged (DESIGN CHOICE, log entry 35). -/
def State.flush (s : State) (which : Passage → Bool) : State :=
  (s.slotsWhere which).foldl (fun s p => s.remove p .flushed) s

/-! ### The grant pass (R40 to R54) -/

/-- A passage with its slot, as the pass found it. -/
abbrev Entrant := Slot × Passage

/-- A cell of the passage's route is not BLIND (R43). -/
def State.canSee (s : State) (q : Passage) : Bool := (s.cellsOf q).any fun c => (s.cell c).occupancy ≠ .blind

/-- Stage 1 for one approach (R43, R44): the head may join the candidates, or be reported blind once. -/
def State.considerHead (a : ApproachId) (sc : State × List Entrant) : State × List Entrant :=
  let s := sc.1
  match s.queue a with
  | [] => (s.setMark a none, sc.2)
  | p :: _ =>
    match s.grantedOn a, s.passage p with
    | none, some q =>
      if s.canSee q then (s.setMark a none, sc.2 ++ [(p, q)])
      else if s.marks[a] = some p then sc
      else
        let s := match (s.cellsOf q).head? with
          | none => s
          | some c => s.postSafety (s.note (.intrusion c .blindRoute) (some (p, q)))
        (s.setMark a (some p), sc.2)
    | _, _ => sc

/-- Stage 1 (R42), approaches in ascending order (DESIGN CHOICE, log entry 14). -/
def State.candidates (s : State) : State × List Entrant :=
  (List.finRange 8).foldl (fun sc a => State.considerHead a sc) (s, [])

/-- The place of a slot in the arrival-order list at the start of the pass; older is smaller (R22). -/
def placeIn (order : List Slot) (p : Slot) : Nat := order.idxOf p

/-- Grant order (R45): blocking first, then higher priority class, then older. -/
def goesBefore (order : List Slot) (x y : Entrant) : Bool :=
  if x.2.blocking ≠ y.2.blocking then x.2.blocking
  else if x.2.priority ≠ y.2.priority then y.2.priority < x.2.priority
  else placeIn order x.1 < placeIn order y.1

/-- Inserts a candidate at its place in grant order. -/
def insertCandidate (order : List Slot) (x : Entrant) : List Entrant → List Entrant
  | [] => [x]
  | y :: rest => if goesBefore order x y then x :: y :: rest else y :: insertCandidate order x rest

/-- Stage 2 (R42, R45). -/
def grantOrder (order : List Slot) (candidates : List Entrant) : List Entrant :=
  candidates.foldr (insertCandidate order) []

/-- The four conditions on one cell of a candidate's route (R46). -/
def CellRec.eligible (r : CellRec) (p : Slot) : Bool :=
  r.holder = none && r.lock = .none && !r.intruded && (r.reservation = none || r.reservation = some p)

/-- A candidate's route is eligible (R46). -/
def State.eligible (s : State) (p : Slot) (q : Passage) : Bool := (s.cellsOf q).all fun c => (s.cell c).eligible p

/-- Every cell of a list gets this holder (R47, step 1). -/
def State.takeCells (s : State) (p : Slot) (cells : List CellId) : State :=
  cells.foldl (fun s c => s.setCell c { s.cell c with holder := some p }) s

/-- A grant (R47, R48). The passage named by `quiet` is told by its verdict and gets no notice. -/
def State.grant (s : State) (quiet : Option Slot) (p : Slot) (q : Passage) : State :=
  let a := s.approachOf q
  let s := s.takeCells p (s.cellsOf q)
  let s := s.clearReservations p
  let s := s.leaveLists p a
  let q := { q with state := .granted, firstHeld := 0, position := none, skips := 0, blocking := false }
  let q := q.armFor .arrival s.map.working.options (s.arrivalMs q) s.timer.floor
  let s := s.setPassage p (some q)
  let s := s.setLatch a .go
  if quiet = some p then s
  else s.postOwner (.granted (BitVec.ofNat 16 (windowOf s.map.working.options (s.arrivalMs q)).1)) p q

/-- Stage 3 for one candidate: granted at once if its route is eligible (R42). -/
def State.examineOne (quiet : Option Slot) (sg : State × List Entrant) (x : Entrant) : State × List Entrant :=
  if sg.1.eligible x.1 x.2 then (sg.1.grant quiet x.1 x.2, sg.2 ++ [x]) else sg

/-- Stage 3 (R42): the candidates in grant order. -/
def State.examine (s : State) (quiet : Option Slot) (ordered : List Entrant) : State × List Entrant :=
  ordered.foldl (State.examineOne quiet) (s, [])

/-- A candidate that was not granted was passed over by a younger, cell-sharing grant (R49). -/
def State.passedOver (s : State) (order : List Slot) (granted : List Entrant) (h : Entrant) : Bool :=
  granted.any fun g =>
    placeIn order h.1 < placeIn order g.1 && (s.cellsOf g.2).any fun c => c ∈ s.cellsOf h.2

/-- One skip, while the count is below the limit; reaching the limit turns the passage blocking (R50, R51). -/
def Passage.gainSkip (q : Passage) (limit : Nat) : Passage :=
  if q.skips < limit then { q with skips := q.skips + 1, blocking := q.blocking || q.skips + 1 = limit } else q

/-- Skip accounting (R49 to R51) for the candidates that were not granted. -/
def State.account (s : State) (order : List Slot) (ordered granted : List Entrant) : State :=
  ordered.foldl (fun s h =>
    if !(granted.any fun g => g.1 = h.1) && s.passedOver order granted h then
      s.modPassage h.1 fun q => q.gainSkip s.map.working.options.skipLimit
    else s) s

/-- The reservation sweep for one passage (R52). -/
def State.reserveFor (s : State) (p : Slot) : State :=
  match s.passage p with
  | none => s
  | some q =>
    let holdsOne := s.book.cells.toList.any fun r => r.reservation = some p
    let clear := (s.cellsOf q).all fun c => (s.cell c).reservation = none || (s.cell c).reservation = some p
    if q.state = .queued && q.blocking && !holdsOne && clear then
      (s.cellsOf q).foldl (fun s c => s.setCell c { s.cell c with reservation := some p }) s
    else s

/-- The reservation sweep, in arrival order (R52). -/
def State.sweep (s : State) : State := s.book.arrivals.foldl State.reserveFor s

/-- The four stages of a pass (R42). -/
def State.runPass (s : State) (quiet : Option Slot) : State :=
  let order := s.book.arrivals
  let formed := s.candidates
  let ordered := grantOrder order formed.2
  let examined := formed.1.examine quiet ordered
  (examined.1.account order ordered examined.2).sweep

/-- A grant pass, which runs only in RUNNING (R41). -/
def State.grantPass (s : State) (quiet : Option Slot) : State :=
  if s.control.mode = .running then s.runPass quiet else s

/-- The end of an event's work on the book, begun at `before`: the drained MODE notice if the live count has just
become 0 in DRAINING (R117, R123), then at most one grant pass (R40). -/
def State.afterEvent (before s : State) (startsPass : Bool) : State :=
  let s := if s.control.mode = .draining && 0 < before.liveCount && s.liveCount = 0 then s.postMode else s
  if startsPass then s.grantPass none else s

/-! ### The Carrier Tracker (R59 to R71) -/

/-- The occupancy of a cell as the Tracker has heard it (log entry 5). -/
def State.heard (s : State) (c : CellId) : Occupancy := (s.cell c).heard

/-- The first cell that is not BLIND, with its route index (R62). -/
def State.entryCell (s : State) (q : Passage) : Option (Nat × CellId) :=
  ((s.cellsOf q).zipIdx.find? fun x => s.heard x.1 ≠ .blind).map fun x => (x.2, x.1)

/-- The release condition of the first cell of a held run that begins at route index `i`, the carrier's nose at
`pos` (R68). -/
def meetsCondition (heard : CellId → Occupancy) (pos : Nat) : Nat → List CellId → Bool
  | _, [] => false
  | i, c :: rest =>
    match heard c with
    | .occupied => false
    | .free => i < pos || (i = pos && rest.all fun d => heard d = .blind)
    | .blind => meetsCondition heard pos (i + 1) rest

/-- Releases cells from the front of a held run while they meet their condition (R67), the first held index advancing
with each (R23, step 4). Answers what is still held. -/
def State.releaseFront (p : Slot) (pos : Nat) : Nat → List CellId → State → State × List CellId
  | _, [], s => (s, [])
  | i, c :: rest, s =>
    match s.passage p with
    | none => (s, c :: rest)
    | some q =>
      if meetsCondition s.heard pos i (c :: rest) then
        let s := (s.release p q c).modPassage p fun q => { q with firstHeld := i + 1 }
        State.releaseFront p pos (i + 1) rest s
      else (s, c :: rest)

/-- BLIND_CLEAR is armed with the window of the route's last cell (R69, R85). -/
def State.armBlindClear (s : State) (p : Slot) : State :=
  s.modPassage p fun q =>
    match (s.cellsOf q).getLast? with
    | none => q
    | some c => q.armFor .blindClear s.map.working.options (s.traverseMs q c) s.timer.floor

/-- The release examination (R67), with the clearing of a passage that holds no more cells and the arming of R69;
`toBlind` says that a held cell has just changed to BLIND. Answers whether a cell was released. -/
def State.examination (s : State) (p : Slot) (toBlind : Bool) : State × Bool :=
  match s.passage p with
  | none => (s, false)
  | some q =>
    if q.state = .entered then
      let held := s.heldRun q
      let done := State.releaseFront p (q.position.getD 0) q.firstHeld held s
      let released := decide (done.2.length < held.length)
      if done.2 = [] then (if released then done.1.remove p .cleared else done.1, released)
      else if (released || toBlind) && done.2.all (fun c => done.1.heard c = .blind) then
        (done.1.armBlindClear p, released)
      else (done.1, released)
    else (s, false)

/-- The DWELL of a cell is armed, replacing what the record held (R63, R65, R85). -/
def State.armDwell (s : State) (p : Slot) (c : CellId) : State :=
  s.modPassage p fun q => q.armFor .dwell s.map.working.options (s.traverseMs q c) s.timer.floor

/-- Entry (R63, steps 1 to 4) at route index `k`, the cell `c`. -/
def State.enter (s : State) (p : Slot) (q : Passage) (k : Nat) (c : CellId) : State :=
  let s := s.setPassage p (some { q with state := .entered, position := some k, firstHeld := 0 })
  let s := s.setLatch (s.approachOf q) .stop
  let s := s.armDwell p c
  (s.examination p false).1

/-- Advance (R65, steps 1 to 3) to route index `k`, the cell `c`. -/
def State.advance (s : State) (p : Slot) (k : Nat) (c : CellId) : State :=
  (s.modPassage p fun q => { q with position := some k, overdue := .normal }).armDwell p c

/-- A held cell of an ENTERED passage becomes OCCUPIED: no effect, advance, or SKIP (R60, R65, R66). -/
def State.occupiedAhead (s : State) (p : Slot) (q : Passage) (c : CellId) (stamp : Time) : State :=
  let cells := s.cellsOf q
  let pos := q.position.getD 0
  let k := cells.idxOf c
  if k ≤ pos then s
  else if ((cells.take k).drop (pos + 1)).all fun d => s.heard d = .blind then s.advance p k c
  else s.intrude c .skip (some (p, q)) stamp

/-- The Tracker takes one change report (R59 to R71): cell, new occupancy, stamp. Answers whether the event starts a
grant pass (R40). -/
def State.takeChange (s : State) (c : CellId) (occ : Occupancy) (stamp : Time) : State × Bool :=
  let r := s.cell c
  let away := occ ≠ .occupied
  let s := s.setCell c { r with heard := occ, intruded := r.intruded && !away }
  let cleared := r.intruded && away
  match r.holder.bind fun p => (s.passage p).map fun q => (p, q) with
  | none => (if away then s else s.intrude c .occupiedFree none stamp, cleared)
  | some (p, q) =>
    match q.state with
    | .queued => (s, cleared)
    | .granted =>
      if away then (s, cleared)
      else match s.entryCell q with
        | some (k, d) =>
          if d = c then (s.enter p q k c, true) else (s.intrude c .early (some (p, q)) stamp, false)
        | none => (s.intrude c .early (some (p, q)) stamp, false)
    | .entered =>
      let s := if away then s else s.occupiedAhead p q c stamp
      let done := s.examination p (decide (occ = .blind))
      (done.1, cleared || done.2)

/-! ### Sensors (R99, R101) -/

/-- A sensor goes to STANDBY (R99): the report BLIND is taken at once (log entry 11). -/
def State.toStandby (s : State) (c : CellId) : State × Bool :=
  let s := s.setSensor c { s.sensor c with mode := .standby, count := 0 }
  let s := s.setCell c { s.cell c with occupancy := .blind, stamp := s.timer.floor }
  s.takeChange c .blind s.timer.floor

/-- A filter restart of an ACTIVE cell (R101): the report FREE, if there is one to make, is taken at once (log entry
11). -/
def State.restartFilter (s : State) (c : CellId) : State × Bool :=
  let s := s.setSensor c { s.sensor c with raw := .free, count := 0 }
  let r := s.cell c
  let s := s.setCell c
    { r with occupancy := .free, stamp := if r.occupancy = .free then r.stamp else s.timer.floor }
  if r.heard = .free then (s, false) else s.takeChange c .free s.timer.floor

/-- A sensor goes to ACTIVE (R99): its filter restarts, and the change starts a pass (R40). -/
def State.toActive (s : State) (c : CellId) : State × Bool :=
  ((s.setSensor c { s.sensor c with mode := .active }).restartFilter c |>.1, true)

/-- Every in-use, ACTIVE cell's filter restarts (R102). The passes the reports start do not run: the mode that
follows is not RUNNING. -/
def State.restartFilters (s : State) : State :=
  (List.finRange 32).foldl (fun s c =>
    if s.cellInUse c && (s.sensor c).mode = .active then (s.restartFilter c).1 else s) s

/-! ### Halting and settling (R120, R124, R125) -/

/-- Every latch to STOP (R106). -/
def State.stopLatches (s : State) : State := (List.finRange 8).foldl (fun s a => s.setLatch a .stop) s

/-- R125, steps 1 to 4: the prior mode is recorded, the mode becomes HALTED with these causes, HALT joins every live
passage's freeze-cause set, and every latch goes to STOP. -/
def State.halt (s : State) (prior : PriorMode) (causes : HaltCauses) : State :=
  let s := s.setControl { s.control with mode := .halted, prior := prior, causes := causes }
  let s := s.modLiveDeadlines fun d => d.joinHalt s.timer.floor
  s.stopLatches

/-- A halt cause joins (R124): it halts an operating junction with a MODE notice, and in HALTED it is added to the set
with a MODE notice if it was not there. In UNMAPPED and SERVICE it does not join (R116). -/
def State.joinCause (s : State) (add : HaltCauses → HaltCauses) : State :=
  let causes := add s.control.causes
  match s.control.mode with
  | .settling => (s.halt .settling causes).postMode
  | .running => (s.halt .running causes).postMode
  | .draining => (s.halt .draining causes).postMode
  | .halted =>
    if causes = s.control.causes then s else (s.setControl { s.control with causes := causes }).postMode
  | .unmapped | .service => s

/-- Halt causes leave the set (R124), with a MODE notice if the set changes in HALTED (R117). -/
def State.leaveCause (s : State) (remove : HaltCauses → HaltCauses) : State :=
  let causes := remove s.control.causes
  if s.control.mode = .halted && causes ≠ s.control.causes then
    (s.setControl { s.control with causes := causes }).postMode
  else s

/-- The entry into SETTLING (R120): filters restart, the settle count becomes 0, the held conditions are read, and one
MODE notice names SETTLING, or HALTED with prior mode SETTLING. -/
def State.enterSettling (s : State) : State :=
  let s := s.restartFilters
  let causes := { s.control.causes with
    estop := s.control.causes.estop || s.control.emergency.asserted
    signalFault := s.control.causes.signalFault || s.anyFault }
  let s := s.setControl { s.control with mode := .settling, causes := causes, settleCount := 0, risesDue := 0 }
  (if causes.isEmpty then s else s.halt .settling causes).postMode

/-! ### The Line Interface Unit (R136, R139, R140, R142) -/

/-- An error is recorded (R142). -/
def State.recordError (s : State) (kind : LineError) : State :=
  s.setLiu { s.liu with
    error := { kind := kind, stamp := s.timer.floor, overrun := s.liu.error.kind ≠ .none } }

/-- A halt pulse ends what is on the line (R139, R140): the notice being sent, the tail being sent, the frame being
read; nothing is recorded and no attempt counted. -/
def Liu.abort (l : Liu) : Liu :=
  { l with attempt := none, rx := none, tail := l.tail.map fun t => { t with sending := false } }

/-- The Mode Controller calls for a halt pulse (R140). -/
def State.sendHaltPulse (s : State) : State := s.setLiu { s.liu.abort with pulse := some 0 }

/-- A step of an event that takes place only while the part runs, outside hardware reset (R165, R166). -/
def State.whenRunning (s : State) (f : State → State) : Host.Outcome State Fault Refusal :=
  .next (if s.power.phase = .running then f s else s)

end Sys2Proof.Machine
end

