-- ==== Sys2Proof/Machine/Operands.lean ====
section
/-! DEFINITION. How a frame command is judged before its owner takes it (R129, R143), how its verdict becomes the tail
(R135, R136), and how its operand fields are read: indices, ranges and named values (R8, R152, R157). -/

namespace Sys2Proof.Machine

/-! ### Acceptance (R129) -/

/-- The acceptance table's mode columns (R129). -/
def Kind.takenIn (k : Kind) (mode : Mode) (prior : PriorMode) : Bool :=
  match k with
  | .identify | .linePattern | .queryJunction => true
  | .openService => mode = .unmapped || mode = .service || mode = .draining || mode = .halted
  | .loadOptions | .loadCell | .loadApproach | .loadRoute | .loadRouteCells | .loadMaster | .commitMap =>
    mode = .service
  | .requestPassage => mode = .settling || mode = .running || (mode = .halted && prior ≠ .draining)
  | .withdraw | .queryPassage | .queryCell | .queryLine | .lockCells | .unlockCells | .setSensor | .forceRelease
  | .restart => mode.operating
  | .drain => mode = .running || mode = .draining
  | .resume => mode = .running || mode = .draining || mode = .halted

/-- The kinds that need the safety master in the operating modes (R129). -/
def Kind.safetyOnly : Kind → Bool
  | .openService | .lockCells | .unlockCells | .setSensor | .forceRelease | .drain | .resume | .restart => true
  | .identify | .linePattern | .queryJunction | .queryPassage | .queryCell | .queryLine | .requestPassage
  | .withdraw | .loadOptions | .loadCell | .loadApproach | .loadRoute | .loadRouteCells | .loadMaster
  | .commitMap => false

/-- The kinds taken from any node, enrolled or not (R146). -/
def Kind.anyNode : Kind → Bool
  | .identify | .linePattern => true
  | _ => false

/-- What the Decoder decides before the owner is asked (R143). -/
inductive Judgement where
  | noTail
  | refuse (v : Verdict)
  | take
deriving DecidableEq, Repr

/-- R143, steps 1 to 4: enrolment, unenrolled sources, mode, role. -/
def State.judge (s : State) (k : Kind) (src : Node) : Judgement :=
  let taken := Kind.takenIn k s.control.mode s.control.prior
  if s.control.mode.operating then
    match s.enrolledSlot src with
    | none => if Kind.anyNode k then .take else .noTail
    | some m =>
      if !taken then .refuse (.refusedMode s.control.mode)
      else if Kind.safetyOnly k && !s.isSafety m then .refuse .refusedRole
      else .take
  else if taken then .take else .refuse (.refusedMode s.control.mode)

/-! ### From the frame to the tail -/

/-- A reading goes on from what has been read of the frame on the line: nothing yet, or, behind a whole opening mark,
these bytes with recessive stop bits and these bits (R133, R137). -/
def Receive.continuedBy : Receive → RawFrame → Bool
  | .data bytes bits, raw =>
    (bytes = [] && bits = []) ||
      (raw.mark = 1 && bytes.zipIdx.all (fun x => raw.byteAt x.2 = (x.1, true)) &&
        bits.isPrefixOf (bitsOf (raw.byteAt bytes.length).1))
  | .closing _ _, _ => false

/-- The LIU reads this frame from the line: the part is not itself sending, and the frame begins on the IDLE line, or is
the one that the LIU is reading on a BUSY line (R132, R133, R137, R140, R141; log entry 12). A frame that has been
abandoned, or that has closed, is not read again before the line is idle. -/
def State.hears (s : State) (raw : RawFrame) : Bool :=
  s.power.phase = .running && s.liu.pulse = none && s.liu.attempt = none &&
    match s.liu.line, s.liu.rx with
    | .idle, _ => true
    | .busy, some rx => rx.continuedBy raw
    | _, _ => false

/-- The LIU reads this frame of a master, which stands on the line without an error. -/
def State.hearsFrame (s : State) (f : Frame) : Bool := s.hears (cleanReading (f.bytes s.liu.own))

/-- The frame has been read: the line is BUSY and the byte buffer holds its bytes (R130, R132). -/
def State.readFrame (s : State) (f : Frame) : State :=
  s.setLiu { s.liu with line := .busy, rx := some (.closing (f.bytes s.liu.own) []), tail := none }

/-- The LIU begins the verdict tail (R136). -/
def State.giveTail (s : State) (v : Verdict) : State :=
  s.setLiu { s.liu with tail := some { verdict := v, sending := true } }

/-- A frame command, whole (R135, R136, R143): the frame is read, judged, and handed to its owner, whose verdict
becomes the tail. The owner's work is done when the tail begins. -/
def onFrame (c : Instr) (s : State) (owner : State → State × Verdict) : Host.Outcome State Fault Refusal :=
  match frameOf c with
  | none => .next s
  | some f =>
    if !s.hearsFrame f then .next s
    else
      let s := s.readFrame f
      match s.judge f.kind f.head.src with
      | .noTail => .next s
      | .refuse v => .next (s.giveTail v)
      | .take => .next ((owner s).1.giveTail (owner s).2)

/-- A LOAD_* frame or COMMIT_MAP, which the Map Store takes from the service node alone (R7). -/
def onServiceFrame (c : Instr) (src : Node) (s : State) (owner : State → State × Verdict) :
    Host.Outcome State Fault Refusal :=
  onFrame c s fun s => if s.decoder.service = some src then owner s else (s, .refusedRole)

/-! ### Fields -/

/-- A number below `n`, as an index. -/
def indexOf (n v : Nat) : Option (Fin n) := if h : v < n then some ⟨v, h⟩ else none

/-- A cell number of a frame. -/
def cellOf (b : Byte) : Option CellId := indexOf 32 b.toNat

/-- A slot number of a frame. -/
def slotOf (b : Byte) : Option Slot := indexOf 24 b.toNat

/-- A yes-or-no field: 00h or 01h (R152). -/
def flagOf (b : Byte) : Option Bool :=
  if b = 0 then some false else if b = 1 then some true else none

/-- A sensor mode by its code (R157). -/
def sensorModeOf (b : Byte) : Option SensorMode :=
  if b = 0 then some .active else if b = 1 then some .standby else none

/-- A role by its code (R157). -/
def roleOf (b : Byte) : Option Role :=
  if b = 0 then some .fleet else if b = 1 then some .safety else none

/-- A notice option by its code (R157). -/
def noticeOptionOf (b : Byte) : Option NoticeOption :=
  if b = 0 then some .keepOldest else if b = 1 then some .keepNewest else none

/-- A number within a range, both ends included (00_scope.md section 6). -/
def inRange (low high : Nat) {w : Nat} (b : BitVec w) : Option Nat :=
  if low ≤ b.toNat ∧ b.toNat ≤ high then some b.toNat else none

/-- A tick in ms (R2, R152). -/
def tickOf (b : Byte) : Option Nat := if b.toNat ∈ [5, 10, 20, 40] then some b.toNat else none

/-- An entry of a route list: a cell number, or FFh for NONE (R10, R152). -/
def listEntryOf (b : Byte) : Option (Option CellId) := if b = 0xFF then some none else (cellOf b).map some

/-- The priority class in bits 7–6 of the class byte (R152). -/
def priorityOf (cls : Byte) : Nat := (cls.extractLsb' 6 2).toNat

/-- The load class in bits 2–0 of the class byte (R152). -/
def loadOf (cls : Byte) : Nat := (cls.extractLsb' 0 3).toNat

/-- The cells of a set, in ascending order (R34, R152). -/
def cellsIn (set : BitVec 32) : List CellId := (List.finRange 32).filter fun c => set.getLsbD c.val

/-- A field that is out of range, by its number (R145, R152). -/
def badField (field : Nat) : Verdict := .badValue field none

/-- A field that has been read, or BAD_VALUE naming it (R8). -/
def field {α : Type} (number : Nat) (value : Option α) : Except Verdict α :=
  match value with
  | some v => .ok v
  | none => .error (badField number)

end Sys2Proof.Machine
end

