-- ==== Sys2Proof/Machine/BookCommands.lean ====
section
/-! DEFINITION. The commands that the Reservation Book owns: REQUEST_PASSAGE, WITHDRAW, LOCK_CELLS, UNLOCK_CELLS and
FORCE_RELEASE (R26 to R37). -/

namespace Sys2Proof.Machine

/-! ### REQUEST_PASSAGE -/

/-- The lowest-numbered free slot (R21). -/
def State.freeSlot (s : State) : Option Slot := (List.finRange 24).find? fun p => (s.passage p).isNone

/-- The slot whose passage has this master slot and carrier id, with its record (R27). -/
def State.slotOfCarrier (s : State) (m : MasterSlot) (carrier : CarrierId) : Option (Slot × Passage) :=
  (List.finRange 24).findSome? fun p =>
    (s.passage p).bind fun q => if q.master = m ∧ q.carrier = carrier then some (p, q) else none

/-- The checks of R27 in their order: the route and the free slot, or the verdict of the first check that fails. -/
def State.checkRequest (s : State) (m : MasterSlot) (carrier : CarrierId) (route : Byte) (length : BitVec 16) :
    Except Verdict (RouteId × Slot) :=
  match indexOf 48 route.toNat with
  | none => .error .unknownRoute
  | some r =>
    let e := s.map.working.routes[r]
    if !e.inUse then .error .unknownRoute
    else if 400 < length.toNat then .error (badField 6)
    else match s.slotOfCarrier m carrier with
      | some (p, q) => .error (.duplicate p q.state)
      | none => match s.freeSlot with
        | none => .error .poolFull
        | some p =>
          if s.map.working.approaches[e.approach].limit ≤ (s.queue e.approach).length then .error .queueFull
          else .ok (r, p)

/-- The speed after clamping (R28). -/
def clampSpeed (limit speed : Nat) : Nat := if speed < 10 then 10 else if limit < speed then limit else speed

/-- The priority class after clamping (R28). -/
def clampPriority (role : Role) (priority : Nat) : Nat :=
  if priority = 3 ∧ role = .fleet then 2 else priority

/-- The record of an admitted request, its values clamped (R19, R28). -/
def State.newPassage (s : State) (m : MasterSlot) (carrier : CarrierId) (r : RouteId) (cls speed : Byte)
    (length : BitVec 16) : Passage :=
  { master := m, carrier := carrier, route := r
    priority := clampPriority s.map.enrolment[m].role (priorityOf cls)
    speed := clampSpeed s.map.working.routes[r].speed speed.toNat
    length := max 50 length.toNat
    load := min 3 (loadOf cls)
    state := .queued, blocking := false, skips := 0, position := none, firstHeld := 0, overdue := .normal
    clamped := false, wasOverdue := false
    deadline := { run := none, halt := false, extStop := false } }

/-- An admission: the record is filled, and the passage joins the tails of both lists (R29). -/
def State.admission (s : State) (p : Slot) (q : Passage) : State :=
  let a := s.approachOf q
  ((s.setPassage p (some q)).setArrivals (s.book.arrivals ++ [p])).setQueue a (s.queue a ++ [p])

/-- The verdict of an admitted request, from the book after the pass (R30). -/
def State.admissionVerdict (s : State) (p : Slot) : Verdict :=
  match s.passage p with
  | none => .unknownPassage
  | some q =>
    if q.state = .queued then .queued p ((s.queue (s.approachOf q)).idxOf p + 1)
    else .granted p ((q.deadline.run.map Running.window).getD 0) q.clamped

/-- REQUEST_PASSAGE at the Book, from the enrolled slot `m` (R27 to R30). -/
def State.request (s : State) (m : MasterSlot) (carrier : CarrierId) (route cls speed : Byte)
    (length : BitVec 16) : State × Verdict :=
  match s.checkRequest m carrier route length with
  | .error v => (s, v)
  | .ok (r, p) =>
    let s := (s.admission p (s.newPassage m carrier r cls speed length)).grantPass (some p)
    (s, s.admissionVerdict p)

/-- REQUEST_PASSAGE (R26 to R30). The Decoder hands on no request from a node without a slot (R143). -/
def execRequestPassage (hd : FrameHead) (carrier : CarrierId) (route cls speed : Byte) (length : BitVec 16)
    (s : State) : Host.Outcome State Fault Refusal :=
  onFrame (.requestPassage hd carrier route cls speed length) s fun s =>
    match s.enrolledSlot hd.src with
    | none => (s, .refusedRole)
    | some m => s.request m carrier route cls speed length

/-! ### WITHDRAW and FORCE_RELEASE -/

/-- The passage that a slot and a carrier id name together (R21, R31, R36). -/
def State.named (s : State) (slot : Byte) (carrier : CarrierId) : Option (Slot × Passage) :=
  match slotOf slot with
  | none => none
  | some p => (s.passage p).bind fun q => if q.carrier = carrier then some (p, q) else none

/-- WITHDRAW at the Book (R31, R32). -/
def State.withdraw (s : State) (src : Node) (slot : Byte) (carrier : CarrierId) : State × Verdict :=
  match s.named slot carrier with
  | none => (s, .unknownPassage)
  | some (p, q) =>
    if s.enrolledSlot src ≠ some q.master then (s, .refusedRole)
    else if q.state = .entered then (s, .tooLate)
    else (s.afterEvent (s.remove p .withdrawn) true, .done (.withdraw q.state))

/-- WITHDRAW (R31, R32). -/
def execWithdraw (hd : FrameHead) (slot : Byte) (carrier : CarrierId) (s : State) :
    Host.Outcome State Fault Refusal :=
  onFrame (.withdraw hd slot carrier) s fun s => s.withdraw hd.src slot carrier

/-- FORCE_RELEASE at the Book (R36, R37). -/
def State.forceRelease (s : State) (slot : Byte) (carrier : CarrierId) : State × Verdict :=
  match s.named slot carrier with
  | none => (s, .unknownPassage)
  | some (p, q) =>
    (s.afterEvent (s.remove p .forced) true, .done (.forceRelease q.state (s.heldRun q).length))

/-- FORCE_RELEASE (R36, R37). -/
def execForceRelease (hd : FrameHead) (slot : Byte) (carrier : CarrierId) (s : State) :
    Host.Outcome State Fault Refusal :=
  onFrame (.forceRelease hd slot carrier) s fun s => s.forceRelease slot carrier

/-! ### LOCK_CELLS and UNLOCK_CELLS -/

/-- The BAD_VALUE checks on a set of cells (R34): an empty set, or the lowest cell that is not in use. -/
def State.badSet (s : State) (set : BitVec 32) : Option Verdict :=
  if set = 0 then some (badField 1)
  else ((cellsIn set).find? fun c => !s.cellInUse c).map fun c => .badValue 1 (some c)

/-- LOCK_CELLS on one cell (R34). -/
def State.lockCell (s : State) (c : CellId) : State :=
  let r := s.cell c
  if r.lock ≠ .none then s
  else if r.holder.isSome then s.setCell c { r with lock := .pending }
  else (s.setCell c { r with lock := .locked }).postSafety (s.note (.locked c) none)

/-- The cells of a set with this lock, counted. -/
def State.countLocks (s : State) (set : BitVec 32) (lock : Lock) : Nat :=
  ((cellsIn set).filter fun c => (s.cell c).lock = lock).length

/-- LOCK_CELLS at the Book (R34). -/
def State.lockCells (s : State) (set : BitVec 32) : State × Verdict :=
  match s.badSet set with
  | some v => (s, v)
  | none =>
    let s := (cellsIn set).foldl State.lockCell s
    (s, .done (.lockCells (s.countLocks set .locked) (s.countLocks set .pending)))

/-- LOCK_CELLS (R34). -/
def execLockCells (hd : FrameHead) (set : BitVec 32) (s : State) : Host.Outcome State Fault Refusal :=
  onFrame (.lockCells hd set) s fun s => s.lockCells set

/-- The lock of a cell becomes NONE (R35). -/
def State.unlockCell (s : State) (c : CellId) : State := s.setCell c { s.cell c with lock := .none }

/-- The cells of a set whose lock an UNLOCK_CELLS changes, counted (R35). -/
def State.unlockCount (s : State) (set : BitVec 32) : Nat :=
  ((cellsIn set).filter fun c => (s.cell c).lock ≠ .none).length

/-- UNLOCK_CELLS at the Book (R35). -/
def State.unlockCells (s : State) (set : BitVec 32) : State × Verdict :=
  match s.badSet set with
  | some v => (s, v)
  | none =>
    let changed := s.unlockCount set
    let s := (cellsIn set).foldl State.unlockCell s
    (if 0 < changed then s.grantPass none else s, .done (.unlockCells changed))

/-- UNLOCK_CELLS (R35). -/
def execUnlockCells (hd : FrameHead) (set : BitVec 32) (s : State) : Host.Outcome State Fault Refusal :=
  onFrame (.unlockCells hd set) s fun s => s.unlockCells set

end Sys2Proof.Machine
end

