-- ==== Sys2Proof/Machine/InputEvents.lean ====
section
/-! DEFINITION. The events of the inputs: the scan and its filters (R95 to R97, R108, R112), the changes it completes
(R59, R109, R110, R113, R114), and the count of settling (R102, R121). -/

namespace Sys2Proof.Machine

/-! ### SCAN -/

/-- The filter depth (R2). -/
def State.depth (s : State) : Nat := s.map.working.options.depth

/-- A cell's level as a sample: low reads OCCUPIED (R96). -/
def sampleOf (high : Bool) : RawSample := if high then .free else .occupied

/-- The occupancy a sample stands for (R97). -/
def RawSample.occupancy : RawSample → Occupancy
  | .free => .free
  | .occupied => .occupied

/-- A scan samples this cell (R96): the mode has a map in force, the cell is in use and its sensor is ACTIVE. -/
def State.samples (s : State) (c : CellId) : Bool :=
  s.control.mode.operating && s.cellInUse c && (s.sensor c).mode = .active

/-- The sensor record and the cell record of a sampled cell after the filter (R97). -/
def filterCell (depth : Nat) (now : Time) (sample : RawSample) (n : SensorRec) (r : CellRec) :
    SensorRec × CellRec :=
  if sample.occupancy = r.occupancy then ({ n with raw := sample, count := 0 }, r)
  else if n.count + 1 < depth then ({ n with raw := sample, count := n.count + 1 }, r)
  else ({ n with raw := sample, count := 0 }, { r with occupancy := sample.occupancy, stamp := now })

/-- A cell's two records after a scan (R96, R97). -/
def State.scannedCell (s : State) (levels : BitVec 32) (c : CellId) : SensorRec × CellRec :=
  if s.samples c then
    filterCell s.depth s.timer.floor (sampleOf (levels.getLsbD c.val)) (s.sensor c) (s.cell c)
  else (s.sensor c, s.cell c)

/-- The level of a signal line. -/
def levelOf (high : Bool) : Level := if high then .high else .low

/-- An approach record after its sample (R108). The sample that completes a change is marked due, and READBACK_CHANGE
takes it (log entry 6). -/
def SignalRec.sampled (r : SignalRec) (depth : Nat) (level : Level) : SignalRec :=
  if level = r.filtered then { r with raw := level, count := 0, due := false }
  else if r.count + 1 < depth then { r with raw := level, count := r.count + 1, due := false }
  else { r with raw := level, due := true }

/-- The emergency record after its sample (R112). The sample that completes a change is marked due, and
EMERGENCY_ASSERTED or EMERGENCY_CLEAR takes it (log entry 6). -/
def EmergencyRec.sampled (e : EmergencyRec) (depth : Nat) (asserted : Bool) : EmergencyRec :=
  if asserted = e.asserted then { e with rawAsserted := asserted, count := 0, due := false }
  else if e.count + 1 < depth then { e with rawAsserted := asserted, count := e.count + 1, due := false }
  else { e with rawAsserted := asserted, due := true }

/-- A scan of the three kinds of input (R96), with the next scan period begun (R95) and, in SETTLING, a rise of the
settle count due (R102). -/
def State.scan (s : State) (cells : BitVec 32) (signals : BitVec 8) (emergency : Bool) : State :=
  { s with
    book := { s.book with cells := Vector.ofFn fun c => (s.scannedCell cells c).2 }
    scanner :=
      { sensors := Vector.ofFn fun c => (s.scannedCell cells c).1
        ms := 0, cycles := 0, period := s.map.working.options.divider }
    signals := Vector.ofFn fun a => (s.signal a).sampled s.depth (levelOf (signals.getLsbD a.val))
    control := { s.control with
      emergency := s.control.emergency.sampled s.depth (!emergency)
      risesDue := if s.control.mode = .settling then s.control.risesDue + 1 else s.control.risesDue } }

/-- SCAN (R96). -/
def execScan (cells : BitVec 32) (signals : BitVec 8) (emergency : Bool) (s : State) :
    Host.Outcome State Fault Refusal :=
  s.whenRunning fun s => s.scan cells signals emergency

/-! ### OCCUPANCY_CHANGE -/

/-- A change report of this cell stands untaken (R98; log entry 5). -/
def State.reportWaits (s : State) (c : CellId) : Bool :=
  s.control.mode.operating && (s.cell c).heard ≠ (s.cell c).occupancy

/-- The Tracker takes the waiting report of a cell (R59). -/
def State.occupancyChange (s : State) (c : CellId) : State :=
  if s.reportWaits c then
    let taken := s.takeChange c (s.cell c).occupancy (s.cell c).stamp
    s.afterEvent taken.1 taken.2
  else s

/-- OCCUPANCY_CHANGE (R59). -/
def execOccupancyChange (cell : CellId) (s : State) : Host.Outcome State Fault Refusal :=
  s.whenRunning fun s => s.occupancyChange cell

/-! ### READBACK_CHANGE -/

/-- EXT_STOP joins or leaves the freeze-cause set of an approach's GRANTED passage (R109). -/
def State.modGranted (s : State) (a : ApproachId) (f : Deadline → Deadline) : State :=
  match s.grantedOn a with
  | none => s
  | some p => s.modDeadline p f

/-- The filtered readback takes the level of the completing sample, and the change is judged against the latch
(R108 to R110). -/
def State.judgeReadback (s : State) (a : ApproachId) : State :=
  let r := s.signal a
  let r := { r with filtered := r.raw, count := 0, due := false }
  match r.latch, r.raw with
  | .go, .low =>
    (s.setSignal a { r with extStop := true }).modGranted a fun d => d.joinExtStop s.timer.floor
  | .go, .high =>
    (s.setSignal a { r with extStop := false }).modGranted a fun d => d.leaveExtStop s.timer.floor
  | .stop, .high =>
    (s.setSignal a { r with fault := true }).joinCause fun c => { c with signalFault := true }
  | .stop, .low =>
    let s := s.setSignal a { r with fault := false }
    if s.anyFault then s else s.leaveCause fun c => { c with signalFault := false }

/-- READBACK_CHANGE (R108). -/
def execReadbackChange (approach : ApproachId) (s : State) : Host.Outcome State Fault Refusal :=
  s.whenRunning fun s => if (s.signal approach).due then s.judgeReadback approach else s

/-! ### The emergency input -/

/-- The filtered state of the emergency input takes the completing sample (R112). -/
def State.settleEmergency (s : State) (asserted : Bool) : State :=
  s.setControl { s.control with
    emergency := { rawAsserted := asserted, count := 0, asserted := asserted, due := false } }

/-- ESTOP joins the halt-cause set, and a halt from SETTLING, RUNNING or DRAINING sends a halt pulse (R113, R125). -/
def State.emergencyStop (s : State) : State :=
  let s' := s.joinCause fun c => { c with estop := true }
  match s.control.mode with
  | .settling | .running | .draining => s'.sendHaltPulse
  | .halted | .unmapped | .service => s'

/-- EMERGENCY_ASSERTED (R113). -/
def execEmergencyAsserted (s : State) : Host.Outcome State Fault Refusal :=
  s.whenRunning fun s =>
    if s.control.emergency.due ∧ s.control.emergency.rawAsserted then (s.settleEmergency true).emergencyStop else s

/-- EMERGENCY_CLEAR (R114). -/
def execEmergencyClear (s : State) : Host.Outcome State Fault Refusal :=
  s.whenRunning fun s =>
    if s.control.emergency.due ∧ !s.control.emergency.rawAsserted then
      (s.settleEmergency false).leaveCause fun c => { c with estop := false }
    else s

/-! ### SETTLE_COUNT_RISE -/

/-- The settle count rises in SETTLING; at 2 × filter depth the junction goes to RUNNING, with its MODE notice and its
pass (R102, R121). -/
def State.riseSettleCount (s : State) : State :=
  if s.control.mode = .settling then
    let s := s.setControl { s.control with settleCount := s.control.settleCount + 1 }
    if 2 * s.depth ≤ s.control.settleCount then
      ((s.setControl { s.control with mode := .running }).postMode).grantPass none
    else s
  else s

/-- SETTLE_COUNT_RISE (R102, R121): one rise that is due is taken; in another mode it is not made (log entry 10). -/
def execSettleCountRise (s : State) : Host.Outcome State Fault Refusal :=
  s.whenRunning fun s =>
    if 0 < s.control.risesDue then
      (s.setControl { s.control with risesDue := s.control.risesDue - 1 }).riseSettleCount
    else s

end Sys2Proof.Machine
end

