-- ==== Sys2Proof/Machine/LineEvents.lean ====
section
/-! DEFINITION. The events of the floor line (R131 to R142) and of the notices sent on it (R137, R138, R162). Each is
taken while the part runs and the line is in the state its rule names; elsewhere it changes nothing (log entry 4). -/

namespace Sys2Proof.Machine

/-! ### The line's state -/

/-- LINE_BUSY (R132): a dominant level on the idle line, and a frame to be followed. -/
def execLineBusy (s : State) : Host.Outcome State Fault Refusal :=
  s.whenRunning fun s =>
    if s.liu.line = .idle then s.setLiu { s.liu with line := .busy, rx := some (.data [] []) } else s

/-- LINE_IDLE (R132): 10 bit times recessive end BUSY; the frame being followed and its tail are closed. -/
def execLineIdle (s : State) : Host.Outcome State Fault Refusal :=
  s.whenRunning fun s =>
    if s.liu.line = .busy ∧ s.liu.attempt = none ∧ s.liu.pulse = none then
      s.setLiu { s.liu.abort with line := .idle }
    else s

/-- NOISE_RUN (R131, R142). A run shorter than 3 µs is ignored, and one of 10 µs or more is an accepted change. -/
def execNoiseRun (cycles : Nat) (s : State) : Host.Outcome State Fault Refusal :=
  s.whenRunning fun s =>
    if Config.noiseFromCycles ≤ cycles ∧ cycles < Config.acceptedFromCycles then s.recordError .noise else s

/-! ### Frames and tails -/

/-- The kind of the line error record for a failed check (R135, R142, R157). -/
def faultKind : FrameFault → LineError
  | .byte => .byte
  | .format => .format
  | .crc => .crc
  | .length => .length

/-- FRAME_ERROR (R133, R135): the frame is read, its first failed check is recorded, and it is abandoned. A frame for
another node is followed as far as R133 lets an onlooker follow it, and records nothing. A reading that passes every
check is no event of this row (log entry 4). -/
def execFrameError (raw : RawFrame) (s : State) : Host.Outcome State Fault Refusal :=
  s.whenRunning fun s =>
    if !s.hears raw then s
    else match Sys2Proof.readFrame s.liu.own raw with
      | .error fault =>
        (s.setLiu { s.liu with line := .busy, rx := none, tail := none }).recordError (faultKind fault)
      | .onlooker followed =>
        s.setLiu { s.liu with line := .busy, rx := followed.map fun x => .closing x.1 x.2, tail := none }
      | .handed _ => s

/-- TAIL_BIT_ERROR (R133, R136): no more of the tail is sent, BIT is recorded, and the LIU waits for idle. -/
def execTailBitError (s : State) : Host.Outcome State Fault Refusal :=
  s.whenRunning fun s =>
    match s.liu.tail with
    | none => s
    | some t =>
      if t.sending then
        (s.setLiu { s.liu with rx := none, tail := some { t with sending := false } }).recordError .bit
      else s

/-! ### The part's own frames -/

/-- The LOST flag of a slot's FIFO. -/
def State.lostFlag (s : State) (k : MasterSlot) : Bool := s.notices.fifos[k].lost

/-- The attempt count and the late-loss mark of the Notice Unit. -/
def State.setAttempt (s : State) (attempts : Nat) (lateLoss : Bool) : State :=
  { s with notices := { s.notices with attempts := attempts, lateLoss := lateLoss } }

/-- An attempt begins (R137, R162): the opening mark is driven, the frame is formed with the LOST bit the flag has then
and read back as it is sent, and the late-loss mark is cleared. -/
def State.startNotice (s : State) (f : TxFrame) : State :=
  let lost := s.lostFlag f.slot
  let attempt : Attempt := { lost := lost, bytes := s.noticeFrame f lost }
  (s.setLiu { s.liu with line := .busy, rx := some (.data [] []), tail := none, attempt := some attempt }).setAttempt
    s.notices.attempts false

/-- NOTICE_FRAME_START (R137): at an idle line, in any mode but UNMAPPED, with a frame in the shifter. -/
def execNoticeFrameStart (s : State) : Host.Outcome State Fault Refusal :=
  s.whenRunning fun s =>
    match s.liu.shifter with
    | none => s
    | some f =>
      if s.liu.line = .idle ∧ s.liu.pulse = none ∧ s.control.mode ≠ .unmapped then s.startNotice f else s

/-- The arbitration field of a frame: the 16 bits of its header and address bytes (R137). -/
def fieldBits (bytes : List Byte) : List Bool := (bytes.take 2).flatMap bitsOf

/-- What has been read back of the part's own frame at the bit of the field where another node's dominant bit stood
against it: the bits before as they were sent, and the dominant one (R137). -/
def readBack (bytes : List Byte) (bit : Fin 16) : Receive :=
  if bit.val < 8 then .data [] ((fieldBits bytes).take bit.val ++ [false])
  else .data (bytes.take 1) (((fieldBits bytes).drop 8).take (bit.val - 8) ++ [false])

/-- ARBITRATION_LOST (R137, R138): the attempt ends and the frame stays in the shifter. Lost in the mark, the other
frame is left unread until the line is idle; lost in the arbitration field, the LIU reads it on from the bits read back.
It cannot be lost in a bit that the part sent dominant (log entry 4). -/
def execArbitrationLost (loss : Loss) (s : State) : Host.Outcome State Fault Refusal :=
  s.whenRunning fun s =>
    match s.liu.attempt, loss with
    | none, _ => s
    | some _, .mark => s.setLiu { s.liu with attempt := none, rx := none }
    | some a, .field bit =>
      if (fieldBits a.bytes)[bit.val]? = some true then
        s.setLiu { s.liu with attempt := none, rx := some (readBack a.bytes bit) }
      else s

/-- The shifter's frame is done with: its notice leaves the head of its FIFO, whose LOST flag becomes `lost`; count and
mark return to 0 and clear, and the places are filled again (R138, R161, R162). `rx` is what the LIU goes on
following. -/
def State.retireNotice (s : State) (k : MasterSlot) (lost : Bool) (rx : Option Receive) : State :=
  let s := s.setFifo k { queue := s.notices.fifos[k].queue.drop 1, lost := lost }
  let s := s.setLiu { s.liu with shifter := none, attempt := none, rx := rx }
  (s.setAttempt 0 false).refill

/-- NOTICE_SENT_CLEAN (R138, R162): every bit to the end of the frame has been read back, and the frame closes. -/
def execNoticeSentClean (s : State) : Host.Outcome State Fault Refusal :=
  s.whenRunning fun s =>
    match s.liu.attempt, s.liu.shifter with
    | some a, some f =>
      s.retireNotice f.slot (s.lostFlag f.slot && !(a.lost && !s.notices.lateLoss)) (some (.closing a.bytes []))
    | _, _ => s

/-- NOTICE_BIT_ERROR (R137, R138, R162): BIT is recorded; the third error of a frame discards it. A dominant level at the
stop bit between header and address is this event too (DESIGN CHOICE, log entry 33). -/
def execNoticeBitError (s : State) : Host.Outcome State Fault Refusal :=
  s.whenRunning fun s =>
    match s.liu.attempt, s.liu.shifter with
    | some _, some f =>
      let s := s.recordError .bit
      if s.notices.attempts < 2 then
        (s.setLiu { s.liu with attempt := none, rx := none }).setAttempt (s.notices.attempts + 1)
          s.notices.lateLoss
      else (s.recordError .txAbandoned).retireNotice f.slot true none
    | _, _ => s

/-! ### Halt pulses and the stuck line -/

/-- HALT_PULSE_START (R139): what is on the line ends, and HALT_PULSE joins the halt-cause set. -/
def execHaltPulseStart (s : State) : Host.Outcome State Fault Refusal :=
  s.whenRunning fun s =>
    if s.liu.line = .idle ∨ s.liu.line = .busy then
      (s.setLiu { s.liu.abort with line := .haltPulse }).joinCause fun c => { c with haltPulse := true }
    else s

/-- HALT_PULSE_END (R139, R140): 10 bit times recessive after every node, the part included, has let go. -/
def execHaltPulseEnd (s : State) : Host.Outcome State Fault Refusal :=
  s.whenRunning fun s =>
    if s.liu.line = .haltPulse ∧ s.liu.pulse = none then
      (s.setLiu { s.liu with line := .idle }).leaveCause fun c => { c with haltPulse := false }
    else s

/-- HALT_PULSE_RELEASE (R140): the part lets go of the line. -/
def execHaltPulseRelease (s : State) : Host.Outcome State Fault Refusal :=
  s.whenRunning fun s => s.setLiu { s.liu with pulse := none }

/-- LINE_STUCK (R141). -/
def execLineStuck (s : State) : Host.Outcome State Fault Refusal :=
  s.whenRunning fun s =>
    if s.liu.line = .haltPulse then
      ((s.setLiu { s.liu with line := .stuck }).recordError .stuck).joinCause fun c => { c with lineStuck := true }
    else s

/-- LINE_STUCK_RECOVERY (R141): LINE_STUCK and HALT_PULSE leave together. -/
def execLineStuckRecovery (s : State) : Host.Outcome State Fault Refusal :=
  s.whenRunning fun s =>
    if s.liu.line = .stuck ∧ s.liu.pulse = none then
      (s.setLiu { s.liu with line := .idle }).leaveCause fun c => { c with lineStuck := false, haltPulse := false }
    else s

end Sys2Proof.Machine
end

