-- ==== Sys2Proof/Machine/MapCommands.lean ====
section
/-! DEFINITION. The commands that the Map Store owns: the LOAD_* frames (R7 to R11) and COMMIT_MAP with its check
(R12) and its effects (R15, R103). -/

namespace Sys2Proof.Machine

/-! ### The LOAD_* frames -/

/-- A LOAD_* frame at the Map Store (R8): the new working map is stored whole, or the verdict names the first field
out of range and nothing is stored. -/
def State.load (s : State) (map : Except Verdict WorkingMap) : State × Verdict :=
  match map with
  | .error v => (s, v)
  | .ok m => (s.setWorking m, .done .load)

/-- The working map with the options of a LOAD_OPTIONS (R2, R9). -/
def WorkingMap.withOptions (m : WorkingMap) (tick divider depth dwell skip : Byte) (tag : BitVec 16) :
    Except Verdict WorkingMap := do
  let tick ← field 1 (tickOf tick)
  let divider ← field 2 (inRange 0 15 divider)
  let depth ← field 3 (inRange 1 8 depth)
  let dwell ← field 4 (inRange 8 32 dwell)
  let skip ← field 5 (inRange 0 15 skip)
  return { m with options :=
    { tick := tick, divider := divider, depth := depth, dwell := dwell, skipLimit := skip, tag := tag } }

/-- The working map with the entry of a LOAD_CELL (R3, R9). -/
def WorkingMap.withCell (m : WorkingMap) (cell inUse : Byte) (length : BitVec 16) (sensor : Byte) :
    Except Verdict WorkingMap := do
  let c ← field 1 (cellOf cell)
  let inUse ← field 2 (flagOf inUse)
  let length ← field 3 (inRange 50 1000 length)
  let sensor ← field 4 (sensorModeOf sensor)
  return { m with cells := m.cells.set c { inUse := inUse, length := length, sensor := sensor } }

/-- The working map with the entry of a LOAD_APPROACH (R4, R9). -/
def WorkingMap.withApproach (m : WorkingMap) (approach inUse : Byte) (distance : BitVec 16) (limit : Byte) :
    Except Verdict WorkingMap := do
  let a ← field 1 (indexOf 8 approach.toNat)
  let inUse ← field 2 (flagOf inUse)
  let distance ← field 3 (inRange 50 2000 distance)
  let limit ← field 4 (inRange 1 6 limit)
  return { m with
    approaches := m.approaches.set a { inUse := inUse, distance := distance, limit := limit } }

/-- The working map with the four fields of a LOAD_ROUTE; the cell list stays (R5, R10). -/
def WorkingMap.withRoute (m : WorkingMap) (route inUse approach speed count : Byte) :
    Except Verdict WorkingMap := do
  let r ← field 1 (indexOf 48 route.toNat)
  let inUse ← field 2 (flagOf inUse)
  let approach ← field 3 (indexOf 8 approach.toNat)
  let speed ← field 4 (inRange 10 250 speed)
  let count ← field 5 (inRange 0 15 count)
  let e := m.routes[r]
  return { m with
    routes := m.routes.set r { e with inUse := inUse, approach := approach, speed := speed, count := count } }

/-- The entries of a LOAD_ROUTE_CELLS in order, the first of them field `number`; or the first that is out of range
(R10). -/
def readEntries : Nat → List Byte → Except Verdict (List (Option CellId))
  | _, [] => .ok []
  | number, b :: rest => do
    let entry ← field number (listEntryOf b)
    let entries ← readEntries (number + 1) rest
    return entry :: entries

/-- A cell list with entries written from a position on (R10). -/
def writeEntries (list : Vector (Option CellId) 8) (offset : Nat) (entries : List (Option CellId)) :
    Vector (Option CellId) 8 :=
  Vector.ofFn fun i =>
    if offset ≤ i.val then (entries[i.val - offset]?).getD list[i] else list[i]

/-- The working map with the positions of a LOAD_ROUTE_CELLS (R10), checked in R10's order. -/
def WorkingMap.withRouteCells (m : WorkingMap) (route span : Byte) (bytes : List Byte) :
    Except Verdict WorkingMap := do
  let r ← field 1 (indexOf 48 route.toNat)
  let offset ← field 2 (inRange 0 7 (span.extractLsb' 4 4))
  let count ← field 3 (inRange 1 6 (span.extractLsb' 0 4))
  let count ← field 3 (if offset + count ≤ 8 then some count else none)
  let entries ← readEntries 4 (bytes.take count)
  let e := m.routes[r]
  return { m with routes := m.routes.set r { e with list := writeEntries e.list offset entries } }

/-- The working map with the entry of a LOAD_MASTER (R6, R9). -/
def WorkingMap.withMaster (m : WorkingMap) (slot inUse node role option : Byte) : Except Verdict WorkingMap := do
  let k ← field 1 (indexOf 6 slot.toNat)
  let inUse ← field 2 (flagOf inUse)
  let node ← field 3 (indexOf 16 node.toNat)
  let role ← field 4 (roleOf role)
  let option ← field 5 (noticeOptionOf option)
  return { m with masters := m.masters.set k { inUse := inUse, node := node, role := role, option := option } }

/-- LOAD_OPTIONS (R9). -/
def execLoadOptions (hd : FrameHead) (tick divider depth dwell skip : Byte) (tag : BitVec 16) (s : State) :
    Host.Outcome State Fault Refusal :=
  onServiceFrame (.loadOptions hd tick divider depth dwell skip tag) hd.src s fun s =>
    s.load (s.map.working.withOptions tick divider depth dwell skip tag)

/-- LOAD_CELL (R9). -/
def execLoadCell (hd : FrameHead) (cell inUse : Byte) (length : BitVec 16) (sensor : Byte) (s : State) :
    Host.Outcome State Fault Refusal :=
  onServiceFrame (.loadCell hd cell inUse length sensor) hd.src s fun s =>
    s.load (s.map.working.withCell cell inUse length sensor)

/-- LOAD_APPROACH (R9). -/
def execLoadApproach (hd : FrameHead) (approach inUse : Byte) (distance : BitVec 16) (limit : Byte) (s : State) :
    Host.Outcome State Fault Refusal :=
  onServiceFrame (.loadApproach hd approach inUse distance limit) hd.src s fun s =>
    s.load (s.map.working.withApproach approach inUse distance limit)

/-- LOAD_ROUTE (R10). -/
def execLoadRoute (hd : FrameHead) (route inUse approach speed count : Byte) (s : State) :
    Host.Outcome State Fault Refusal :=
  onServiceFrame (.loadRoute hd route inUse approach speed count) hd.src s fun s =>
    s.load (s.map.working.withRoute route inUse approach speed count)

/-- LOAD_ROUTE_CELLS (R10). -/
def execLoadRouteCells (hd : FrameHead) (route span e0 e1 e2 e3 e4 e5 : Byte) (s : State) :
    Host.Outcome State Fault Refusal :=
  onServiceFrame (.loadRouteCells hd route span e0 e1 e2 e3 e4 e5) hd.src s fun s =>
    s.load (s.map.working.withRouteCells route span [e0, e1, e2, e3, e4, e5])

/-- LOAD_MASTER (R9). -/
def execLoadMaster (hd : FrameHead) (slot inUse node role option : Byte) (s : State) :
    Host.Outcome State Fault Refusal :=
  onServiceFrame (.loadMaster hd slot inUse node role option) hd.src s fun s =>
    s.load (s.map.working.withMaster slot inUse node role option)

/-! ### The check at commit (R12) -/

/-- What a list position holds; past the eight positions nothing. -/
def RouteEntry.at? (e : RouteEntry) (i : Nat) : Option CellId := (e.list.toList[i]?).getD none

/-- A position holds NONE or a cell that is not in use (R12, step 3). -/
def WorkingMap.unusedAt (m : WorkingMap) (e : RouteEntry) (i : Nat) : Bool :=
  match e.at? i with
  | none => true
  | some c => !m.cells[c].inUse

/-- A position holds the same cell as an earlier one (R12, step 4). -/
def RouteEntry.repeatedAt (e : RouteEntry) (i : Nat) : Bool := (List.range i).any fun j => e.at? j = e.at? i

/-- Steps 1 to 4 of R12 for one route. -/
def WorkingMap.routeFault (m : WorkingMap) (r : RouteId) : Option Verdict :=
  let e := m.routes[r]
  if !e.inUse then none
  else if e.count = 0 ∨ 8 < e.count then some (.mapInvalid .cellCount (some r.val) (some e.count))
  else if !m.approaches[e.approach].inUse then
    some (.mapInvalid .approachUnused (some r.val) (some e.approach.val))
  else match (List.range e.count).find? (m.unusedAt e) with
    | some i => some (.mapInvalid .cellUnused (some r.val) (some i))
    | none =>
      ((List.range e.count).find? e.repeatedAt).map fun i => .mapInvalid .cellRepeated (some r.val) (some i)

/-- The number of master entries in use with role SAFETY (R12, step 6). -/
def WorkingMap.safetyCount (m : WorkingMap) : Nat :=
  (m.masters.toList.filter fun e => e.inUse && e.role = .safety).length

/-- Steps 5 and 6 of R12. -/
def WorkingMap.wholeFault (m : WorkingMap) : Option Verdict :=
  if !(m.routes.toList.any fun e => e.inUse) then some (.mapInvalid .noRoute none none)
  else if m.safetyCount ≠ 1 then some (.mapInvalid .safetyCount none (some m.safetyCount))
  else none

/-- Steps 7 to 9 of R12 for one master slot. -/
def WorkingMap.masterFault (m : WorkingMap) (own : Node) (k : MasterSlot) : Option Verdict :=
  let e := m.masters[k]
  if !e.inUse then none
  else if e.node = 15 then some (.mapInvalid .nodeReserved (some k.val) (some e.node.val))
  else if e.node = own then some (.mapInvalid .nodeOwn (some k.val) (some e.node.val))
  else ((List.finRange 6).find? fun j => j < k && m.masters[j].inUse && m.masters[j].node = e.node).map
    fun j => .mapInvalid .nodeDuplicate (some k.val) (some j.val)

/-- The commit check (R12): the first failure, or none for a valid map. -/
def WorkingMap.fault (m : WorkingMap) (own : Node) : Option Verdict :=
  ((List.finRange 48).findSome? m.routeFault).or
    (m.wholeFault.or ((List.finRange 6).findSome? (m.masterFault own)))

/-! ### The effects of a commit (R15) -/

/-- A master slot is changed by the commit (R15, step 4). -/
def State.slotChanged (s : State) (k : MasterSlot) : Bool :=
  let new := s.map.working.masters[k]
  let old := s.map.enrolment[k]
  new.inUse ≠ old.inUse || new.node ≠ old.node || new.role ≠ old.role

/-- Every changed slot's FIFO is emptied and its LOST flag cleared, and a frame of such a slot in the shifter or the
staged buffer is dropped (R15 step 4, R158); the places left are filled again (R161), once, when all the changed slots
have been cleared (DESIGN CHOICE, log entry 34). -/
def State.clearChangedSlots (s : State) : State :=
  let dropped : Option TxFrame → Bool := fun f => f.any fun f => s.slotChanged f.slot
  let s' := { s with notices := { s.notices with
    fifos := Vector.ofFn fun k => if s.slotChanged k then { queue := [], lost := false } else s.notices.fifos[k] } }
  let s' := if dropped s.liu.shifter then
    { s' with
      liu := { s'.liu with shifter := none, attempt := none }
      notices := { s'.notices with attempts := 0, lateLoss := false } } else s'
  let s' := if dropped s.liu.staged then s'.setLiu { s'.liu with staged := none } else s'
  s'.refill

/-- The sensor records are set up from the committed map (R103). -/
def State.setUpSensors (s : State) : State :=
  { s with
    book := { s.book with
      cells := Vector.ofFn fun c =>
        let e := s.map.working.cells[c]
        let believed : Occupancy := if e.inUse && e.sensor = .standby then .blind else .free
        { s.cell c with occupancy := believed, heard := believed, stamp := s.timer.floor } }
    scanner := { s.scanner with
      sensors := Vector.ofFn fun c => { mode := s.map.working.cells[c].sensor, raw := .free, count := 0 } } }

/-- The seven effects of a commit, in order (R15). -/
def State.commit (s : State) : State :=
  let s := { s with map := { s.map with tag := s.map.working.options.tag, crc := s.map.working.crc } }
  let s := { s with book := { s.book with
    cells := Vector.ofFn fun c => { s.cell c with lock := .none, intruded := false } } }
  let s := s.clearChangedSlots
  let s := { s with map := { s.map with enrolment := s.map.working.masters } }
  let s := { s with decoder := { s.decoder with service := none } }
  s.setUpSensors.enterSettling

/-- COMMIT_MAP at the Map Store (R12, R15). -/
def State.commitMap (s : State) : State × Verdict :=
  match s.map.working.fault s.liu.own with
  | some v => (s, v)
  | none => (s.commit, .done (.commitMap s.map.working.options.tag s.map.working.crc))

/-- COMMIT_MAP (R15). -/
def execCommitMap (hd : FrameHead) (s : State) : Host.Outcome State Fault Refusal :=
  onServiceFrame (.commitMap hd) hd.src s State.commitMap

end Sys2Proof.Machine
end

