-- ==== Sys2Proof/Machine/ModeCommands.lean ====
section
/-! DEFINITION. SET_SENSOR, owned by the Sensor Scanner (R100), and the commands that the Mode Controller owns:
OPEN_SERVICE, DRAIN, RESUME and RESTART (R118, R119, R122, R127, R128). -/

namespace Sys2Proof.Machine

/-! ### SET_SENSOR -/

/-- The sensor mode of a cell becomes the one named (R99). Answers whether the change starts a grant pass. -/
def State.changeSensor (s : State) (c : CellId) (mode : SensorMode) : State × Bool :=
  match mode with
  | .standby => s.toStandby c
  | .active => s.toActive c

/-- The cell in use that SET_SENSOR names, and the mode; or BAD_VALUE (R100). Where both are bad, the field named is the
cell's (DESIGN CHOICE, log entry 32). -/
def State.sensorOperands (s : State) (cell mode : Byte) : Except Verdict (CellId × SensorMode) :=
  match (cellOf cell).filter s.cellInUse, sensorModeOf mode with
  | none, _ => .error (badField 1)
  | some _, none => .error (badField 2)
  | some c, some m => .ok (c, m)

/-- SET_SENSOR at the Scanner (R100). -/
def State.setSensorMode (s : State) (cell mode : Byte) : State × Verdict :=
  match s.sensorOperands cell mode with
  | .error v => (s, v)
  | .ok (c, m) =>
    let before := (s.sensor c).mode
    let s' := if m = before then s else
      let changed := s.changeSensor c m
      s.afterEvent changed.1 changed.2
    (s', .done (.setSensor before (s'.cell c).occupancy))

/-- SET_SENSOR (R100). -/
def execSetSensor (hd : FrameHead) (cell mode : Byte) (s : State) : Host.Outcome State Fault Refusal :=
  onFrame (.setSensor hd cell mode) s fun s => s.setSensorMode cell mode

/-! ### OPEN_SERVICE -/

/-- The service node becomes the one named (R118, R119). -/
def State.nameServiceNode (s : State) (n : Node) : State :=
  { s with decoder := { s.decoder with service := some n } }

/-- Every cell reads FREE with a filter at rest, and no cell is intruded; modes and stamps are kept (R118, steps 4
and 5). -/
def State.restCells (s : State) : State :=
  { s with
    book := { s.book with
      cells := Vector.ofFn fun c =>
        { s.cell c with occupancy := .free, heard := .free, intruded := false } }
    scanner := { s.scanner with
      sensors := Vector.ofFn fun c => { s.sensor c with raw := .free, count := 0 } } }

/-- The entry into SERVICE (R118). -/
def State.enterService (s : State) (n : Node) : State :=
  let s := s.setControl
    { s.control with mode := .service, settleCount := 0, risesDue := 0, causes := .empty }
  let s := s.nameServiceNode n
  let s := { s with decoder := { s.decoder with latches := Vector.replicate 15 none } }
  s.restCells.postMode

/-- How many passages satisfy a condition. -/
def State.countPassages (s : State) (which : Passage → Bool) : Nat := (s.slotsWhere which).length

/-- OPEN_SERVICE at the Mode Controller (R119). The Decoder hands it on in no other mode (R129). -/
def State.openService (s : State) (src : Node) : State × Verdict :=
  match s.control.mode with
  | .unmapped => (s.enterService src, .done (.openService 0))
  | .service => (s.nameServiceNode src, .done (.openService 0))
  | .draining | .halted =>
    if 0 < s.liveCount then (s, .busy s.liveCount)
    else
      let waiting : Passage → Bool := fun q => q.state = .queued
      ((s.flush waiting).enterService src, .done (.openService (s.countPassages waiting)))
  | .settling | .running => (s, .refusedMode s.control.mode)

/-- OPEN_SERVICE (R119). -/
def execOpenService (hd : FrameHead) (s : State) : Host.Outcome State Fault Refusal :=
  onFrame (.openService hd) s fun s => s.openService hd.src

/-! ### DRAIN -/

/-- The junction mode changes, and nothing else of the Mode Controller. -/
def State.setMode (s : State) (mode : Mode) : State := s.setControl { s.control with mode := mode }

/-- DRAIN at the Mode Controller (R122). -/
def State.drain (s : State) : State × Verdict :=
  (if s.control.mode = .running then (s.setMode .draining).postMode else s, .done (.drain s.liveCount))

/-- DRAIN (R122). -/
def execDrain (hd : FrameHead) (s : State) : Host.Outcome State Fault Refusal :=
  onFrame (.drain hd) s fun s => s.drain

/-! ### RESUME -/

/-- Every approach with a GRANTED passage gets its latch set to GO (R106, R127 step 3). -/
def State.goLatches (s : State) : State :=
  (List.finRange 8).foldl (fun s a => if (s.grantedOn a).isSome then s.setLatch a .go else s) s

/-- A RESUME from HALTED to a mode other than SETTLING (R127, steps 1 to 5). -/
def State.leaveHalted (s : State) (mode : Mode) : State :=
  let s := s.setMode mode
  let s := s.modLiveDeadlines fun d => d.leaveHalt s.timer.floor
  (s.goLatches.postMode).grantPass none

/-- RESUME at the Mode Controller (R127). HALTED with prior mode UNMAPPED, which no run
reaches, goes by SETTLING (log entry 24). -/
def State.resume (s : State) : State × Verdict :=
  match s.control.mode with
  | .halted =>
    if !s.control.causes.isEmpty then (s, .causePresent s.control.causes)
    else
      let s' := match s.control.prior with
        | .running => s.leaveHalted .running
        | .draining => s.leaveHalted .draining
        | .settling | .unmapped => s.enterSettling
      (s', .done (.resume s'.control.mode))
  | .draining => (((s.setMode .running).postMode).grantPass none, .done (.resume .running))
  | .running => (s, .done (.resume .running))
  | .settling | .unmapped | .service => (s, .refusedMode s.control.mode)

/-- RESUME (R127). -/
def execResume (hd : FrameHead) (s : State) : Host.Outcome State Fault Refusal :=
  onFrame (.resume hd) s fun s => s.resume

/-! ### RESTART -/

/-- The sensor of an in-use cell returns to the map's initial mode, with the filter restart (R104). -/
def State.returnSensor (s : State) (c : CellId) : State :=
  if !s.cellInUse c then s
  else match (s.sensor c).mode, s.map.working.cells[c].sensor with
    | .active, .active => (s.restartFilter c).1
    | .standby, .standby => s
    | .active, .standby => (s.toStandby c).1
    | .standby, .active => (s.toActive c).1

/-- RESTART at the Mode Controller (R128). The passes that its reports start do not run: `returnSensor` drops them. A
LOCK_PENDING cell becomes LOCKED in the flush (DESIGN CHOICE, log entry 35). -/
def State.restart (s : State) : State × Verdict :=
  let flushed := s.countPassages fun _ => true
  let s := s.flush fun _ => true
  let s := (List.finRange 32).foldl State.returnSensor s
  let s :=
    if s.control.mode = .halted then
      (s.setControl { s.control with prior := .settling, settleCount := 0, risesDue := 0 }).postMode
    else s.enterSettling
  (s, .done (.restart flushed s.control.mode))

/-- RESTART (R128). -/
def execRestart (hd : FrameHead) (s : State) : Host.Outcome State Fault Refusal :=
  onFrame (.restart hd) s fun s => s.restart

end Sys2Proof.Machine
end

