-- ==== Sys2Proof/Machine/Queries.lean ====
section
/-! DEFINITION. The commands that the Command Decoder owns: IDENTIFY, LINE_PATTERN and the questions (R146 to R151). -/

namespace Sys2Proof.Machine

/-- The snapshot latch of a node; node 15 has none (R144, R150). -/
def State.latchOf (s : State) (n : Node) : Option Snapshot :=
  match indexOf 15 n.val with
  | none => none
  | some i => s.decoder.latches[i]

/-- Fills the snapshot latch of a node; for node 15 nothing is stored (R150). -/
def State.storeSnapshot (s : State) (n : Node) (snap : Snapshot) : State :=
  match indexOf 15 n.val with
  | none => s
  | some i => { s with decoder := { s.decoder with latches := s.decoder.latches.set i (some snap) } }

/-- QUERY_JUNCTION part 1 at the Decoder (R150). -/
def State.junctionPart1 (s : State) (src : Node) : State × Verdict :=
  (s.storeSnapshot src (s.snapshot src), .done (.junctionPart1 (s.snapshot src)))

/-- QUERY_JUNCTION part 2 at the Decoder (R151). -/
def State.junctionPart2 (s : State) (src : Node) : State × Verdict :=
  match s.latchOf src with
  | none => (s, .noSnapshot)
  | some snap => (s, .done (.junctionPart2 snap))

/-- The verdict of QUERY_JUNCTION by its part byte (R150, R151). The value 2 is PART_2's row (log entry 13). -/
def State.junctionPart (s : State) (src : Node) (part : Byte) : State × Verdict :=
  if part = 1 then s.junctionPart1 src
  else if part = 2 then s.junctionPart2 src
  else (s, badField 1)

/-- What QUERY_PASSAGE reports of a record (R147). -/
def Passage.report (q : Passage) (now : Time) : DoneData :=
  .passage q.carrier q.state q.overdue q.deadline.kind q.deadline.frozenBit q.clamped q.position q.firstHeld
    (q.deadline.remainder now)

/-- QUERY_PASSAGE at the Decoder (R147). -/
def State.passageVerdict (s : State) (slot : Byte) : Verdict :=
  match (slotOf slot).bind s.passage with
  | none => .unknownPassage
  | some q => .done (q.report s.timer.floor)

/-- QUERY_CELL at the Decoder (R148). -/
def State.cellVerdict (s : State) (cell : Byte) : Verdict :=
  match cellOf cell with
  | none => badField 1
  | some c =>
    let r := s.cell c
    .done (.cell r.holder r.reservation (s.cellInUse c) r.lock r.intruded r.occupancy r.stamp)

/-- The verdict of QUERY_LINE: the record as it stands (R142, R149). -/
def State.lineVerdict (s : State) : Verdict :=
  .done (.line s.liu.error.kind s.liu.error.overrun s.liu.error.stamp)

/-- The line error record is emptied (R142). -/
def State.emptyError (s : State) : State := s.setLiu { s.liu with error := .empty }

/-- IDENTIFY (R146). -/
def execIdentify (hd : FrameHead) (s : State) : Host.Outcome State Fault Refusal :=
  onFrame (.identify hd) s fun s =>
    (s, .done (.identify s.power.straps s.control.mode s.map.tag s.map.crc))

/-- LINE_PATTERN (R146). -/
def execLinePattern (hd : FrameHead) (s : State) : Host.Outcome State Fault Refusal :=
  onFrame (.linePattern hd) s fun s => (s, .done .linePattern)

/-- QUERY_JUNCTION with the part byte the frame carries (R150). -/
def execQueryJunctionPart1 (hd : FrameHead) (part : Byte) (s : State) : Host.Outcome State Fault Refusal :=
  onFrame (.queryJunctionPart1 hd part) s fun s => s.junctionPart hd.src part

/-- QUERY_JUNCTION part 2 (R151). -/
def execQueryJunctionPart2 (hd : FrameHead) (s : State) : Host.Outcome State Fault Refusal :=
  onFrame (.queryJunctionPart2 hd) s fun s => s.junctionPart2 hd.src

/-- QUERY_PASSAGE (R147). -/
def execQueryPassage (hd : FrameHead) (slot : Byte) (s : State) : Host.Outcome State Fault Refusal :=
  onFrame (.queryPassage hd slot) s fun s => (s, s.passageVerdict slot)

/-- QUERY_CELL (R148). -/
def execQueryCell (hd : FrameHead) (cell : Byte) (s : State) : Host.Outcome State Fault Refusal :=
  onFrame (.queryCell hd cell) s fun s => (s, s.cellVerdict cell)

/-- QUERY_LINE (R149). -/
def execQueryLine (hd : FrameHead) (s : State) : Host.Outcome State Fault Refusal :=
  onFrame (.queryLine hd) s fun s => (s.emptyError, s.lineVerdict)

end Sys2Proof.Machine
end

