-- ==== Sys2Proof/Machine/ResetEvents.lean ====
section
/-! DEFINITION. Hardware reset (R165, R166), and what one cycle of the crystal advances (R78, R95, R140, R166). -/

namespace Sys2Proof.Machine

/-- The cause applies reset: the supply, or a low level on RSTn of 2 µs or more (R165). -/
def appliesReset : ResetCause → Bool
  | .supply => true
  | .pin cycles => Config.resetFromCycles ≤ cycles

/-- Reset is applied (R165): what is on the line ends, the part lets go of the line, and nothing is taken until the
count ends. The registers keep their values till then (log entry 21). -/
def State.applyReset (s : State) : State :=
  { s with
    power := { s.power with phase := .applied, count := 0 }
    liu := { s.liu.abort with pulse := none } }

/-- HARDWARE_RESET (R165), in any mode and at any moment. -/
def execHardwareReset (cause : ResetCause) (s : State) : Host.Outcome State Fault Refusal :=
  .next (if appliesReset cause then s.applyReset else s)

/-- RESET_RELEASE (R166): the oscillator-ready count begins from 0. -/
def execResetRelease (s : State) : Host.Outcome State Fault Refusal :=
  .next (if s.power.phase = .applied then { s with power := { s.power with phase := .counting, count := 0 } } else s)

/-- OSCILLATOR_READY (R166): the count ends, the straps are read, and every block takes its hardware-reset values. -/
def execOscillatorReady (straps : BitVec 4) (s : State) : Host.Outcome State Fault Refusal :=
  .next (if s.power.phase = .counting then { State.afterReset straps with pending := s.pending } else s)

/-! ### One cycle of the crystal -/

/-- The scan timer after one more cycle (R95); at the end of the period it waits for the scan. -/
def Scanner.cycle (n : Scanner) : Scanner :=
  if n.cycles + 1 < Config.cyclesPerMs then { n with cycles := n.cycles + 1 }
  else if n.ms < n.period then { n with ms := n.ms + 1, cycles := 0 }
  else { n with cycles := Config.cyclesPerMs }

/-- The tick interval after one more cycle (R78); at its end it waits for the tick. -/
def Timer.cycle (t : Timer) : Timer :=
  { t with cycles := min (t.cycles + 1) (Config.cyclesPerMs * t.interval) }

/-- The part after one cycle of the crystal with nothing commanded (log entry 2): the counters of R78, R95, R140 and
R166 advance, and wait at their ends for the command that takes the end. -/
def State.crystalCycle (s : State) : State :=
  match s.power.phase with
  | .applied => s
  | .counting =>
    { s with power := { s.power with count := min (s.power.count + 1) Config.oscillatorCycles } }
  | .running =>
    { s with
      timer := s.timer.cycle
      scanner := s.scanner.cycle
      liu := { s.liu with pulse := s.liu.pulse.map fun n => min (n + 1) Config.haltPulseCycles } }

end Sys2Proof.Machine
end

