-- ==== Sys2Proof/Machine/TimerEvents.lean ====
section
/-! DEFINITION. The events of the Clearance Timer: the tick increment (R78) and the expiries (R87 to R90). -/

namespace Sys2Proof.Machine

/-- A deadline of this kind of the passage in a slot has been reached (R80, R87). -/
def State.expiryDue (s : State) (p : Slot) (kind : ArmedKind) : Bool :=
  (s.passage p).any fun q => q.deadline.dueAs kind s.timer.floor

/-- The expiry of an ARRIVAL: the passage LAPSES, and a pass starts (R88). -/
def State.arrivalExpiry (s : State) (p : Slot) : State :=
  if s.expiryDue p .arrival then s.afterEvent (s.remove p .lapsed) true else s

/-- The overdue level after a DWELL expiry (R89). -/
def Overdue.raised : Overdue → Overdue
  | .normal => .overdue
  | .overdue | .stalled => .stalled

/-- The deadline after a DWELL expiry: re-armed with the same window at the first, NONE at the second (R85, R89). -/
def Deadline.afterDwell (d : Deadline) (level : Overdue) (now : Time) : Deadline :=
  match level, d.run with
  | .normal, some r => d.arm .dwell r.window now
  | _, _ => { d with run := none }

/-- The record after a DWELL expiry (R89). -/
def Passage.afterDwell (q : Passage) (now : Time) : Passage :=
  { q with overdue := q.overdue.raised, wasOverdue := true, deadline := q.deadline.afterDwell q.overdue now }

/-- The notice of a DWELL expiry (R89). -/
def Overdue.body : Overdue → NoticeBody
  | .normal => .overdue
  | .overdue | .stalled => .stalled

/-- The expiry of a DWELL: the level rises, with its notice to the owner and the safety master (R89). -/
def State.dwellExpiry (s : State) (p : Slot) : State :=
  match s.passage p with
  | none => s
  | some q =>
    if q.deadline.dueAs .dwell s.timer.floor then
      let q' := q.afterDwell s.timer.floor
      (s.setPassage p (some q')).postOwnerAndSafety q.overdue.body p q'
    else s

/-- The expiry of a BLIND_CLEAR: every cell still held is released in route order, the passage is CLEARED, and a pass
starts (R69, R90). -/
def State.blindClearExpiry (s : State) (p : Slot) : State :=
  if s.expiryDue p .blindClear then s.afterEvent (s.remove p .cleared) true else s

/-- The expiry of the passage in a slot, of whatever kind is due. -/
def State.expire (s : State) (p : Slot) : State := ((s.arrivalExpiry p).dwellExpiry p).blindClearExpiry p

/-- Floor time increases by one, and the next interval runs with the tick that is stored then (R78). -/
def State.increment (s : State) : State :=
  { s with timer := { floor := s.timer.floor + 1, interval := s.map.working.options.tick, cycles := 0 } }

/-- ARRIVAL_EXPIRY (R88). -/
def execArrivalExpiry (slot : Slot) (s : State) : Host.Outcome State Fault Refusal :=
  s.whenRunning fun s => s.arrivalExpiry slot

/-- DWELL_EXPIRY (R89). -/
def execDwellExpiry (slot : Slot) (s : State) : Host.Outcome State Fault Refusal :=
  s.whenRunning fun s => s.dwellExpiry slot

/-- BLIND_CLEAR_EXPIRY (R90). -/
def execBlindClearExpiry (slot : Slot) (s : State) : Host.Outcome State Fault Refusal :=
  s.whenRunning fun s => s.blindClearExpiry slot

/-- TICK (R78, R80): expiries still due are taken first, so that no deadline is ever passed by (log entry 8). -/
def execTick (s : State) : Host.Outcome State Fault Refusal :=
  s.whenRunning fun s => ((List.finRange 24).foldl State.expire s).increment

end Sys2Proof.Machine
end

