-- ==== Sys2Proof/Machine/Dispatch.lean ====
section
/-! DEFINITION. What each command does: one arm per command of the table. -/

namespace Sys2Proof.Machine

/-- A command's effect on everything but the queue. -/
def exec (i : Instr) (s : State) : Host.Outcome State Fault Refusal :=
  match i with
  | .identify hd => Sys2Proof.Machine.execIdentify hd s
  | .linePattern hd => Sys2Proof.Machine.execLinePattern hd s
  | .queryJunctionPart1 hd part => Sys2Proof.Machine.execQueryJunctionPart1 hd part s
  | .queryJunctionPart2 hd => Sys2Proof.Machine.execQueryJunctionPart2 hd s
  | .queryPassage hd slot => Sys2Proof.Machine.execQueryPassage hd slot s
  | .queryCell hd cell => Sys2Proof.Machine.execQueryCell hd cell s
  | .queryLine hd => Sys2Proof.Machine.execQueryLine hd s
  | .requestPassage hd carrier route cls speed length => Sys2Proof.Machine.execRequestPassage hd carrier route cls speed length s
  | .withdraw hd slot carrier => Sys2Proof.Machine.execWithdraw hd slot carrier s
  | .lockCells hd set => Sys2Proof.Machine.execLockCells hd set s
  | .unlockCells hd set => Sys2Proof.Machine.execUnlockCells hd set s
  | .setSensor hd cell mode => Sys2Proof.Machine.execSetSensor hd cell mode s
  | .forceRelease hd slot carrier => Sys2Proof.Machine.execForceRelease hd slot carrier s
  | .drain hd => Sys2Proof.Machine.execDrain hd s
  | .resume hd => Sys2Proof.Machine.execResume hd s
  | .restart hd => Sys2Proof.Machine.execRestart hd s
  | .openService hd => Sys2Proof.Machine.execOpenService hd s
  | .loadOptions hd tick divider depth dwell skip tag => Sys2Proof.Machine.execLoadOptions hd tick divider depth dwell skip tag s
  | .loadCell hd cell inUse length sensor => Sys2Proof.Machine.execLoadCell hd cell inUse length sensor s
  | .loadApproach hd approach inUse distance limit => Sys2Proof.Machine.execLoadApproach hd approach inUse distance limit s
  | .loadRoute hd route inUse approach speed count => Sys2Proof.Machine.execLoadRoute hd route inUse approach speed count s
  | .loadRouteCells hd route span e0 e1 e2 e3 e4 e5 => Sys2Proof.Machine.execLoadRouteCells hd route span e0 e1 e2 e3 e4 e5 s
  | .loadMaster hd slot inUse node role option => Sys2Proof.Machine.execLoadMaster hd slot inUse node role option s
  | .commitMap hd => Sys2Proof.Machine.execCommitMap hd s
  | .frameError raw => Sys2Proof.Machine.execFrameError raw s
  | .tailBitError => Sys2Proof.Machine.execTailBitError s
  | .noiseRun cycles => Sys2Proof.Machine.execNoiseRun cycles s
  | .lineIdle => Sys2Proof.Machine.execLineIdle s
  | .noticeFrameStart => Sys2Proof.Machine.execNoticeFrameStart s
  | .arbitrationLost inMark => Sys2Proof.Machine.execArbitrationLost inMark s
  | .noticeSentClean => Sys2Proof.Machine.execNoticeSentClean s
  | .noticeBitError => Sys2Proof.Machine.execNoticeBitError s
  | .haltPulseStart => Sys2Proof.Machine.execHaltPulseStart s
  | .haltPulseEnd => Sys2Proof.Machine.execHaltPulseEnd s
  | .lineStuck => Sys2Proof.Machine.execLineStuck s
  | .lineStuckRecovery => Sys2Proof.Machine.execLineStuckRecovery s
  | .haltPulseRelease => Sys2Proof.Machine.execHaltPulseRelease s
  | .scan cells signals emergency => Sys2Proof.Machine.execScan cells signals emergency s
  | .occupancyChange cell => Sys2Proof.Machine.execOccupancyChange cell s
  | .readbackChange approach => Sys2Proof.Machine.execReadbackChange approach s
  | .emergencyAsserted => Sys2Proof.Machine.execEmergencyAsserted s
  | .emergencyClear => Sys2Proof.Machine.execEmergencyClear s
  | .settleCountRise => Sys2Proof.Machine.execSettleCountRise s
  | .tick => Sys2Proof.Machine.execTick s
  | .arrivalExpiry slot => Sys2Proof.Machine.execArrivalExpiry slot s
  | .dwellExpiry slot => Sys2Proof.Machine.execDwellExpiry slot s
  | .blindClearExpiry slot => Sys2Proof.Machine.execBlindClearExpiry slot s
  | .hardwareReset cause => Sys2Proof.Machine.execHardwareReset cause s
  | .oscillatorReady straps => Sys2Proof.Machine.execOscillatorReady straps s
  | .lineBusy => Sys2Proof.Machine.execLineBusy s
  | .resetRelease => Sys2Proof.Machine.execResetRelease s

end Sys2Proof.Machine
end

