-- ==== Sys2Proof/Safety.lean ====
section
/-! DEFINITION. The laws of the device that a run keeps, as the guide names them, and the words that the statements
use: when a frame is heard, what an answer leaves alone. -/

namespace Sys2Proof.Machine

/-! ### Laws of the device -/

/-- No notice FIFO holds more than 16 notices (R158). -/
def State.FifosBounded (s : State) : Prop := ∀ k : MasterSlot, s.notices.fifos[k].queue.length ≤ Config.fifoDepth

/-- The halt-cause set is empty in every mode other than HALTED (R116). -/
def State.CausesLaw (s : State) : Prop := s.control.mode ≠ .halted → s.control.causes = HaltCauses.empty

/-- A LOCKED cell has no holder, and a LOCK_PENDING cell has one (R33). -/
def State.LockLaw (s : State) : Prop :=
  ∀ c, ((s.cell c).lock = .locked → (s.cell c).holder = none) ∧
    ((s.cell c).lock = .pending → (s.cell c).holder ≠ none)

/-- The passage in a slot is GRANTED and of this approach. -/
def State.GrantedAt (s : State) (p : Slot) (a : ApproachId) : Prop :=
  ∃ q, s.passage p = some q ∧ q.state = .granted ∧ s.approachOf q = a

/-- A latch is GO only while a passage of its approach is GRANTED and the mode is RUNNING or DRAINING (R106). -/
def State.LatchLaw (s : State) : Prop :=
  ∀ a, (s.signal a).latch = .go →
    (s.control.mode = .running ∨ s.control.mode = .draining) ∧ ∃ p, s.GrantedAt p a

/-- A skip count never exceeds the skip limit (R50), and a QUEUED passage whose count equals a limit of 1 or more is
blocking (R51). -/
def State.SkipsBounded (s : State) : Prop :=
  ∀ p q, s.passage p = some q → q.skips ≤ s.map.working.options.skipLimit ∧
    (q.state = .queued → q.skips = s.map.working.options.skipLimit → 1 ≤ q.skips → q.blocking = true)

/-- In UNMAPPED and SERVICE the pool is empty (R41, R118). -/
def State.ClosedEmpty (s : State) : Prop :=
  s.control.mode = .unmapped ∨ s.control.mode = .service → ∀ p, s.passage p = none

/-- No two passages in the pool have the same master slot and carrier id (R29). -/
def State.NamesUnique (s : State) : Prop :=
  ∀ p x q r, s.passage p = some q → s.passage x = some r → q.master = r.master → q.carrier = r.carrier → p = x

/-- The shifter and the staged buffer hold the heads of two different FIFOs and are kept filled; an attempt sends the
frame in the shifter, addressed to the node that the committed enrolment gives its slot; and two failed attempts are the
most that are counted (R138, R158, R161). -/
def State.TransmitLaw (s : State) : Prop :=
  (∀ f, s.liu.shifter = some f → s.notices.fifos[f.slot].queue.head? = some f.notice) ∧
  (∀ f, s.liu.staged = some f → s.notices.fifos[f.slot].queue.head? = some f.notice ∧
    ∃ g, s.liu.shifter = some g ∧ g.slot ≠ f.slot) ∧
  (s.liu.shifter = none → ∀ k : MasterSlot, s.notices.fifos[k].queue = []) ∧
  (s.liu.staged = none → ∀ f, s.liu.shifter = some f →
    ∀ k : MasterSlot, k ≠ f.slot → s.notices.fifos[k].queue = []) ∧
  (∀ a, s.liu.attempt = some a → ∃ f, s.liu.shifter = some f ∧ a.bytes = s.noticeFrame f a.lost) ∧
  s.notices.attempts ≤ 2

/-- The law of the two kinds of list (R22): the arrival-order list holds each QUEUED passage once and no other, an
approach queue is what it holds of that approach, no queue is longer than its limit, and the laws of skip counts hold
(R50, R51). The map that gives approaches and limits changes only while the pool is empty. -/
def State.ListLaw (s : State) : Prop :=
  s.ClosedEmpty ∧ s.SkipsBounded ∧ s.book.arrivals.Nodup ∧
  (∀ p, p ∈ s.book.arrivals ↔ ∃ q, s.passage p = some q ∧ q.state = .queued) ∧
  (∀ a, s.queue a = s.book.arrivals.filter fun p => (s.passage p).any fun q => decide (s.approachOf q = a)) ∧
  ∀ a, (s.queue a).length ≤ s.map.working.approaches[a].limit

/-- At most one passage per approach is GRANTED (R43). -/
def State.SingleGrant (s : State) : Prop := ∀ a p x, s.GrantedAt p a → s.GrantedAt x a → p = x

/-- The two laws of holding (R18): a cell's holder is a live passage in whose held run it stands, and every cell of a
held run has that holder. And the law of reservations (R52): a reserved cell's passage is QUEUED, blocking, and has the
cell on its route. The lists of R22, the one grant of R43 and routes without a repeated cell go with them. -/
def State.HolderLaw (s : State) : Prop :=
  s.ListLaw ∧ s.SingleGrant ∧
  (s.control.mode.operating = true → ∀ r : RouteId, s.map.working.routes[r].inUse = true →
    s.map.working.routes[r].cells.Nodup) ∧
  (∀ p q, s.passage p = some q → (s.cellsOf q).Nodup ∧ (q.state = .granted → q.firstHeld = 0)) ∧
  (∀ c p, (s.cell c).reservation = some p →
    ∃ q, s.passage p = some q ∧ q.state = .queued ∧ q.blocking = true ∧ c ∈ s.cellsOf q) ∧
  ∀ c p, (s.cell c).holder = some p ↔ ∃ q, s.passage p = some q ∧ c ∈ s.heldRun q

/-- Every field of the working map is in the range its table gives (R2 to R6, R8). -/
def WorkingMap.InRange (m : WorkingMap) : Prop :=
  m.options.tick ∈ [5, 10, 20, 40] ∧ m.options.divider ≤ 15 ∧ 1 ≤ m.options.depth ∧ m.options.depth ≤ 8 ∧
  8 ≤ m.options.dwell ∧ m.options.dwell ≤ 32 ∧ m.options.skipLimit ≤ 15 ∧
  (∀ c : CellId, 50 ≤ m.cells[c].length ∧ m.cells[c].length ≤ 1000) ∧
  (∀ a : ApproachId, 50 ≤ m.approaches[a].distance ∧ m.approaches[a].distance ≤ 2000 ∧
    1 ≤ m.approaches[a].limit ∧ m.approaches[a].limit ≤ 6) ∧
  ∀ r : RouteId, 10 ≤ m.routes[r].speed ∧ m.routes[r].speed ≤ 250 ∧ m.routes[r].count ≤ 15

/-- A deadline is armed exactly while its freeze-cause set is empty; armed, it lies at most 32767 ticks ahead, 0 only
while its expiry is still to be taken (log entry 8); frozen, it keeps 1 to 32767 ticks; its window is 1 to 32767
(R79, R80, R92). -/
def Deadline.Sound (d : Deadline) (now : Time) : Prop :=
  ∀ r, d.run = some r → 1 ≤ r.window.toNat ∧ r.window.toNat ≤ 32767 ∧
    match r.clock with
    | .armed deadline => (deadline - now).toNat ≤ 32767 ∧ d.halt = false ∧ d.extStop = false
    | .frozen remainder => 1 ≤ remainder.toNat ∧ remainder.toNat ≤ 32767 ∧ (d.halt = true ∨ d.extStop = true)

/-- Every deadline in the pool is sound, with the ranges of the map and of the records that every window is computed
from (R80, R81). -/
def State.TimerLaw (s : State) : Prop :=
  s.map.working.InRange ∧
  ∀ p q, s.passage p = some q →
    10 ≤ q.speed ∧ q.speed ≤ 250 ∧ 50 ≤ q.length ∧ q.length ≤ 400 ∧ q.load ≤ 3 ∧ q.priority ≤ 3 ∧
      q.deadline.Sound s.timer.floor

/-! ### Frames and their answers -/

/-- The LIU reads the frame that carries `c` (R133). -/
def State.Hears (s : State) (c : Instr) : Prop := ∃ f, frameOf c = some f ∧ s.hearsFrame f = true

/-- The frame that carries `c` is heard, and the Decoder hands it to its owner (R129, R143). -/
def State.Takes (s : State) (c : Instr) : Prop :=
  ∃ f, frameOf c = some f ∧ s.hearsFrame f = true ∧ s.judge f.kind f.head.src = .take

/-- `t` answers with this verdict: its tail is being sent (R136). -/
def State.Answers (t : State) (v : Verdict) : Prop := t.liu.tail = some { verdict := v, sending := true }

/-- Nothing differs but the line state, the byte buffer and the tail: what every frame leaves on the line. -/
def SameButTail (s t : State) : Prop :=
  t = { s with liu := { s.liu with line := t.liu.line, rx := t.liu.rx, tail := t.liu.tail } }

/-- Everything outside the book, the marks, the latches and the notices is as before, but for the line state, the byte
buffer and the tail. -/
def SameOutside (s t : State) : Prop :=
  t.power = s.power ∧ t.map = s.map ∧ t.timer = s.timer ∧ t.scanner = s.scanner ∧ t.control = s.control ∧
    t.decoder = s.decoder ∧ t.pending = s.pending ∧ t.liu.error = s.liu.error ∧ t.liu.own = s.liu.own ∧
    t.liu.pulse = s.liu.pulse

/-- The book, the marks and the latches are as before. -/
def SameBook (s t : State) : Prop := t.book = s.book ∧ t.marks = s.marks ∧ t.signals = s.signals

/-- The notices are as before: FIFOs, pointer, counts, shifter and staged buffer. -/
def SameNotices (s t : State) : Prop :=
  t.notices = s.notices ∧ t.liu.shifter = s.liu.shifter ∧ t.liu.staged = s.liu.staged

/-- The line state, the receive shifter with its buffer, and the tail are as before. -/
def SameLine (s t : State) : Prop :=
  t.liu.line = s.liu.line ∧ t.liu.rx = s.liu.rx ∧ t.liu.tail = s.liu.tail

/-- A notice has joined the tail of one FIFO, which was in use and not full (R159, R160). -/
def JoinsTail (s t : State) (k : MasterSlot) (n : Notice) : Prop :=
  s.map.enrolment[k].inUse = true → s.notices.fifos[k].queue.length < Config.fifoDepth →
    t.notices.fifos[k] = { s.notices.fifos[k] with queue := s.notices.fifos[k].queue ++ [n] }

/-! ### Selections -/

/-- A selection may take this slot: its FIFO is not empty, and its head is not in the shifter (R161). -/
def State.MayTake (s : State) (k : MasterSlot) : Prop :=
  s.notices.fifos[k].queue ≠ [] ∧ ∀ f, s.liu.shifter = some f → f.slot ≠ k

/-- The slot that a selection takes: of those it may take, the first cyclically from the round-robin pointer (R161). -/
def State.NextSlot (s : State) (k : MasterSlot) : Prop :=
  s.MayTake k ∧ ∀ x, s.MayTake x → (k - s.notices.pointer).val ≤ (x - s.notices.pointer).val

/-- One selection leads from `s` to `t` (R161): the head of the slot taken goes into an empty shifter, with attempt
count 0 and the late-loss mark clear, and otherwise into an empty staged buffer; the pointer becomes the slot after the
one taken. With no slot to take, or no empty place, nothing changes. -/
def Selects (s t : State) : Prop :=
  (∀ k n, s.NextSlot k → s.notices.fifos[k].queue.head? = some n →
    let frame : TxFrame := { slot := k, notice := n }
    (s.liu.shifter = none → t =
      { s with
        liu := { s.liu with shifter := some frame, attempt := none }
        notices := { s.notices with pointer := k + 1, attempts := 0, lateLoss := false } }) ∧
    (s.liu.shifter ≠ none → s.liu.staged = none → t =
      { s with liu := { s.liu with staged := some frame }, notices := { s.notices with pointer := k + 1 } })) ∧
  ((∀ k, ¬ s.MayTake k) ∨ s.liu.shifter ≠ none ∧ s.liu.staged ≠ none → t = s)

/-- The places of `s` are filled, which leads to `t`: the staged frame moves up into an empty shifter, and then one
selection is made for each place that is empty (R138, R161; log entry 27). -/
def Refills (s t : State) : Prop :=
  (s.liu.shifter ≠ none → Selects s t) ∧
  (s.liu.shifter = none → ∀ f, s.liu.staged = some f →
    Selects
      { s with
        liu := { s.liu with shifter := some f, staged := none, attempt := none }
        notices := { s.notices with attempts := 0, lateLoss := false } } t) ∧
  (s.liu.shifter = none → s.liu.staged = none → ∃ u, Selects s u ∧ Selects u t)

/-! ### What is posted -/

/-- Between `s` and `t` these notices were posted to these slots, in this order, and nothing else happened to notices
(R159). What one posting does to a FIFO is PostingRule's; how shifter, staged buffer and pointer follow is log
entry 27's. -/
def Posts (s t : State) (l : List (MasterSlot × Notice)) : Prop :=
  let posted := l.foldl (fun u x => u.enqueue x.1 x.2) s
  SameNotices posted t ∧ t.liu.attempt = posted.liu.attempt

/-- One copy for the safety master (R159). -/
def toSafety (s : State) (n : Notice) : List (MasterSlot × Notice) := s.safetySlot.toList.map fun k => (k, n)

/-- One copy for every slot (R117), in ascending slot order (log entry 14). -/
def toAll (n : Notice) : List (MasterSlot × Notice) := (List.finRange 6).map fun k => (k, n)

/-- A notice about the passage `q` in slot `p`, posted at the floor time of `s`: CLAMPED as its passage, WAS_OVERDUE in
a CLEARED notice alone (R159). -/
def passageNotice (s : State) (body : NoticeBody) (p : Slot) (q : Passage) : Notice :=
  { body := body, passage := some (p, q.carrier), stamp := s.timer.floor, clamped := q.clamped
    wasOverdue := decide (body = .cleared) && q.wasOverdue }

/-- The LOCKED notice of a cell (R23, R34). -/
def lockedNotice (s : State) (c : CellId) : Notice :=
  { body := .locked c, passage := none, stamp := s.timer.floor, clamped := false, wasOverdue := false }

/-- The MODE notice that names the state `t` is in, posted at the floor time of `s` (R117). -/
def modeNotice (s t : State) : Notice :=
  { body := .mode t.control.mode t.drained t.control.causes
    passage := none, stamp := s.timer.floor, clamped := false, wasOverdue := false }

/-- What the release of a cell posts to the safety master (R23): LOCKED for a pending lock, and INTRUSION for a cell
that the Tracker heard as OCCUPIED (log entry 5) and that was not intruded already (log entry 20 for its stamp). -/
def releaseNotices (s : State) (p : Slot) (q : Passage) (c : CellId) : List (MasterSlot × Notice) :=
  (if (s.cell c).lock = .pending then toSafety s (lockedNotice s c) else []) ++
  if (s.cell c).heard = .occupied ∧ (s.cell c).intruded = false then
    toSafety s (passageNotice s (.intrusion c .occupiedFree) p q) else []

/-- What a removal posts: the notices of its releases in route order, then the outcome to the owner, if it has one
(R24). -/
def removalNotices (s : State) (p : Slot) (q : Passage) (outcome : Option NoticeBody) : List (MasterSlot × Notice) :=
  (s.heldRun q).flatMap (releaseNotices s p q) ++ outcome.toList.map fun body => (q.master, passageNotice s body p q)

/-- What an event posts that leaves `u`: the drained MODE notice, if it has brought the live count to 0 in DRAINING
(R117, R123; log entry 28). -/
def drainedNotices (s u : State) : List (MasterSlot × Notice) :=
  if s.control.mode = .draining ∧ 0 < s.liveCount ∧ u.liveCount = 0 then toAll (modeNotice s u) else []

/-- The FLUSHED notices of a flush of these passages, with those of their releases, in ascending slot order (R25). -/
def flushNotices (s : State) : List (MasterSlot × Notice) :=
  (List.finRange 24).flatMap fun p => (s.passage p).toList.flatMap fun q => removalNotices s p q (some .flushed)

/-! ### What a removal, a release and a halt leave -/

/-- The record of an approach whose latch an event sets (R105, R106). Where the latch changes, the readback filter
restarts at the level the new latch expects, the external stop ends and the fault is kept (R108, R109), and the model's
mark `due` falls away with the filter (log entries 6 and 31); a latch that stays as it is leaves the record alone. -/
def SignalRec.latched (r : SignalRec) (latch : Latch) : SignalRec :=
  let level := if latch = .go then Level.high else .low
  if r.latch = latch then r
  else
    { latch := latch, raw := level, count := 0, filtered := level, extStop := false, fault := r.fault, due := false }

/-- After a flush of every QUEUED passage: the blind-route mark of an approach is none if it named one of its QUEUED
passages, and is as before otherwise (R39). -/
def MarksFlushed (s t : State) : Prop :=
  ∀ a : ApproachId,
    (∀ p q, s.marks[a] = some p → s.passage p = some q → q.state = .queued → s.approachOf q = a → t.marks[a] = none) ∧
    ((∀ p q, s.marks[a] = some p → s.passage p = some q → q.state = .queued → s.approachOf q ≠ a) →
      t.marks[a] = s.marks[a])

/-- The book after the passage `q` has left slot `p`, before any grant pass (R23, R24): the slot is free; the cells it
held are released, or it has left its lists and its reservations; nothing else of the book has changed. -/
def Removed (s u : State) (p : Slot) (q : Passage) : Prop :=
  u.passage p = none ∧ (∀ x, x ≠ p → u.passage x = s.passage x) ∧
  (∀ a, a ≠ s.approachOf q → u.signal a = s.signal a) ∧
  (q.live = true →
    u.book.arrivals = s.book.arrivals ∧ u.book.queues = s.book.queues ∧ u.marks = s.marks ∧
    (∀ c, c ∉ s.heldRun q → u.cell c = s.cell c) ∧
    ∀ c, c ∈ s.heldRun q →
      u.cell c =
        { s.cell c with
          holder := none
          lock := if (s.cell c).lock = .pending then .locked else (s.cell c).lock
          intruded := (s.cell c).intruded || decide ((s.cell c).heard = .occupied) }) ∧
  (q.state = .granted → u.signal (s.approachOf q) = (s.signal (s.approachOf q)).latched .stop) ∧
  (q.state ≠ .granted → u.signals = s.signals) ∧
  (q.live = false →
    u.book.arrivals = s.book.arrivals.filter (fun x => x ≠ p) ∧
    (∀ a, u.queue a = if a = s.approachOf q then (s.queue a).filter (fun x => x ≠ p) else s.queue a) ∧
    (∀ a : ApproachId, u.marks[a] = if a = s.approachOf q ∧ s.marks[a] = some p then none else s.marks[a]) ∧
    ∀ c, u.cell c =
      { s.cell c with
        reservation := if q.blocking = true ∧ (s.cell c).reservation = some p then none
          else (s.cell c).reservation })

/-- The event that leaves `u` has removed the passage `q` from slot `p`, before its grant pass: the book, the notices,
and everything else as it was (R23, R24). `outcome` is the notice to the owner. -/
def Removes (s u : State) (p : Slot) (q : Passage) (outcome : Option NoticeBody) : Prop :=
  Removed s u p q ∧ SameOutside s u ∧
  ((s.cellsOf q).Nodup → Posts s u (removalNotices s p q outcome ++ drainedNotices s u))

/-- The first held cell, at route index `i`, of an ENTERED passage at position `pos` meets its release condition (R68):
the first cell from `i` on that is not BLIND reads FREE, and lies behind the position, or at it with only BLIND cells
after it. -/
def MeetsRelease (heard : CellId → Occupancy) (pos : Nat) (cells : List CellId) (i : Nat) : Prop :=
  ∃ j c, i ≤ j ∧ cells[j]? = some c ∧ heard c = .free ∧
    (∀ x d, i ≤ x → x < j → cells[x]? = some d → heard d = .blind) ∧
    (j < pos ∨ j = pos ∧ ∀ x d, j < x → cells[x]? = some d → heard d = .blind)

/-- The release examination of an ENTERED passage at position `pos` releases the first `n` of its held cells, and stops
there (R67). -/
def ReleaseCount (s : State) (q : Passage) (pos : Nat) (heard : CellId → Occupancy) (n : Nat) : Prop :=
  (∀ x, x < n → MeetsRelease heard pos (s.cellsOf q) (q.firstHeld + x)) ∧
  ¬ MeetsRelease heard pos (s.cellsOf q) (q.firstHeld + n)

/-- The LOCKED notices of released cells that nothing stands on, in route order (R23, R70). -/
def lockNotices (s : State) (released : List CellId) : List (MasterSlot × Notice) :=
  released.flatMap fun c => if (s.cell c).lock = .pending then toSafety s (lockedNotice s c) else []

/-- A cell's record after its release, nothing standing on it (R23). -/
def CellRec.released (r : CellRec) : CellRec :=
  { r with holder := none, lock := if r.lock = .pending then .locked else r.lock }

/-- The Tracker has taken a report that cell `c` now reads `occ`, FREE or BLIND, before any grant pass (R59, R61, R67 to
R71): its intruded flag clears, and of an ENTERED holder the first `n` held cells are released. With its last cell gone
the passage is CLEARED; with only BLIND cells left, after a release or a change to BLIND, BLIND_CLEAR is armed with the
window of the last cell of the route. -/
def TakesAway (s u : State) (c : CellId) (occ : Occupancy) (n : Nat) : Prop :=
  let heard := fun d => if d = c then occ else (s.cell d).heard
  let base := fun d => if d = c then { s.cell c with heard := occ, intruded := false } else s.cell d
  SameOutside s u ∧ SameLine s u ∧ u.book.arrivals = s.book.arrivals ∧ u.book.queues = s.book.queues ∧
  u.marks = s.marks ∧ u.signals = s.signals ∧
  ((∀ p q, (s.cell c).holder = some p → s.passage p = some q → q.state ≠ .entered) →
    n = 0 ∧ u.book.pool = s.book.pool ∧ (∀ d, u.cell d = base d) ∧ Posts s u []) ∧
  ∀ p q i, (s.cell c).holder = some p → s.passage p = some q → q.state = .entered → q.position = some i →
    let run := s.heldRun q
    let left := run.drop n
    let blindEnd := (0 < n ∨ occ = .blind) ∧ ∀ d ∈ left, heard d = .blind
    ReleaseCount s q i heard n ∧ (∀ x, x ≠ p → u.passage x = s.passage x) ∧
    (∀ d, u.cell d = if d ∈ run.take n then (base d).released else base d) ∧
    (left = [] → u.passage p = none) ∧
    (left ≠ [] → ¬ blindEnd → u.passage p = some { q with firstHeld := q.firstHeld + n }) ∧
    (left ≠ [] → blindEnd → q.deadline.kind ≠ .arrival → ∀ last, (s.cellsOf q).getLast? = some last →
      let w := windowOf s.map.working.options (traverseTime s.map.working.cells[last].length q.length q.speed)
      ∃ clock,
        u.passage p = some
          { q with
            firstHeld := q.firstHeld + n, clamped := q.clamped || w.2
            deadline := { q.deadline with
              run := some { kind := .blindClear, window := BitVec.ofNat 16 w.1, clock := clock } } } ∧
        (q.deadline.halt = true ∨ q.deadline.extStop = true → clock = .frozen (BitVec.ofNat 16 w.1)) ∧
        (q.deadline.halt = false → q.deadline.extStop = false →
          clock = .armed (s.timer.floor + BitVec.ofNat 16 w.1))) ∧
    Posts s u (lockNotices s (run.take n) ++ (if left = [] then [(q.master, passageNotice s .cleared p q)] else []) ++
      drainedNotices s u)

/-- HALT has joined the freeze-cause set of the deadline record `b` at the floor time `now`, which makes it `d` (R91,
R92): kind NONE stays NONE; a frozen deadline keeps its remainder; an armed one is frozen with the ticks it had left,
or with 1 if floor time has just reached it (log entry 9). -/
def Deadline.HaltJoined (b d : Deadline) (now : Time) : Prop :=
  d.halt = true ∧ (b.run = none → d.run = none) ∧
  ∀ r, b.run = some r →
    (∀ remainder, r.clock = .frozen remainder → d.run = some r) ∧
    (b.halt = false → b.extStop = false → ∀ deadline, r.clock = .armed deadline →
      d.run = some { r with clock := .frozen (if deadline = now then 1 else deadline - now) })

/-- The passage is GRANTED and its approach externally stopped, the latch at GO (R109). -/
def State.HeldExternally (s : State) (q : Passage) : Prop :=
  q.state = .granted ∧ (s.signal (s.approachOf q)).latch = .go ∧ (s.signal (s.approachOf q)).extStop = true

/-- The junction has halted (R125): the mode left is remembered, every latch is STOP, with its readback filter restarted
if it was GO (R106, R108), and every live passage has HALT in its freeze-cause set; cells, lists and marks are as
before. An external stop ends with its latch, so the set of the approach's GRANTED passage goes from {EXT_STOP} to
{HALT} (R91); every other set keeps what it had. `control` is the Mode Controller before. -/
def Halted (s t : State) (control : Control) (prior : PriorMode) (causes : HaltCauses) : Prop :=
  t.control = { control with mode := .halted, prior := prior, causes := causes } ∧
  (∀ a, t.signal a = (s.signal a).latched .stop) ∧ t.marks = s.marks ∧
  t.book.cells = s.book.cells ∧ t.book.arrivals = s.book.arrivals ∧ t.book.queues = s.book.queues ∧
  (∀ p, s.passage p = none → t.passage p = none) ∧
  ∀ p q, s.passage p = some q →
    ∃ d, t.passage p = some { q with deadline := d } ∧ (q.live = false → d = q.deadline) ∧
      (q.live = true → q.deadline.HaltJoined d s.timer.floor ∧
        (¬ s.HeldExternally q → d.extStop = q.deadline.extStop) ∧
        (s.HeldExternally q → s.SingleGrant → d.extStop = false))

end Sys2Proof.Machine
end

