-- ==== Sys2Proof/Certificates/Slice0/Obligations.lean ====
section
/-! DEFINITION. The statements about the JX-12 that the provers settle, rule by rule of the guide. A frame command's
statement says its verdict, its effect and what it leaves alone; `s.Takes c` is the state in which the frame is heard
and handed to its owner. -/

open Sys2Proof Sys2Proof.Machine

/-! ### Steps -/

/-- Every step of a part with a command waiting runs the command at the front on the rest of the queue. With none
waiting, a step is one cycle of the crystal: the model's choice (log entry 2). While the part runs it advances the tick
interval, the scan timer and the driven halt pulse, in reset's count the oscillator-ready count, each to its end, where
it waits, and nothing else; while reset is applied it changes nothing (R78, R95, R140, R165, R166). -/
def Obligations.StepRunsFrontCommand : Prop :=
  (∀ (s : State) (c : Instr) (rest : List Instr),
    s.pending = c :: rest → step s = exec c { s with pending := rest }) ∧
  ∀ s : State, s.pending = [] →
    (s.power.phase = .applied → step s = .next s) ∧
    (s.power.phase = .counting →
      step s = .next { s with power := { s.power with count := min (s.power.count + 1) 16384 } }) ∧
    (s.power.phase = .running → ∃ scanner : Scanner,
      step s = .next
        { s with
          timer := { s.timer with cycles := min (s.timer.cycles + 1) (8000 * s.timer.interval) }
          scanner := scanner
          liu := { s.liu with pulse := s.liu.pulse.map fun n => min (n + 1) 6400 } } ∧
      (s.scanner.cycles + 1 < 8000 → scanner = { s.scanner with cycles := s.scanner.cycles + 1 }) ∧
      (8000 ≤ s.scanner.cycles + 1 → s.scanner.ms < s.scanner.period →
        scanner = { s.scanner with ms := s.scanner.ms + 1, cycles := 0 }) ∧
      (8000 ≤ s.scanner.cycles + 1 → s.scanner.period ≤ s.scanner.ms → scanner = { s.scanner with cycles := 8000 }))

/-! ### Frames and their bytes -/

/-- The frame of every well-formed command, laid out as R152 gives it and read back from the line without an error, is
that command, whatever its operands and the part's own node; and what the part takes for a command is that command's own
frame, byte for byte. -/
def Obligations.FramesDecodeAsTheyEncode : Prop :=
  (∀ (own : Node) (c : Instr) (bytes : List Byte), c.wellFormed = true → encodeFrame own c = some bytes →
    decodeFrame own (cleanReading bytes) = some c) ∧
  ∀ (own : Node) (r : RawFrame) (c : Instr), decodeFrame own r = some c →
    c.wellFormed = true ∧ ∃ f, frameOf c = some f ∧ f.bytes own = r.firstBytes (f.payload.length + 3)

/-! ### Laws of the device -/

/-- Every law of the device holds at the end of hardware reset, whatever the straps: those of FIFOs (R158), causes
(R116), locks (R33), latches (R106), names (R29), the transmit side (R161), holding, reservations, skips and the lists
(R18, R22, R43, R50 to R52), and deadlines (R80). -/
def Obligations.LawsHoldAtReset : Prop :=
  ∀ straps : BitVec 4, let s := State.afterReset straps
    s.FifosBounded ∧ s.CausesLaw ∧ s.LockLaw ∧ s.LatchLaw ∧ s.NamesUnique ∧ s.TransmitLaw ∧
      s.HolderLaw ∧ s.TimerLaw

/-- No step lets a notice FIFO hold more than 16 notices (R158). -/
def Obligations.FifoBoundKept : Prop :=
  ∀ s t : State, s.FifosBounded → step s = .next t → t.FifosBounded

/-- No step leaves a halt cause in the set outside HALTED (R116). -/
def Obligations.CausesOnlyInHaltedKept : Prop :=
  ∀ s t : State, s.CausesLaw → step s = .next t → t.CausesLaw

/-- No step gives a LOCKED cell a holder, or leaves a LOCK_PENDING cell without one (R33). -/
def Obligations.LockLawKept : Prop :=
  ∀ s t : State, s.LockLaw → step s = .next t → t.LockLaw

/-- After every step a latch is GO only while a passage of its approach is GRANTED and the mode is RUNNING or DRAINING
(R106). -/
def Obligations.LatchLawKept : Prop :=
  ∀ s t : State, s.LatchLaw → step s = .next t → t.LatchLaw

/-- No step brings a second passage with the same master slot and carrier id into the pool (R29). -/
def Obligations.NamesUniqueKept : Prop :=
  ∀ s t : State, s.NamesUnique → step s = .next t → t.NamesUnique

/-- After every step the shifter and the staged buffer hold the heads of two different FIFOs and are filled as far as
there are notices; and a frame that is being sent goes from the part's own node to the node that the committed enrolment
gives the slot of the shifter (R6, R158, R161). -/
def Obligations.TransmitLawKept : Prop :=
  ∀ s t : State, s.TransmitLaw → step s = .next t → t.TransmitLaw

/-- After every step the arrival-order list and the approach queues hold exactly the QUEUED passages, each once and in
one order, no queue is above its limit (R22), no skip count above the skip limit (R50), and a QUEUED passage whose count
equals a limit of 1 or more is blocking (R51). -/
def Obligations.ListLawKept : Prop :=
  ∀ s t : State, s.ListLaw → step s = .next t → t.ListLaw

/-- After every step a cell's holder is a live passage whose held run contains it, every cell of a held run has that
holder, at most one passage per approach is GRANTED (R18, R43), and a reserved cell's passage is QUEUED, blocking, and
has the cell on its route (R52): no two passages ever own or reserve one cell. -/
def Obligations.HolderLawKept : Prop :=
  ∀ s t : State, s.HolderLaw → step s = .next t → t.HolderLaw

/-- After every step every field of the working map is in range, every window is 1 to 32767 ticks, and every deadline
is armed at most that far ahead or frozen with 1 to 32767 ticks (R8, R80, R92). An armed deadline that floor time has
reached stays due until its expiry is taken: the model's choice (log entry 8). -/
def Obligations.TimerLawKept : Prop :=
  ∀ s t : State, s.TimerLaw → step s = .next t → t.TimerLaw

/-- A passage becomes GRANTED only in a step that ends in RUNNING (R41). -/
def Obligations.GrantOnlyInRunning : Prop :=
  ∀ (s t : State) (p : Slot) (q : Passage), step s = .next t → t.passage p = some q → q.state = .granted →
    (∀ r, s.passage p = some r → r.state ≠ .granted) → t.control.mode = .running

/-- The mode changes only by the commands the guide names. SETTLING is entered by COMMIT_MAP, RESTART or RESUME; RUNNING
by the completion of settling or RESUME; DRAINING by DRAIN or RESUME; HALTED by the event of a halt cause, or by the
entry check of COMMIT_MAP, RESTART or RESUME; SERVICE by OPEN_SERVICE; UNMAPPED by hardware reset. UNMAPPED is left by
OPEN_SERVICE; SERVICE by COMMIT_MAP or hardware reset; HALTED by RESUME, OPEN_SERVICE or hardware reset (R118 to R128,
R166). -/
def Obligations.ModeChangesByNamedCommands : Prop :=
  ∀ (c : Instr) (s t : State), exec c s = .next t → t.control.mode ≠ s.control.mode →
    (t.control.mode = .settling → ∃ hd, c = .commitMap hd ∨ c = .restart hd ∨ c = .resume hd) ∧
    (t.control.mode = .running → c = .settleCountRise ∨ ∃ hd, c = .resume hd) ∧
    (t.control.mode = .halted →
      c = .haltPulseStart ∨ c = .lineStuck ∨ c = .emergencyAsserted ∨ (∃ a, c = .readbackChange a) ∨
        ∃ hd, c = .commitMap hd ∨ c = .restart hd ∨ c = .resume hd) ∧
    (t.control.mode = .service → ∃ hd, c = .openService hd) ∧
    (s.control.mode = .unmapped → ∃ hd, c = .openService hd) ∧
    (s.control.mode = .service → (∃ hd, c = .commitMap hd) ∨ ∃ straps, c = .oscillatorReady straps) ∧
    (s.control.mode = .halted →
      (∃ hd, c = .resume hd) ∨ (∃ hd, c = .openService hd) ∨ ∃ straps, c = .oscillatorReady straps) ∧
    (t.control.mode = .draining → (∃ hd, c = .drain hd) ∨ ∃ hd, c = .resume hd) ∧
    (t.control.mode = .unmapped → ∃ straps, c = .oscillatorReady straps)

/-- In the operating modes, no frame of a master that is not the safety master changes the mode, the halt causes, the
map, a sensor mode or the service node, and a lock changes under it only from LOCK_PENDING to LOCKED (R33, R129). -/
def Obligations.FleetFramesKeepModeAndSensors : Prop :=
  ∀ (c : Instr) (f : Frame) (m : MasterSlot) (s t : State),
    frameOf c = some f → s.control.mode.operating = true → s.enrolledSlot f.head.src = some m →
    s.isSafety m = false → exec c s = .next t →
      t.control = s.control ∧ t.map = s.map ∧ t.scanner = s.scanner ∧ t.timer = s.timer ∧
      t.decoder.service = s.decoder.service ∧
      ∀ x, (t.cell x).lock = (s.cell x).lock ∨ (s.cell x).lock = .pending ∧ (t.cell x).lock = .locked

/-! ### Judging a frame -/

/-- The acceptance table, row by row and column by column, with the roles (R129). -/
def Obligations.AcceptanceTable : Prop :=
  ∀ (k : Kind) (src : Node) (s : State),
    let anyMode := [Kind.identify, .linePattern]
    let service := [Kind.loadOptions, .loadCell, .loadApproach, .loadRoute, .loadRouteCells, .loadMaster, .commitMap]
    let everyOperating := [Kind.identify, .linePattern, .queryJunction, .queryPassage, .queryCell, .queryLine,
      .withdraw, .lockCells, .unlockCells, .setSensor, .forceRelease, .restart]
    let safety := [Kind.openService, .lockCells, .unlockCells, .setSensor, .forceRelease, .drain, .resume, .restart]
    let mode := s.control.mode
    let inMode := k ∈ everyOperating ∨
      (k = .requestPassage ∧
        (mode = .settling ∨ mode = .running ∨ mode = .halted ∧ s.control.prior ≠ .draining)) ∨
      (k = .drain ∧ (mode = .running ∨ mode = .draining)) ∨
      (k = .resume ∧ (mode = .running ∨ mode = .draining ∨ mode = .halted)) ∨
      (k = .openService ∧ (mode = .draining ∨ mode = .halted))
    (mode = .unmapped →
      s.judge k src = if k ∈ [Kind.identify, .linePattern, .queryJunction, .openService] then .take
        else .refuse (.refusedMode .unmapped)) ∧
    (mode = .service →
      s.judge k src = if k ∈ [Kind.identify, .linePattern, .queryJunction, .openService] ++ service then .take
        else .refuse (.refusedMode .service)) ∧
    (mode ≠ .unmapped → mode ≠ .service → s.enrolledSlot src = none →
      s.judge k src = if k ∈ anyMode then .take else .noTail) ∧
    (mode ≠ .unmapped → mode ≠ .service → ∀ m, s.enrolledSlot src = some m →
      (inMode → k ∈ safety → s.map.enrolment[m].role ≠ .safety → s.judge k src = .refuse .refusedRole) ∧
      (inMode → (k ∈ safety → s.map.enrolment[m].role = .safety) → s.judge k src = .take) ∧
      (¬ inMode → s.judge k src = .refuse (.refusedMode mode)))

/-- A frame that the Decoder does not hand to an owner changes nothing but the line and the tail: no tail for a source
that is not enrolled, the refusal otherwise; and a LOAD_* frame or COMMIT_MAP from a node that is not the service node
is refused REFUSED_ROLE in the same way (R7, R143). A frame is read when it begins on the idle line, and leaves the line
BUSY with its bytes in the buffer, where no other frame is read before the line is idle; a frame that is not read
changes nothing (R130, R133). That a frame command implies the beginning of its frame is the model's choice (log entry
12). -/
def Obligations.UntakenFramesChangeNothing : Prop :=
  (∀ (c : Instr) (f : Frame) (s : State), frameOf c = some f →
    (s.power.phase = .running → s.liu.line = .idle → s.liu.pulse = none → s.liu.attempt = none →
      s.hearsFrame f = true) ∧
    (s.hearsFrame f = false → exec c s = .next s) ∧
    (s.hearsFrame f = true → ∃ t, exec c s = .next t ∧ t.liu.line = .busy ∧
      t.liu.rx = some (.closing (f.bytes s.liu.own) []) ∧
      ∀ d g, frameOf d = some g → exec d t = .next t)) ∧
  ∀ (c : Instr) (f : Frame) (s : State), frameOf c = some f → s.hearsFrame f = true →
    (s.judge f.kind f.head.src = .noTail →
      ∃ t, exec c s = .next t ∧ SameButTail s t ∧ t.liu.tail = none) ∧
    (∀ v, s.judge f.kind f.head.src = .refuse v →
      ∃ t, exec c s = .next t ∧ SameButTail s t ∧ t.Answers v) ∧
    (f.kind ∈ [Kind.loadOptions, .loadCell, .loadApproach, .loadRoute, .loadRouteCells, .loadMaster, .commitMap] →
      s.control.mode = .service → s.decoder.service ≠ some f.head.src →
        ∃ t, exec c s = .next t ∧ SameButTail s t ∧ t.Answers .refusedRole)

/-! ### Questions -/

/-- IDENTIFY reports part code 12h, revision 1 with the straps as read, the mode, and tag and CRC of the map identity;
LINE_PATTERN gives the four fixed bytes after a verdict byte of 80h. Both are taken from any node in every mode and
change no state (R146, R154). -/
def Obligations.IdentifyAndLinePattern : Prop :=
  ∀ (hd : FrameHead) (s : State),
    (s.Hears (.identify hd) → ∃ t v, exec (.identify hd) s = .next t ∧ SameButTail s t ∧ t.Answers v ∧
      v.bytes = [0xE0, 0x12, (1 : BitVec 4) ++ s.power.straps, s.control.mode.byte,
        s.map.tag.extractLsb' 8 8, s.map.tag.extractLsb' 0 8, s.map.crc.extractLsb' 8 8,
        s.map.crc.extractLsb' 0 8]) ∧
    (s.Hears (.linePattern hd) → ∃ t v, exec (.linePattern hd) s = .next t ∧ SameButTail s t ∧ t.Answers v ∧
      v.bytes = [0x80, 0x55, 0xAA, 0x00, 0xFF])

/-- QUERY_JUNCTION part 1 takes the snapshot into the latch of its source, which node 15 has not, and answers its first
half; part 2 answers the second half of the latch and leaves it, or NO_SNAPSHOT; any other part is BAD_VALUE with field
1 (R150, R151). The part byte stands in the row of part 1 (log entry 13). A snapshot holds the mode, the map identity,
the floor time, the prior mode, the causes, the five counts of R38 and the number of notices in its node's FIFO; its
attention index is the highest-ranked condition present (R163); its two halves have the bytes of R154 and the codes of
R157. -/
def Obligations.SnapshotInTwoParts : Prop :=
  (∀ (n : Node) (s : State),
    let snap := s.snapshot n
    let passages := fun f : Passage → Bool => ((List.finRange 24).filter fun p => (s.passage p).any f).length
    let cells := fun f : CellRec → Bool => ((List.finRange 32).filter fun c => f (s.cell c)).length
    snap.mode = s.control.mode ∧ snap.tag = s.map.tag ∧ snap.crc = s.map.crc ∧ snap.floor = s.timer.floor ∧
    snap.prior = s.control.prior ∧ snap.causes = s.control.causes ∧
    snap.live = passages (fun q => q.state ≠ .queued) ∧ snap.queued = s.book.arrivals.length ∧
    snap.held = cells (fun r => r.holder ≠ none) ∧ snap.locked = cells (fun r => r.lock = .locked) ∧
    snap.intruded = cells (fun r => r.intruded) ∧
    ((∀ k : MasterSlot, s.map.enrolment[k].inUse = true → s.map.enrolment[k].node ≠ n) → snap.notices = 0) ∧
    ∀ k : MasterSlot, s.map.enrolment[k].inUse = true → s.map.enrolment[k].node = n →
      (∀ j : MasterSlot, j < k → s.map.enrolment[j].inUse = true → s.map.enrolment[j].node ≠ n) →
      snap.notices = s.notices.fifos[k].queue.length) ∧
  (∀ (snap : Snapshot) (mode prior : BitVec 3) (index : BitVec 4),
    (snap.mode, mode) ∈ [(Mode.unmapped, 0), (.service, 1), (.settling, 2), (.running, 3), (.draining, 4),
      (.halted, 5)] →
    (snap.prior, prior) ∈ [(PriorMode.unmapped, 0), (.settling, 2), (.running, 3), (.draining, 4)] →
    (snap.attention, index) ∈ [(Attention.none, 0), (.lineStuck, 1), (.signalFault, 2), (.estopActive, 3), (.halted, 4),
      (.stalled, 5), (.intruded, 6), (.overdue, 7), (.blocking, 8), (.lockPending, 9), (.fifoLost, 10),
      (.lineError, 11)] →
    (Verdict.done (.junctionPart1 snap)).bytes =
      [0xE0, mode ++ (0 : BitVec 1) ++ index, snap.tag.extractLsb' 8 8, snap.tag.extractLsb' 0 8,
        snap.crc.extractLsb' 8 8, snap.crc.extractLsb' 0 8, snap.floor.extractLsb' 8 8, snap.floor.extractLsb' 0 8] ∧
    (Verdict.done (.junctionPart2 snap)).bytes =
      [0xE0,
        prior ++ (0 : BitVec 1) ++ BitVec.ofBool snap.causes.signalFault ++ BitVec.ofBool snap.causes.lineStuck ++
          BitVec.ofBool snap.causes.estop ++ BitVec.ofBool snap.causes.haltPulse,
        BitVec.ofNat 8 snap.live, BitVec.ofNat 8 snap.queued, BitVec.ofNat 8 snap.held, BitVec.ofNat 8 snap.locked,
        BitVec.ofNat 8 snap.intruded, BitVec.ofNat 8 snap.notices]) ∧
  (∀ (n : Node) (s : State),
    let is := fun a : Attention => (s.snapshot n).attention = a
    let some' := fun f : Passage → Prop => ∃ p q, s.passage p = some q ∧ f q
    (s.liu.line = .stuck → is .lineStuck) ∧ (s.liu.line ≠ .stuck →
    ((∃ a, (s.signal a).fault = true) → is .signalFault) ∧ ((∀ a, (s.signal a).fault = false) →
    (s.control.emergency.asserted = true → is .estopActive) ∧ (s.control.emergency.asserted = false →
    (s.control.mode = .halted → is .halted) ∧ (s.control.mode ≠ .halted →
    (some' (fun q => q.overdue = .stalled) → is .stalled) ∧ (¬ some' (fun q => q.overdue = .stalled) →
    ((∃ c, (s.cell c).intruded = true) → is .intruded) ∧ ((∀ c, (s.cell c).intruded = false) →
    (some' (fun q => q.overdue = .overdue) → is .overdue) ∧ (¬ some' (fun q => q.overdue = .overdue) →
    (some' (fun q => q.state = .queued ∧ q.blocking = true) → is .blocking) ∧
    (¬ some' (fun q => q.state = .queued ∧ q.blocking = true) →
    ((∃ c, (s.cell c).lock = .pending) → is .lockPending) ∧ ((∀ c, (s.cell c).lock ≠ .pending) →
    ((∃ k : MasterSlot, s.notices.fifos[k].lost = true) → is .fifoLost) ∧
    ((∀ k : MasterSlot, s.notices.fifos[k].lost = false) →
    (s.liu.error.kind ≠ .none → is .lineError) ∧ (s.liu.error.kind = .none → is .none)))))))))))) ∧
  ∀ (hd : FrameHead) (part : Byte) (s : State),
    (s.Takes (.queryJunctionPart1 hd 1) → ∀ i : Fin 15, hd.src.val = i.val →
      ∃ t, exec (.queryJunctionPart1 hd 1) s = .next t ∧
      t.Answers (.done (.junctionPart1 (s.snapshot hd.src))) ∧
      SameButTail
        { s with decoder := { s.decoder with latches := s.decoder.latches.set i (some (s.snapshot hd.src)) } } t) ∧
    (s.Takes (.queryJunctionPart1 hd 1) → hd.src = 15 → ∃ t, exec (.queryJunctionPart1 hd 1) s = .next t ∧
      t.Answers (.done (.junctionPart1 (s.snapshot hd.src))) ∧ SameButTail s t) ∧
    (s.Takes (.queryJunctionPart2 hd) → ∀ i : Fin 15, hd.src.val = i.val → ∀ snap,
      s.decoder.latches[i] = some snap →
      ∃ t, exec (.queryJunctionPart2 hd) s = .next t ∧ t.Answers (.done (.junctionPart2 snap)) ∧ SameButTail s t) ∧
    (s.Takes (.queryJunctionPart2 hd) → (∀ i : Fin 15, hd.src.val = i.val → s.decoder.latches[i] = none) →
      ∃ t, exec (.queryJunctionPart2 hd) s = .next t ∧ t.Answers .noSnapshot ∧ SameButTail s t) ∧
    (s.Takes (.queryJunctionPart1 hd part) → part ≠ 1 → part ≠ 2 →
      ∃ t, exec (.queryJunctionPart1 hd part) s = .next t ∧ t.Answers (.badValue 1 none) ∧ SameButTail s t)

/-- QUERY_PASSAGE and QUERY_CELL report the record as it stands, with the remainder of R80, and change nothing; a slot
above 23 or free is UNKNOWN_PASSAGE, a cell above 31 is BAD_VALUE with field 1 (R147, R148). And the bytes of every
tail, those two's among them: the verdict byte holds the number of data bytes in its top three bits and the code of R145
below; the data are those of R145, R153 and R154, with the codes of R157, and FFh for none. The other tails that no
clause here names are those of IDENTIFY and LINE_PATTERN, of QUERY_JUNCTION and of QUERY_LINE, in the statements of
those commands. -/
def Obligations.QueriesReportRecords : Prop :=
  (∀ (hd : FrameHead) (b : Byte) (s : State),
    (s.Takes (.queryPassage hd b) →
      ((23 < b.toNat ∨ ∃ p : Slot, b.toNat = p.val ∧ s.passage p = none) →
        ∃ t, exec (.queryPassage hd b) s = .next t ∧ t.Answers .unknownPassage ∧ SameButTail s t) ∧
      ∀ (p : Slot) (q : Passage), b.toNat = p.val → s.passage p = some q →
        ∃ t kind remainder, exec (.queryPassage hd b) s = .next t ∧ SameButTail s t ∧
          t.Answers (.done (.passage q.carrier q.state q.overdue kind
            (decide (q.deadline.run ≠ none) && (q.deadline.halt || q.deadline.extStop)) q.clamped q.position
            q.firstHeld remainder)) ∧
          (q.deadline.run = none → kind = .none ∧ remainder = 0) ∧
          (∀ r, q.deadline.run = some r →
            (r.kind = .arrival → kind = .arrival) ∧ (r.kind = .dwell → kind = .dwell) ∧
            (r.kind = .blindClear → kind = .blindClear) ∧
            (∀ x, r.clock = .armed x → remainder = x - s.timer.floor) ∧
            ∀ x, r.clock = .frozen x → remainder = x)) ∧
    (s.Takes (.queryCell hd b) →
      (31 < b.toNat →
        ∃ t, exec (.queryCell hd b) s = .next t ∧ t.Answers (.badValue 1 none) ∧ SameButTail s t) ∧
      ∀ c : CellId, b.toNat = c.val →
        ∃ t, exec (.queryCell hd b) s = .next t ∧ SameButTail s t ∧
          t.Answers (.done (.cell (s.cell c).holder (s.cell c).reservation s.map.working.cells[c].inUse
            (s.cell c).lock (s.cell c).intruded (s.cell c).occupancy (s.cell c).stamp)))) ∧
  let byte := fun n : Nat => BitVec.ofNat 8 n
  let word := fun x : BitVec 16 => [x.extractLsb' 8 8, x.extractLsb' 0 8]
  let orNone := fun n : Option Nat => match n with
    | none => (0xFF : Byte)
    | some n => byte n
  let tail := fun (v : Verdict) (code : Nat) (data : List Byte) => v.bytes = byte (32 * data.length + code) :: data
  let done := fun (d : DoneData) (data : List Byte) => tail (.done d) 0 data
  (tail .refusedRole 4 [] ∧ tail .unknownRoute 5 [] ∧ tail .unknownPassage 6 [] ∧ tail .queueFull 8 [] ∧
    tail .poolFull 9 [] ∧ tail .tooLate 10 [] ∧ tail .noSnapshot 14 [] ∧ done .load []) ∧
  (∀ (p : Slot) (n m : Nat) (x : BitVec 16) (flag : Bool) (c : Option CellId),
    tail (.queued p n) 1 [byte p.val, byte n] ∧
    tail (.granted p x flag) 2 ([byte p.val] ++ word x ++ [if flag then 1 else 0]) ∧
    tail (.badValue n c) 11 [byte n, orNone (c.map Fin.val)] ∧ tail (.busy n) 13 [byte n] ∧
    done (.lockCells n m) [byte n, byte m] ∧ done (.unlockCells n) [byte n] ∧ done (.openService n) [byte n] ∧
    done (.drain n) [byte n]) ∧
  (∀ tag crc : BitVec 16, done (.commitMap tag crc) (word tag ++ word crc)) ∧
  (∀ causes : HaltCauses, tail (.causePresent causes) 15
    [(0 : BitVec 4) ++ BitVec.ofBool causes.signalFault ++ BitVec.ofBool causes.lineStuck ++
      BitVec.ofBool causes.estop ++ BitVec.ofBool causes.haltPulse]) ∧
  (∀ x ∈ [(Mode.unmapped, (0 : Byte)), (.service, 1), (.settling, 2), (.running, 3), (.draining, 4), (.halted, 5)],
    ∀ n : Nat, tail (.refusedMode x.1) 3 [x.2] ∧ done (.resume x.1) [x.2] ∧ done (.restart n x.1) [byte n, x.2]) ∧
  (∀ x ∈ [(MapReason.cellCount, (0 : Byte)), (.approachUnused, 1), (.cellUnused, 2), (.cellRepeated, 3),
      (.noRoute, 4), (.safetyCount, 5), (.nodeReserved, 6), (.nodeOwn, 7), (.nodeDuplicate, 8)],
    ∀ item sub : Option Nat, tail (.mapInvalid x.1 item sub) 12 [x.2, orNone item, orNone sub]) ∧
  (∀ state ∈ [(PassageState.queued, (0 : BitVec 2)), (.granted, 1), (.entered, 2)],
    (∀ (p : Slot) (n : Nat),
      tail (.duplicate p state.1) 7 [byte p.val, (0 : BitVec 6) ++ state.2] ∧
      done (.withdraw state.1) [(0 : BitVec 6) ++ state.2] ∧
      done (.forceRelease state.1 n) [(0 : BitVec 6) ++ state.2, byte n]) ∧
    ∀ level ∈ [(Overdue.normal, (0 : BitVec 2)), (.overdue, 1), (.stalled, 2)],
    ∀ kind ∈ [(DeadlineKind.none, (0 : BitVec 2)), (.arrival, 1), (.dwell, 2), (.blindClear, 3)],
    ∀ (carrier remainder : BitVec 16) (frozen clamped : Bool) (position : Option Nat) (first : Nat),
      done (.passage carrier state.1 level.1 kind.1 frozen clamped position first remainder)
        (word carrier ++
          [state.2 ++ level.2 ++ kind.2 ++ BitVec.ofBool frozen ++ BitVec.ofBool clamped, orNone position,
            byte first] ++ word remainder)) ∧
  ∀ occupancy ∈ [(Occupancy.free, (0 : BitVec 2)), (.occupied, 1), (.blind, 2)],
    (∀ mode ∈ [(SensorMode.active, (0 : Byte)), (.standby, 1)],
      done (.setSensor mode.1 occupancy.1) [mode.2, (0 : BitVec 6) ++ occupancy.2]) ∧
    ∀ lock ∈ [(Lock.none, (0 : BitVec 2)), (.pending, 1), (.locked, 2)],
    ∀ (holder reservation : Option Slot) (inUse intruded : Bool) (stamp : BitVec 16),
      done (.cell holder reservation inUse lock.1 intruded occupancy.1 stamp)
        ([orNone (holder.map Fin.val), orNone (reservation.map Fin.val),
          BitVec.ofBool inUse ++ lock.2 ++ BitVec.ofBool intruded ++ occupancy.2 ++ (0 : BitVec 2)] ++ word stamp)

/-- QUERY_LINE takes the line error record into its tail, in the four bytes of R154 with the code of its kind, and empties
it; a record read while empty gives NONE, 0 and clear (R149). -/
def Obligations.QueryLineEmptiesTheRecord : Prop :=
  ∀ (hd : FrameHead) (s : State), s.Takes (.queryLine hd) →
    ∃ t v, exec (.queryLine hd) s = .next t ∧ t.Answers v ∧
      v = .done (.line s.liu.error.kind s.liu.error.overrun s.liu.error.stamp) ∧
      (∀ code : BitVec 4,
        (s.liu.error.kind, code) ∈ [(LineError.none, 0), (.noise, 1), (.bit, 2), (.byte, 3), (.length, 4), (.crc, 5),
          (.format, 6), (.txAbandoned, 7), (.stuck, 8)] →
        v.bytes = [0x60, BitVec.ofBool s.liu.error.overrun ++ (0 : BitVec 3) ++ code,
          s.liu.error.stamp.extractLsb' 8 8, s.liu.error.stamp.extractLsb' 0 8]) ∧
      t.liu.error = { kind := .none, stamp := 0, overrun := false } ∧
      SameButTail { s with liu := { s.liu with error := t.liu.error } } t ∧
      (s.liu.error = { kind := .none, stamp := 0, overrun := false } →
        v = .done (.line .none false 0) ∧ t.liu.error = s.liu.error)

/-! ### The Reservation Book -/

/-- A REQUEST_PASSAGE that is taken is checked in the order of R27: route, length, duplicate, pool, queue; the first
check that fails gives the verdict and the book is left as it was. -/
def Obligations.RequestChecksInOrder : Prop :=
  ∀ (hd : FrameHead) (carrier : CarrierId) (route cls speed : Byte) (length : BitVec 16) (m : MasterSlot) (s : State),
    s.Takes (.requestPassage hd carrier route cls speed length) → s.enrolledSlot hd.src = some m → s.NamesUnique →
    let refuses := fun v : Verdict => ∃ t, exec (.requestPassage hd carrier route cls speed length) s = .next t ∧
      t.Answers v ∧ SameButTail s t
    ((47 < route.toNat ∨ ∃ r : RouteId, route.toNat = r.val ∧ s.map.working.routes[r].inUse = false) →
      refuses .unknownRoute) ∧
    ∀ r : RouteId, route.toNat = r.val → s.map.working.routes[r].inUse = true →
      (400 < length.toNat → refuses (.badValue 6 none)) ∧
      (length.toNat ≤ 400 →
        (∀ p q, s.passage p = some q → q.master = m → q.carrier = carrier → refuses (.duplicate p q.state)) ∧
        ((∀ p q, s.passage p = some q → ¬ (q.master = m ∧ q.carrier = carrier)) →
          ((∀ p, s.passage p ≠ none) → refuses .poolFull) ∧
          (∀ p, s.passage p = none →
            s.map.working.approaches[s.map.working.routes[r].approach].limit ≤
              (s.queue s.map.working.routes[r].approach).length →
            refuses .queueFull)))

/-- A REQUEST_PASSAGE that passes the checks takes the lowest free slot with its values clamped, joins the tails of both
lists, and starts a pass, in which it gets no notice of its own; the verdict is formed from the book after the pass
(R19, R28, R29, R30, R48). `u` is the state at the admission, before the pass. -/
def Obligations.RequestAdmitted : Prop :=
  ∀ (hd : FrameHead) (carrier : CarrierId) (route cls speed : Byte) (length : BitVec 16) (m : MasterSlot)
    (r : RouteId) (p : Slot) (s : State),
    s.Takes (.requestPassage hd carrier route cls speed length) → s.enrolledSlot hd.src = some m →
    route.toNat = r.val → s.map.working.routes[r].inUse = true → length.toNat ≤ 400 →
    (∀ x q, s.passage x = some q → ¬ (q.master = m ∧ q.carrier = carrier)) →
    s.passage p = none → (∀ x, x < p → s.passage x ≠ none) → s.ListLaw →
    (s.queue s.map.working.routes[r].approach).length <
      s.map.working.approaches[s.map.working.routes[r].approach].limit →
    let a := s.map.working.routes[r].approach
    let limit := s.map.working.routes[r].speed
    let prio := (cls.extractLsb' 6 2).toNat
    let load := (cls.extractLsb' 0 3).toNat
    ∃ (u t : State) (v : Verdict), exec (.requestPassage hd carrier route cls speed length) s = .next t ∧
      t.Answers v ∧ SameOutside s u ∧ SameNotices s u ∧ u.liu.attempt = s.liu.attempt ∧
      u.passage p = some
        { master := m, carrier := carrier, route := r
          priority := if prio = 3 ∧ s.map.enrolment[m].role = .fleet then 2 else prio
          speed := if speed.toNat < 10 then 10 else if limit < speed.toNat then limit else speed.toNat
          length := if length.toNat < 50 then 50 else length.toNat
          load := if 3 < load then 3 else load
          state := .queued, blocking := false, skips := 0, position := none, firstHeld := 0, overdue := .normal
          clamped := false, wasOverdue := false, deadline := { run := none, halt := false, extStop := false } } ∧
      (∀ x, x ≠ p → u.passage x = s.passage x) ∧ u.book.cells = s.book.cells ∧
      u.book.arrivals = s.book.arrivals ++ [p] ∧ u.queue a = s.queue a ++ [p] ∧
      (∀ b, b ≠ a → u.queue b = s.queue b) ∧ u.marks = s.marks ∧ u.signals = s.signals ∧
      SameButTail (u.grantPass (some p)) t ∧ SameOutside s t ∧
      (s.control.mode ≠ .running → t.book = u.book ∧ v = .queued p ((s.queue a).length + 1)) ∧
      ∃ q, t.passage p = some q ∧
        (q.state = .queued → v = .queued p ((t.queue a).idxOf p + 1)) ∧
        (q.state ≠ .queued → ∀ w, q.deadline.run = some w → v = .granted p w.window q.clamped)

/-- WITHDRAW is taken in the four operating modes from an enrolled node, refused REFUSED_MODE in UNMAPPED and SERVICE,
and gets no tail from another node; a slot that does not hold the carrier is UNKNOWN_PASSAGE, and another master's
passage REFUSED_ROLE, for the safety master too; a refusal changes nothing (R31). -/
def Obligations.WithdrawChecks : Prop :=
  ∀ (hd : FrameHead) (slot : Byte) (carrier : CarrierId) (s : State), s.Hears (.withdraw hd slot carrier) →
    let answers := fun v : Verdict => ∃ t, exec (.withdraw hd slot carrier) s = .next t ∧ t.Answers v ∧ SameButTail s t
    let operating := s.control.mode = .settling ∨ s.control.mode = .running ∨ s.control.mode = .draining ∨
      s.control.mode = .halted
    (s.control.mode = .unmapped ∨ s.control.mode = .service → answers (.refusedMode s.control.mode)) ∧
    (operating → s.enrolledSlot hd.src = none →
      ∃ t, exec (.withdraw hd slot carrier) s = .next t ∧ t.liu.tail = none ∧ SameButTail s t) ∧
    (operating → ∀ m, s.enrolledSlot hd.src = some m →
      s.Takes (.withdraw hd slot carrier) ∧
      ((23 < slot.toNat ∨ ∃ p : Slot, slot.toNat = p.val ∧ ∀ q, s.passage p = some q → q.carrier ≠ carrier) →
        answers .unknownPassage) ∧
      ∀ (p : Slot) (q : Passage), slot.toNat = p.val → s.passage p = some q → q.carrier = carrier →
        (q.master ≠ m → answers .refusedRole) ∧
        (q.master = m → q.state = .entered → answers .tooLate))

/-- A WITHDRAW of a QUEUED or GRANTED passage by its owner removes it without a notice to the owner, and starts a pass;
the verdict names the state it was in (R24, R32). A FORCE_RELEASE removes the passage whatever its state and owner, with
a FORCED notice to the owner; the verdict names the state and the number of cells released; a slot that does not hold
the carrier is UNKNOWN_PASSAGE (R36, R37). A removal that drains a DRAINING junction posts the MODE notice after it
(R117, R123). The model's readings are the occupancy that a release looks at, the one the Tracker has heard (log entry
5), the stamp of a release's INTRUSION notice (log entry 20), and that the drained MODE notice is posted only when the
live count becomes 0 (log entry 28); that one notice joins the FIFOs of its receivers in ascending slot order is its
choice (log entry 14), and how shifter, staged buffer and pointer follow its reading (log entry 27). The latch of a
GRANTED passage goes to STOP with its readback filter restarted (R108); the mark that falls away with it is the model's
own (log entry 6). `u` is the state before the pass. -/
def Obligations.WithdrawAndForceRemove : Prop :=
  (∀ (hd : FrameHead) (slot : Byte) (carrier : CarrierId) (p : Slot) (q : Passage) (s : State),
    s.Takes (.withdraw hd slot carrier) → slot.toNat = p.val → s.passage p = some q → q.carrier = carrier →
    s.enrolledSlot hd.src = some q.master → q.state ≠ .entered → s.SingleGrant →
    ∃ u t : State, exec (.withdraw hd slot carrier) s = .next t ∧ t.Answers (.done (.withdraw q.state)) ∧
      Removes s u p q none ∧ SameButTail (u.grantPass none) t ∧ t.passage p = none ∧ SameOutside s t ∧
      (s.control.mode ≠ .running → SameButTail u t)) ∧
  ∀ (hd : FrameHead) (slot : Byte) (carrier : CarrierId) (s : State), s.Takes (.forceRelease hd slot carrier) →
    ((23 < slot.toNat ∨ ∃ p : Slot, slot.toNat = p.val ∧ ∀ q, s.passage p = some q → q.carrier ≠ carrier) →
      ∃ t, exec (.forceRelease hd slot carrier) s = .next t ∧ t.Answers .unknownPassage ∧ SameButTail s t) ∧
    ∀ (p : Slot) (q : Passage), slot.toNat = p.val → s.passage p = some q → q.carrier = carrier → s.SingleGrant →
      ∃ u t : State, exec (.forceRelease hd slot carrier) s = .next t ∧
        t.Answers (.done (.forceRelease q.state (if q.state = .queued then 0 else (s.heldRun q).length))) ∧
        Removes s u p q (some .forced) ∧ SameButTail (u.grantPass none) t ∧ t.passage p = none ∧ SameOutside s t ∧
        (s.control.mode ≠ .running → SameButTail u t)

/-- LOCK_CELLS makes each unlocked cell of the set LOCKED, with its LOCKED notice to the safety master in ascending
order, or, while it has a holder, LOCK_PENDING, and counts both; an empty set or a cell not in use is BAD_VALUE with
field 1, naming the lowest such cell, and changes nothing (R34). How shifter, staged buffer and pointer follow a posting
is the model's reading (log entry 27). -/
def Obligations.LockCells : Prop :=
  ∀ (hd : FrameHead) (set : BitVec 32) (s : State), s.Takes (.lockCells hd set) →
    (set = 0 → ∃ t, exec (.lockCells hd set) s = .next t ∧ t.Answers (.badValue 1 none) ∧ SameButTail s t) ∧
    (∀ c : CellId, set.getLsbD c.val = true → s.map.working.cells[c].inUse = false →
      (∀ d : CellId, d < c → set.getLsbD d.val = true → s.map.working.cells[d].inUse = true) →
      ∃ t, exec (.lockCells hd set) s = .next t ∧ t.Answers (.badValue 1 (some c)) ∧ SameButTail s t) ∧
    (set ≠ 0 → (∀ c : CellId, set.getLsbD c.val = true → s.map.working.cells[c].inUse = true) →
      ∃ t, exec (.lockCells hd set) s = .next t ∧ SameOutside s t ∧
        t.book.pool = s.book.pool ∧ t.book.arrivals = s.book.arrivals ∧ t.book.queues = s.book.queues ∧
        t.marks = s.marks ∧ t.signals = s.signals ∧
        (∀ c : CellId, t.cell c =
          { s.cell c with
            lock := if set.getLsbD c.val = true ∧ (s.cell c).lock = .none then
                (if (s.cell c).holder = none then .locked else .pending)
              else (s.cell c).lock }) ∧
        Posts s t (((List.finRange 32).filter fun c => set.getLsbD c.val && decide ((s.cell c).lock = .none) &&
          decide ((s.cell c).holder = none)).flatMap fun c => toSafety s (lockedNotice s c)) ∧
        t.Answers (.done (.lockCells
          ((List.finRange 32).filter fun c => set.getLsbD c.val && decide ((t.cell c).lock = .locked)).length
          ((List.finRange 32).filter fun c => set.getLsbD c.val && decide ((t.cell c).lock = .pending)).length)))

/-- UNLOCK_CELLS sets the lock of every cell of the set to NONE, counts the locks it changed, and starts a pass if it
changed one; its BAD_VALUE checks are those of LOCK_CELLS (R35). `u` is the state before the pass. -/
def Obligations.UnlockCells : Prop :=
  ∀ (hd : FrameHead) (set : BitVec 32) (s : State), s.Takes (.unlockCells hd set) →
    (set = 0 → ∃ t, exec (.unlockCells hd set) s = .next t ∧ t.Answers (.badValue 1 none) ∧ SameButTail s t) ∧
    (∀ c : CellId, set.getLsbD c.val = true → s.map.working.cells[c].inUse = false →
      (∀ d : CellId, d < c → set.getLsbD d.val = true → s.map.working.cells[d].inUse = true) →
      ∃ t, exec (.unlockCells hd set) s = .next t ∧ t.Answers (.badValue 1 (some c)) ∧ SameButTail s t) ∧
    (set ≠ 0 → (∀ c : CellId, set.getLsbD c.val = true → s.map.working.cells[c].inUse = true) →
      let changed := (List.finRange 32).filter fun c => set.getLsbD c.val && decide ((s.cell c).lock ≠ .none)
      ∃ u t : State, exec (.unlockCells hd set) s = .next t ∧ SameOutside s u ∧ SameNotices s u ∧
        u.liu.attempt = s.liu.attempt ∧ t.Answers (.done (.unlockCells changed.length)) ∧
        u.book.pool = s.book.pool ∧ u.book.arrivals = s.book.arrivals ∧ u.book.queues = s.book.queues ∧
        u.marks = s.marks ∧ u.signals = s.signals ∧
        (∀ c : CellId, u.cell c =
          { s.cell c with lock := if set.getLsbD c.val = true then .none else (s.cell c).lock }) ∧
        (changed = [] ∨ s.control.mode ≠ .running → SameButTail u t) ∧
        (changed ≠ [] → SameButTail (u.grantPass none) t))

/-! ### The Grant Arbiter -/

/-- Grant order is a strict order without ties: blocking first, then the higher priority class, then the older by place
in the arrival-order list (R45). -/
def Obligations.GrantOrderIsStrict : Prop :=
  ∀ (order : List Slot) (candidates : List Entrant),
    (candidates.map Prod.fst).Nodup → (∀ x ∈ candidates, x.1 ∈ order) →
    (grantOrder order candidates).Perm candidates ∧
    (grantOrder order candidates).Pairwise fun x y =>
      (x.2.blocking = true ∧ y.2.blocking = false) ∨
      (x.2.blocking = y.2.blocking ∧ y.2.priority < x.2.priority) ∨
      (x.2.blocking = y.2.blocking ∧ x.2.priority = y.2.priority ∧ order.idxOf x.1 < order.idxOf y.1)

/-- A grant gives the passage every cell of its route and takes back its reservations, takes it out of its lists, arms
ARRIVAL with its window, sets its latch to GO with its readback filter restarted at HIGH, and tells its owner, and
nobody else, unless its own verdict does (R47, R48, R108). The mark that falls away with the filter is the model's own
(log entry 6), and how shifter, staged buffer and pointer follow the posting is its reading (log entry 27). -/
def Obligations.GrantEffect : Prop :=
  ∀ (s : State) (quiet : Option Slot) (p : Slot) (q : Passage),
    q.deadline = { run := none, halt := false, extStop := false } →
    (s.signal (s.approachOf q)).extStop = false →
    let a := s.approachOf q
    let t := s.grant quiet p q
    let w := windowOf s.map.working.options
      (arrivalTime s.map.working.approaches[a].distance q.speed q.load)
    (∀ c : CellId, t.cell c =
      { s.cell c with
        holder := if c ∈ s.cellsOf q then some p else (s.cell c).holder
        reservation := if (s.cell c).reservation = some p then none else (s.cell c).reservation }) ∧
    t.book.arrivals = s.book.arrivals.filter (fun x => x ≠ p) ∧
    (∀ b, t.queue b = if b = a then (s.queue b).filter (fun x => x ≠ p) else s.queue b) ∧
    t.passage p = some
      { q with
        state := .granted, firstHeld := 0, position := none, skips := 0, blocking := false
        clamped := q.clamped || w.2
        deadline :=
          { run := some
              { kind := .arrival, window := BitVec.ofNat 16 w.1
                clock := .armed (s.timer.floor + BitVec.ofNat 16 w.1) }
            halt := false, extStop := false } } ∧
    (∀ x, x ≠ p → t.passage x = s.passage x) ∧
    t.signal a = (s.signal a).latched .go ∧ (t.signal a).latch = .go ∧ (∀ b, b ≠ a → t.signal b = s.signal b) ∧
    (∀ b : ApproachId, t.marks[b] = if b = a ∧ s.marks[b] = some p then none else s.marks[b]) ∧
    SameOutside s t ∧
    (quiet = some p → Posts s t []) ∧
    (quiet ≠ some p → Posts s t
      [(q.master,
        { body := .granted (BitVec.ofNat 16 w.1), passage := some (p, q.carrier), stamp := s.timer.floor
          clamped := q.clamped || w.2, wasOverdue := false })])

/-- Stage 1 of a pass: the head of a queue whose approach has no GRANTED passage is a candidate if a cell of its route
is not BLIND, and is reported BLIND_ROUTE once if all are (R43, R44). Stage 3 grants a candidate exactly when every cell
of its route is without holder, lock and intruded flag and not reserved for another (R46). A whole pass gives a cell
only to a passage for which it was free, unlocked and not intruded when the pass began, and changes no lock, flag,
occupancy or stamp. How shifter, staged buffer and pointer follow a posting is the model's reading (log entry 27). -/
def Obligations.CandidatesAndEligibleCells : Prop :=
  (∀ (s : State) (a : ApproachId) (formed : List Entrant),
    let r := State.considerHead a (s, formed)
    (s.queue a = [] → r = (s.setMark a none, formed)) ∧
    ∀ (p : Slot) (q : Passage), (s.queue a).head? = some p → s.passage p = some q →
      ((∃ x, s.GrantedAt x a) → r = (s, formed)) ∧
      ((∀ x, ¬ s.GrantedAt x a) → (∃ c ∈ s.cellsOf q, (s.cell c).occupancy ≠ .blind) →
        r = (s.setMark a none, formed ++ [(p, q)])) ∧
      ((∀ x, ¬ s.GrantedAt x a) → (∀ c ∈ s.cellsOf q, (s.cell c).occupancy = .blind) →
        r.2 = formed ∧ (s.marks[a] = some p → r.1 = s) ∧
        (s.marks[a] ≠ some p → r.1.marks = s.marks.set a (some p) ∧ r.1.book = s.book ∧ r.1.signals = s.signals ∧
          SameOutside s r.1 ∧
          ∀ c, (s.cellsOf q).head? = some c → Posts s r.1 (toSafety s
            { body := .intrusion c .blindRoute, passage := some (p, q.carrier), stamp := s.timer.floor
              clamped := q.clamped, wasOverdue := false })))) ∧
  (∀ (s : State) (quiet : Option Slot) (p : Slot) (q : Passage) (before : List Entrant),
    let free := ∀ c ∈ s.cellsOf q, (s.cell c).holder = none ∧ (s.cell c).lock = .none ∧ (s.cell c).intruded = false ∧
      ((s.cell c).reservation = none ∨ (s.cell c).reservation = some p)
    (free → State.examineOne quiet (s, before) (p, q) = (s.grant quiet p q, before ++ [(p, q)])) ∧
    (¬ free → State.examineOne quiet (s, before) (p, q) = (s, before))) ∧
  ∀ (s : State) (quiet : Option Slot) (c : CellId),
    let t := s.grantPass quiet
    (t.cell c).lock = (s.cell c).lock ∧ (t.cell c).intruded = (s.cell c).intruded ∧
    (t.cell c).occupancy = (s.cell c).occupancy ∧ (t.cell c).stamp = (s.cell c).stamp ∧
    ((t.cell c).holder ≠ (s.cell c).holder →
      (s.cell c).holder = none ∧ (s.cell c).lock = .none ∧ (s.cell c).intruded = false ∧
      s.control.mode = .running)

/-- A grant pass does nothing outside RUNNING (R41), and in RUNNING it goes through four stages in order: the candidates
of the approaches, their grant order, the examination one by one, and the accounting, which ends with the sweep over the
arrival-order list, oldest first (R42, R52). Taking the approaches in ascending order is the model's choice (log entry
14). A candidate that was not granted gains one skip, below the limit, when a younger passage that shares a cell with it
was granted, and turns blocking when the count reaches the limit; nobody else's count changes (R49 to R51). In the sweep
a blocking QUEUED passage that holds no reservation reserves every cell of its route, if no cell of it is reserved for
another; otherwise nothing changes (R52). -/
def Obligations.SkipsAndReservations : Prop :=
  (∀ (s : State) (quiet : Option Slot),
    (s.control.mode ≠ .running → s.grantPass quiet = s) ∧
    (s.control.mode = .running →
      let order := s.book.arrivals
      let formed := (List.finRange 8).foldl (fun sc a => State.considerHead a sc) (s, [])
      let ordered := grantOrder order formed.2
      let examined := ordered.foldl (State.examineOne quiet) (formed.1, [])
      let accounted := examined.1.account order ordered examined.2
      s.grantPass quiet = accounted.book.arrivals.foldl State.reserveFor accounted)) ∧
  (∀ (s : State) (order : List Slot) (ordered granted : List Entrant), (ordered.map Prod.fst).Nodup →
    let t := s.account order ordered granted
    let limit := s.map.working.options.skipLimit
    (∀ h ∈ ordered,
      let isOver := (∀ g ∈ granted, g.1 ≠ h.1) ∧ ∃ g ∈ granted, order.idxOf h.1 < order.idxOf g.1 ∧
        ∃ c, c ∈ s.cellsOf g.2 ∧ c ∈ s.cellsOf h.2
      ∀ q, s.passage h.1 = some q →
        (isOver → q.skips < limit →
          t.passage h.1 = some
            { q with skips := q.skips + 1, blocking := q.blocking || decide (q.skips + 1 = limit) }) ∧
        (isOver → limit ≤ q.skips → t.passage h.1 = some q) ∧
        (¬ isOver → t.passage h.1 = some q)) ∧
    (∀ p, (∀ h ∈ ordered, h.1 ≠ p) → t.passage p = s.passage p) ∧
    t.book.cells = s.book.cells ∧ t.book.arrivals = s.book.arrivals ∧ t.book.queues = s.book.queues ∧
    t.marks = s.marks ∧ t.signals = s.signals ∧ SameOutside s t ∧ SameNotices s t) ∧
  ∀ (s : State) (p : Slot) (q : Passage), s.passage p = some q →
    let may := q.state = .queued ∧ q.blocking = true ∧ (∀ c, (s.cell c).reservation ≠ some p) ∧
      ∀ c ∈ s.cellsOf q, (s.cell c).reservation = none
    (may → (∀ c, (s.reserveFor p).cell c =
        { s.cell c with reservation := if c ∈ s.cellsOf q then some p else (s.cell c).reservation }) ∧
      s.reserveFor p = { s with book := { s.book with cells := (s.reserveFor p).book.cells } }) ∧
    (¬ may → s.reserveFor p = s)

/-! ### Windows and deadlines -/

/-- A window is the smallest number of ticks that covers the time stretched by the dwell factor, saturated at 32767 with
the clamped flag; the arrival and traverse times are those of R82 and R83 with the accelerations of R81 (R84). A cause
that joins an empty set freezes an armed deadline with the ticks it has left; a second cause keeps the remainder; the
last to leave restores it from now; kind NONE keeps only the set (R92). A deadline that floor time has just reached
keeps remainder 1, as R93 has it (log entry 9). -/
def Obligations.WindowsAndFreezing : Prop :=
  (∀ (o : Options) (ms : Nat), 0 < o.tick → 8 ≤ o.dwell → 0 < ms →
    ∃ w, ms * o.dwell ≤ w * (8 * o.tick) ∧ (w - 1) * (8 * o.tick) < ms * o.dwell ∧ 1 ≤ w ∧
      windowOf o ms = (min w 32767, decide (32767 < w))) ∧
  (∀ distance speed load a : Nat, 0 < speed → (load, a) ∈ [(0, 50), (1, 40), (2, 25), (3, 15)] →
    ∃ x y, arrivalTime distance speed load = x + y ∧
      distance * 1000 ≤ x * speed ∧ x * speed < distance * 1000 + speed ∧
      speed * 500 ≤ y * a ∧ y * a < speed * 500 + a) ∧
  (∀ cell carrier speed : Nat, 0 < speed →
    (cell + carrier) * 1000 ≤ traverseTime cell carrier speed * speed ∧
    traverseTime cell carrier speed * speed < (cell + carrier) * 1000 + speed) ∧
  ∀ (d : Deadline) (now : Time),
    (d.run = none → d.joinHalt now = { d with halt := true } ∧ d.leaveHalt now = { d with halt := false } ∧
      d.joinExtStop now = { d with extStop := true } ∧ d.leaveExtStop now = { d with extStop := false }) ∧
    ∀ r, d.run = some r →
      (∀ x, r.clock = .armed x → d.halt = false → d.extStop = false →
        let left := { r with clock := .frozen (if x = now then 1 else x - now) }
        d.joinHalt now = { run := some left, halt := true, extStop := false } ∧
        d.joinExtStop now = { run := some left, halt := false, extStop := true }) ∧
      (∀ x, r.clock = .frozen x →
        let back := { r with clock := .armed (now + x) }
        (d.halt = true → d.joinExtStop now = { d with extStop := true }) ∧
        (d.extStop = true → d.joinHalt now = { d with halt := true }) ∧
        (d.halt = true → d.extStop = true → d.leaveHalt now = { d with halt := false } ∧
          d.leaveExtStop now = { d with extStop := false }) ∧
        (d.halt = true → d.extStop = false → d.leaveHalt now = { run := some back, halt := false, extStop := false }) ∧
        (d.halt = false → d.extStop = true →
          d.leaveExtStop now = { run := some back, halt := false, extStop := false }))

/-! ### Notices -/

/-- A notice joins the tail of a FIFO in use that holds fewer than 16; in a full one KEEP_OLDEST drops the notice and
KEEP_NEWEST the oldest that is not in the shifter, and LOST is set, with the late-loss mark if the FIFO's frame is in
the shifter; a slot not in use gets no copy, and no other FIFO changes (R159, R160). With a notice that joins, the empty
places are filled. A selection takes the first slot, cyclically from the round-robin pointer, whose FIFO is not empty
and whose head is not in the shifter; its head goes into the empty shifter with attempt count 0 and the late-loss mark
clear, or else into the empty staged buffer, and the pointer becomes the slot after it (R161). That each empty place has
its selection is the model's reading (log entry 27). -/
def Obligations.PostingRule : Prop :=
  ∀ (s : State) (k : MasterSlot) (n : Notice),
    let t := s.enqueue k n
    let f := s.notices.fifos[k]
    let sent := s.liu.shifter.map TxFrame.slot = some k
    (∀ x : MasterSlot, x ≠ k → t.notices.fifos[x] = s.notices.fifos[x]) ∧
    SameBook s t ∧ SameOutside s t ∧
    (s.map.enrolment[k].inUse = false → t = s) ∧
    (s.map.enrolment[k].inUse = true →
      (f.queue.length < 16 → t.notices.fifos[k] = { f with queue := f.queue ++ [n] }) ∧
      (16 ≤ f.queue.length → s.map.enrolment[k].option = .keepOldest →
        t.notices.fifos[k] = { f with lost := true }) ∧
      (16 ≤ f.queue.length → s.map.enrolment[k].option = .keepNewest →
        (¬ sent → t.notices.fifos[k] = { queue := f.queue.drop 1 ++ [n], lost := true }) ∧
        (sent → t.notices.fifos[k] = { queue := f.queue.take 1 ++ f.queue.drop 2 ++ [n], lost := true })) ∧
      (16 ≤ f.queue.length → sent → t.notices.lateLoss = true) ∧
      let late := s.notices.lateLoss || decide (s.liu.shifter.map TxFrame.slot = some k)
      (f.queue.length < 16 → Refills
        { s with notices := { s.notices with
            fifos := s.notices.fifos.set k { f with queue := f.queue ++ [n] } } } t) ∧
      (16 ≤ f.queue.length → s.map.enrolment[k].option = .keepOldest → t =
        { s with notices := { s.notices with
            lateLoss := late, fifos := s.notices.fifos.set k { f with lost := true } } }) ∧
      (16 ≤ f.queue.length → s.map.enrolment[k].option = .keepNewest →
        (¬ sent → Refills
          { s with
            liu := { s.liu with
              staged := if s.liu.staged.map TxFrame.slot = some k then none else s.liu.staged }
            notices := { s.notices with
              fifos := s.notices.fifos.set k { queue := f.queue.drop 1 ++ [n], lost := true } } } t) ∧
        (sent → Refills
          { s with notices := { s.notices with
              lateLoss := true
              fifos := s.notices.fifos.set k
                { queue := f.queue.take 1 ++ f.queue.drop 2 ++ [n], lost := true } } } t)))

/-- At an idle line, in any mode but UNMAPPED, the frame in the shifter is started with the LOST bit of its FIFO then,
and the late-loss mark is cleared. It goes from the part's own node to the node that the committed enrolment gives its
slot, with the bytes of R155 and the codes of R157. A lost arbitration ends the attempt and keeps the frame, its count
and its FIFO: lost in the mark, the other frame is left unread until the line is idle; lost in the arbitration field,
the LIU reads on from the bits it has read back, those it sent and the dominant one, and hears the frame that has them
(R137, R138, R158, R161, R162). That the verdict tail of the frame before leaves State when the attempt begins is the
model's choice (log entry 25). -/
def Obligations.NoticeAttempt : Prop :=
  (∀ s : State, s.power.phase = .running →
    (∀ f, s.liu.shifter = some f → s.liu.line = .idle → s.liu.pulse = none → s.control.mode ≠ .unmapped →
      ∃ (bytes : List Byte) (code : BitVec 4) (slot c1 c0 x6 x7 : Byte),
        let n := f.notice
        let lost := s.notices.fifos[f.slot].lost
        let body := [0xBF, BitVec.ofNat 8 (16 * s.map.enrolment[f.slot].node.val + s.liu.own.val),
          code ++ (0 : BitVec 1) ++ BitVec.ofBool lost ++ BitVec.ofBool n.clamped ++ BitVec.ofBool n.wasOverdue,
          slot, c1, c0, n.stamp.extractLsb' 8 8, n.stamp.extractLsb' 0 8, x6, x7]
        exec .noticeFrameStart s = .next
          { s with
            liu := { s.liu with
              line := .busy, rx := some (.data [] []), tail := none
              attempt := some { lost := lost, bytes := bytes } }
            notices := { s.notices with lateLoss := false } } ∧
        bytes = body ++ [crc8 body] ∧
        (n.passage = none → slot = 0xFF ∧ c1 = 0 ∧ c0 = 0) ∧
        (∀ p carrier, n.passage = some (p, carrier) →
          slot.toNat = p.val ∧ c1 = carrier.extractLsb' 8 8 ∧ c0 = carrier.extractLsb' 0 8) ∧
        (∀ w, n.body = .granted w → code = 0 ∧ x6 = w.extractLsb' 8 8 ∧ x7 = w.extractLsb' 0 8) ∧
        (∀ k, (n.body, k) ∈ [(NoticeBody.lapsed, (1 : BitVec 4)), (.cleared, 2), (.forced, 3), (.flushed, 4),
          (.overdue, 5), (.stalled, 6)] → code = k ∧ x6 = 0 ∧ x7 = 0) ∧
        (∀ cell reason, n.body = .intrusion cell reason → code = 7 ∧ x6.toNat = cell.val ∧
          (reason, x7) ∈ [(IntrusionReason.occupiedFree, 0), (.early, 1), (.skip, 2), (.blindRoute, 3)]) ∧
        (∀ cell, n.body = .locked cell → code = 8 ∧ x6.toNat = cell.val ∧ x7 = 0xFF) ∧
        ∀ mode drained causes, n.body = .mode mode drained causes → code = 9 ∧
          x6.getLsbD 7 = drained ∧ (mode, (x6.setWidth 7).toNat) ∈ [(Mode.unmapped, 0), (.service, 1),
            (.settling, 2), (.running, 3), (.draining, 4), (.halted, 5)] ∧
          x7 = (0 : BitVec 4) ++ BitVec.ofBool causes.signalFault ++ BitVec.ofBool causes.lineStuck ++
            BitVec.ofBool causes.estop ++ BitVec.ofBool causes.haltPulse) ∧
    (s.liu.shifter = none ∨ s.liu.line ≠ .idle ∨ s.control.mode = .unmapped →
      exec .noticeFrameStart s = .next s)) ∧
  ∀ (s : State) (a : Attempt), s.power.phase = .running → s.liu.attempt = some a → s.liu.line = .busy →
    s.liu.pulse = none →
    (∃ t, exec (.arbitrationLost .mark) s = .next t ∧
      t = { s with liu := { s.liu with attempt := none, rx := none } } ∧
      ∀ c f, frameOf c = some f → exec c t = .next t) ∧
    ∀ (header address : Byte) (rest : List Byte) (bit : Fin 16), a.bytes = header :: address :: rest →
      (header ++ address).getMsbD bit.val = true →
      ∃ t rx, exec (.arbitrationLost (.field bit)) s = .next t ∧
        t = { s with liu := { s.liu with attempt := none, rx := some rx } } ∧
        ∀ c f x y other, frameOf c = some f → f.bytes s.liu.own = x :: y :: other →
          (t.hearsFrame f = true ↔ (x ++ y).getMsbD bit.val = false ∧
            ∀ i, i < bit.val → (x ++ y).getMsbD i = (header ++ address).getMsbD i)

/-- A clean outcome removes the head from its FIFO, clears LOST if the frame carried it and no later loss came, and
resets the count and the mark; the staged frame moves up. A BIT error is recorded; the first two keep the frame for
another attempt, and the third discards it from its FIFO, sets LOST and records TX_ABANDONED with overrun (R138, R142,
R162). When the frame has left, the staged frame moves up and the empty places are filled by selections from the pointer
on (R161), one for each: the model's reading (log entry 27). What the receive side holds then is the model's reading:
after a clean outcome the bytes of the frame, closed, and after a BIT error nothing (log entry 15). -/
def Obligations.NoticeOutcomes : Prop :=
  ∀ (s : State) (f : TxFrame) (a : Attempt), s.power.phase = .running → s.liu.attempt = some a →
    s.liu.shifter = some f →
    (∃ t, exec .noticeSentClean s = .next t ∧ SameBook s t ∧ SameOutside s t ∧ t.liu.line = s.liu.line ∧
      t.liu.attempt = none ∧ t.notices.attempts = 0 ∧ t.notices.lateLoss = false ∧
      t.liu.rx = some (.closing a.bytes []) ∧
      t.notices.fifos[f.slot] =
        { queue := s.notices.fifos[f.slot].queue.drop 1
          lost := s.notices.fifos[f.slot].lost && !(a.lost && !s.notices.lateLoss) } ∧
      (∀ k : MasterSlot, k ≠ f.slot → t.notices.fifos[k] = s.notices.fifos[k]) ∧
      (∀ g, s.liu.staged = some g → t.liu.shifter = some g) ∧
      Refills
        { s with
          liu := { s.liu with shifter := none, attempt := none, rx := some (.closing a.bytes []) }
          notices := { s.notices with
            attempts := 0, lateLoss := false
            fifos := s.notices.fifos.set f.slot
              { queue := s.notices.fifos[f.slot].queue.drop 1
                lost := s.notices.fifos[f.slot].lost && !(a.lost && !s.notices.lateLoss) } } } t) ∧
    (s.notices.attempts < 2 → exec .noticeBitError s = .next
      { s with
        liu := { s.liu with
          attempt := none, rx := none
          error := { kind := .bit, stamp := s.timer.floor, overrun := decide (s.liu.error.kind ≠ .none) } }
        notices := { s.notices with attempts := s.notices.attempts + 1 } }) ∧
    (2 ≤ s.notices.attempts → ∃ t, exec .noticeBitError s = .next t ∧ SameBook s t ∧ t.control = s.control ∧
      t.map = s.map ∧ t.timer = s.timer ∧ t.scanner = s.scanner ∧ t.liu.line = s.liu.line ∧
      t.liu.error = { kind := .txAbandoned, stamp := s.timer.floor, overrun := true } ∧
      t.liu.attempt = none ∧ t.liu.rx = none ∧ t.notices.attempts = 0 ∧ t.notices.lateLoss = false ∧
      t.notices.fifos[f.slot] = { queue := s.notices.fifos[f.slot].queue.drop 1, lost := true } ∧
      (∀ k : MasterSlot, k ≠ f.slot → t.notices.fifos[k] = s.notices.fifos[k]) ∧
      (∀ g, s.liu.staged = some g → t.liu.shifter = some g) ∧
      Refills
        { s with
          liu := { s.liu with
            shifter := none, attempt := none, rx := none
            error := { kind := .txAbandoned, stamp := s.timer.floor, overrun := true } }
          notices := { s.notices with
            attempts := 0, lateLoss := false
            fifos := s.notices.fifos.set f.slot
              { queue := s.notices.fifos[f.slot].queue.drop 1, lost := true } } } t)

/-! ### The floor line -/

/-- A dominant level on the idle line makes it BUSY and begins a frame, and 10 bit times recessive make it IDLE again,
ending the tail and the frame being followed (R132). That LINE_BUSY off the idle line, and LINE_IDLE off the BUSY one,
change nothing is the model's choice (log entry 4). NOISE is recorded for a change that held 3 µs up to but not
including 10 µs (R131). The first check of R133 and R135 that a frame to the part fails is recorded, and the frame has
no effect; a frame shorter than its kind is read on as bytes of FFh. A frame to another node records nothing: it is
followed, with its tail, to its end, unless its kind is unknown or a stop bit is dominant (R133). A tail that reads back
wrong ends with BIT (R136, R142). That an onlooker makes nothing of gap bits 1 and 2, and that after a BIT error of its
own tail the LIU follows nothing, are the model's readings (log entry 15); that the verdict tail of the frame before
leaves State as the next frame is read is its choice (log entry 25). Readings of fewer than two bytes or longer than
their kind, and a tail mark without a tail byte, are not spoken of. -/
def Obligations.LineStatesAndErrors : Prop :=
  ∀ s : State, s.power.phase = .running →
    (s.liu.line = .idle →
      exec .lineBusy s = .next { s with liu := { s.liu with line := .busy, rx := some (.data [] []) } }) ∧
    (s.liu.line ≠ .idle → exec .lineBusy s = .next s) ∧
    (s.liu.line = .busy → s.liu.attempt = none → s.liu.pulse = none →
      ∃ t, exec .lineIdle s = .next t ∧ t.liu.line = .idle ∧ t.liu.rx = none ∧
        (∀ tail, t.liu.tail = some tail → tail.sending = false) ∧ SameButTail s t) ∧
    (s.liu.line ≠ .busy → exec .lineIdle s = .next s) ∧
    let recorded := fun kind : LineError =>
      { kind := kind, stamp := s.timer.floor, overrun := decide (s.liu.error.kind ≠ .none) : ErrorRecord }
    (∀ cycles, 24 ≤ cycles → cycles < 80 →
      exec (.noiseRun cycles) s = .next { s with liu := { s.liu with error := recorded .noise } }) ∧
    (∀ cycles, cycles < 24 ∨ 80 ≤ cycles → exec (.noiseRun cycles) s = .next s) ∧
    (∀ tail, s.liu.tail = some tail → tail.sending = true → exec .tailBitError s = .next
      { s with liu := { s.liu with
          rx := none, tail := some { tail with sending := false }, error := recorded .bit } }) ∧
    (∀ (mark : BitVec 4) (header address : Byte × Bool) (rest tail : List (Byte × Bool)) (gap1 gap2 tailMark : Bool),
      let raw : RawFrame :=
        { mark := mark, bytes := header :: address :: rest, gap1 := gap1, gap2 := gap2, tailMark := tailMark
          tail := tail }
      let filled := fun (l : List (Byte × Bool)) (n : Nat) => l ++ List.replicate (n - l.length) ((0xFF : Byte), true)
      s.hears raw = true →
      let fails := fun kind : LineError => exec (.frameError raw) s = .next
        { s with liu := { s.liu with line := .busy, rx := none, tail := none, error := recorded kind } }
      (mark ≠ 1 → fails .byte) ∧
      (mark = 1 →
        (header.2 = false ∨ address.2 = false → fails .byte) ∧
        (header.2 = true → address.2 = true → (address.1.extractLsb' 4 4).toNat = s.liu.own.val →
          (23 ≤ (header.1.extractLsb' 0 5).toNat → fails .format) ∧
          ∀ k : Kind, (header.1.extractLsb' 0 5) = k.code → rest.length ≤ k.payloadLength + 1 →
            let read := filled rest (k.payloadLength + 1)
            ((∃ b ∈ rest, b.2 = false) → fails .byte) ∧
            ((∀ b ∈ rest, b.2 = true) →
              let fed := (header :: address :: read.dropLast).map Prod.fst
              (some (crc8 fed) ≠ read.getLast?.map Prod.fst → fails .crc) ∧
              (some (crc8 fed) = read.getLast?.map Prod.fst → gap1 = false ∨ gap2 = false → fails .length))) ∧
        (header.2 = true → address.2 = true → (address.1.extractLsb' 4 4).toNat ≠ s.liu.own.val →
          let follows := fun rx : Option Receive => exec (.frameError raw) s = .next
            { s with liu := { s.liu with line := .busy, rx := rx, tail := none } }
          (23 ≤ (header.1.extractLsb' 0 5).toNat → (header.1.extractLsb' 0 5).toNat ≤ 30 → follows none) ∧
          ∀ n : Nat, (∃ k : Kind, header.1.extractLsb' 0 5 = k.code ∧ n = k.payloadLength) ∨
              header.1.extractLsb' 0 5 = 31 ∧ n = 8 → rest.length ≤ n + 1 →
            let bytes := (header :: address :: filled rest (n + 1)).map Prod.fst
            ((∃ b ∈ rest, b.2 = false) → follows none) ∧
            ((∀ b ∈ rest, b.2 = true) →
              (tailMark = false → follows (some (.closing bytes []))) ∧
              (tailMark = true → ∀ (first : Byte × Bool) (more : List (Byte × Bool)), tail = first :: more →
                more.length ≤ (first.1.extractLsb' 5 3).toNat + 1 →
                ((∃ b ∈ tail, b.2 = false) → follows none) ∧
                ((∀ b ∈ tail, b.2 = true) →
                  let length := (first.1.extractLsb' 5 3).toNat + 2
                  follows (some (.closing bytes ((filled tail length).map Prod.fst)))))))))

/-- A run of 24 bit times ends what is on the line without a record and halts an operating junction with HALT_PULSE; the
pulse's end takes the cause away and leaves the mode; the part's own pulse is let go by HALT_PULSE_RELEASE (R124, R139,
R140). A halt freezes what ran with the ticks it had; what was frozen keeps its remainder, an external stop's too, and
kind NONE stays NONE (R91, R92). Each change of mode or causes posts one MODE notice to every slot, and nothing else is
posted (R117). That a cause already in the set posts none is the model's reading (log entry 29), as is how shifter,
staged buffer and pointer follow a posting (log entry 27); the order of the receivers is its choice (log entry 14), and
the mark that falls away with a readback filter its own (log entry 6); that a deadline just reached keeps remainder 1 is
its reading too (log entry 9). -/
def Obligations.HaltPulse : Prop :=
  ∀ s : State, s.power.phase = .running →
    let causes := { s.control.causes with haltPulse := true }
    (s.liu.line = .idle ∨ s.liu.line = .busy →
      ∃ t, exec .haltPulseStart s = .next t ∧ t.liu.line = .haltPulse ∧ t.liu.attempt = none ∧ t.liu.rx = none ∧
        (∀ tail, t.liu.tail = some tail → tail.sending = false) ∧ t.liu.error = s.liu.error ∧ t.map = s.map ∧
        t.timer = s.timer ∧ t.scanner = s.scanner ∧ t.decoder = s.decoder ∧
        (s.control.mode = .unmapped ∨ s.control.mode = .service →
          t.control = s.control ∧ SameBook s t ∧ SameNotices s t) ∧
        (s.control.mode = .settling → Halted s t s.control .settling causes) ∧
        (s.control.mode = .running → Halted s t s.control .running causes) ∧
        (s.control.mode = .draining → Halted s t s.control .draining causes) ∧
        (s.control.mode = .halted → t.control = { s.control with causes := causes } ∧ SameBook s t) ∧
        Posts { s with liu := { s.liu with attempt := none } } t
          (if s.control.mode.operating = true ∧ ¬ (s.control.mode = .halted ∧ s.control.causes.haltPulse = true) then
            toAll (modeNotice s t) else [])) ∧
    (s.liu.line = .haltPulse → s.liu.pulse = none →
      ∃ t, exec .haltPulseEnd s = .next t ∧ t.liu.line = .idle ∧ SameBook s t ∧
        t.control = (if s.control.mode = .halted then
          { s.control with causes := { s.control.causes with haltPulse := false } } else s.control) ∧
        Posts s t
          (if s.control.mode = .halted ∧ s.control.causes.haltPulse = true then toAll (modeNotice s t) else []) ∧
        t.map = s.map ∧ t.timer = s.timer ∧ t.scanner = s.scanner ∧ t.liu.error = s.liu.error) ∧
    exec .haltPulseRelease s = .next { s with liu := { s.liu with pulse := none } }

/-- A run of 100 ms makes the line STUCK with its record and its cause; recovery takes LINE_STUCK and HALT_PULSE away
together and leaves the mode (R141). A halt freezes what ran with the ticks it had; what was frozen keeps its remainder,
an external stop's too, and kind NONE stays NONE (R91, R92). Each change of mode or causes posts one MODE notice to
every slot, and nothing else is posted (R117). That a cause already in the set posts none is the model's reading (log
entry 29), as is how shifter, staged buffer and pointer follow a posting (log entry 27); the order of the receivers is
its choice (log entry 14), and the mark that falls away with a readback filter its own (log entry 6); that a deadline
just reached keeps remainder 1 is its reading too (log entry 9). -/
def Obligations.StuckLine : Prop :=
  ∀ s : State, s.power.phase = .running →
    let causes := { s.control.causes with lineStuck := true }
    (s.liu.line = .haltPulse →
      ∃ t, exec .lineStuck s = .next t ∧ t.liu.line = .stuck ∧
        t.liu.error = { kind := .stuck, stamp := s.timer.floor, overrun := decide (s.liu.error.kind ≠ .none) } ∧
        t.map = s.map ∧ t.timer = s.timer ∧ t.scanner = s.scanner ∧ t.decoder = s.decoder ∧
        (s.control.mode = .unmapped ∨ s.control.mode = .service →
          t.control = s.control ∧ SameBook s t ∧ SameNotices s t) ∧
        (s.control.mode = .settling → Halted s t s.control .settling causes) ∧
        (s.control.mode = .running → Halted s t s.control .running causes) ∧
        (s.control.mode = .draining → Halted s t s.control .draining causes) ∧
        (s.control.mode = .halted → t.control = { s.control with causes := causes } ∧ SameBook s t) ∧
        Posts s t
          (if s.control.mode.operating = true ∧ ¬ (s.control.mode = .halted ∧ s.control.causes.lineStuck = true) then
            toAll (modeNotice s t) else [])) ∧
    (s.liu.line = .stuck → s.liu.pulse = none →
      ∃ t, exec .lineStuckRecovery s = .next t ∧ t.liu.line = .idle ∧ SameBook s t ∧
        t.control = (if s.control.mode = .halted then
          { s.control with causes := { s.control.causes with lineStuck := false, haltPulse := false } }
          else s.control) ∧
        Posts s t
          (if s.control.mode = .halted ∧ (s.control.causes.lineStuck = true ∨ s.control.causes.haltPulse = true) then
            toAll (modeNotice s t) else []) ∧
        t.map = s.map ∧ t.timer = s.timer ∧ t.scanner = s.scanner ∧ t.liu.error = s.liu.error)

/-! ### Cell sensors and inputs -/

/-- SET_SENSOR: a cell above 31 or not in use is BAD_VALUE with field 1 and a mode that is none field 2; the mode the
sensor has changes nothing; STANDBY makes the cell BLIND and ACTIVE restarts its filter at FREE, with the stamp of now;
the verdict carries the mode before and the occupancy after (R99, R100). The Tracker takes the change within the command
(log entry 11): the intruded flag clears and the holder is examined (R61, R71); a pass starts at a change to ACTIVE, and
at one to STANDBY that cleared a flag or released a cell (R40). What a cell read before, for its flag and the releases,
is what the Tracker had heard (log entry 5), and a report still waiting is replaced (log entry 7). It is the model's
reading that the drained MODE notice is posted only when the live count becomes 0 (log entry 28) (R117, R123); that one
notice joins the FIFOs of its receivers in ascending slot order is its choice (log entry 14), and how shifter, staged
buffer and pointer follow its reading (log entry 27). `u` is the state before the pass. A cell and a mode that are both
bad are answered with field 1: the model's choice (log entry 32). -/
def Obligations.SetSensor : Prop :=
  ∀ (hd : FrameHead) (cell mode : Byte) (s : State), s.Takes (.setSensor hd cell mode) →
    let refuses := fun field : Nat => ∃ t, exec (.setSensor hd cell mode) s = .next t ∧
      t.Answers (.badValue field none) ∧ SameButTail s t
    ((31 < cell.toNat ∨ ∃ c : CellId, cell.toNat = c.val ∧ s.map.working.cells[c].inUse = false) → refuses 1) ∧
    ∀ c : CellId, cell.toNat = c.val → s.map.working.cells[c].inUse = true →
      (1 < mode.toNat → refuses 2) ∧
      ∀ m : SensorMode, mode = m.code →
        ∃ t, exec (.setSensor hd cell mode) s = .next t ∧
          t.Answers (.done (.setSensor (s.sensor c).mode (t.cell c).occupancy)) ∧
          ((s.sensor c).mode = m → SameButTail s t) ∧
          ((s.sensor c).mode ≠ m →
            (t.sensor c).mode = m ∧ (t.sensor c).count = 0 ∧
            (m = .standby → (t.cell c).occupancy = .blind ∧ (t.sensor c).raw = (s.sensor c).raw) ∧
            (m = .active → (t.cell c).occupancy = .free ∧ (t.sensor c).raw = .free) ∧
            (m = .standby ∨ (s.cell c).occupancy = .blind → (t.cell c).stamp = s.timer.floor) ∧
            (m = .standby ∨ (s.cell c).heard = .blind → (t.cell c).intruded = false) ∧
            (∀ d, d ≠ c → t.sensor d = s.sensor d ∧ (t.cell d).occupancy = (s.cell d).occupancy ∧
              (t.cell d).stamp = (s.cell d).stamp) ∧
            ((s.cell c).holder = none → s.control.mode ≠ .running →
              t.book.pool = s.book.pool ∧ ∀ d, d ≠ c → t.cell d = s.cell d) ∧
            (s.HolderLaw → (m = .active → (s.cell c).heard ≠ .free ∧ (s.cell c).occupancy = .blind) →
              let occ := if m = .standby then Occupancy.blind else .free
              let changed := { s with
                scanner := t.scanner
                liu := { s.liu with line := .busy, rx := t.liu.rx, tail := none }
                book := { s.book with
                  cells := s.book.cells.set c { s.cell c with occupancy := occ, stamp := s.timer.floor } } }
              ∃ u n, TakesAway changed u c occ n ∧
                SameButTail (if m = .active ∨ 0 < n ∨ (s.cell c).intruded = true then u.grantPass none else u) t) ∧
            t.control = s.control ∧ t.map = s.map ∧ t.timer = s.timer ∧ t.power = s.power ∧
            t.decoder = s.decoder ∧ t.liu.error = s.liu.error)

/-- A scan stores and filters the sample of every in-use ACTIVE cell in the modes with a map in force, and leaves every
other cell; a change is believed after depth disagreeing samples and stamped with floor time; in SETTLING one rise of
the settle count falls due, which is the model's form of the count's rise (log entry 10). Each signal line and the
emergency input is filtered alike in every mode; the sample that completes a change of theirs waits as due, the model's
form of the event (log entry 6) (R96, R97, R102, R108, R112). -/
def Obligations.ScanFiltersInputs : Prop :=
  ∀ (levels : BitVec 32) (lines : BitVec 8) (emergency : Bool) (s : State), s.power.phase = .running →
    ∃ t, exec (.scan levels lines emergency) s = .next t ∧
      (∀ c : CellId,
        let sampled := s.control.mode.operating = true ∧ s.map.working.cells[c].inUse = true ∧
          (s.sensor c).mode = .active
        let raw := if levels.getLsbD c.val then RawSample.free else .occupied
        let occupancy := if levels.getLsbD c.val then Occupancy.free else .occupied
        (¬ sampled → t.sensor c = s.sensor c ∧ t.cell c = s.cell c) ∧
        (sampled → occupancy = (s.cell c).occupancy →
          t.sensor c = { s.sensor c with raw := raw, count := 0 } ∧ t.cell c = s.cell c) ∧
        (sampled → occupancy ≠ (s.cell c).occupancy → (s.sensor c).count + 1 < s.map.working.options.depth →
          t.sensor c = { s.sensor c with raw := raw, count := (s.sensor c).count + 1 } ∧ t.cell c = s.cell c) ∧
        (sampled → occupancy ≠ (s.cell c).occupancy → s.map.working.options.depth ≤ (s.sensor c).count + 1 →
          t.sensor c = { s.sensor c with raw := raw, count := 0 } ∧
          t.cell c = { s.cell c with occupancy := occupancy, stamp := s.timer.floor })) ∧
      t.book.pool = s.book.pool ∧ t.book.arrivals = s.book.arrivals ∧ t.book.queues = s.book.queues ∧
      t.control.mode = s.control.mode ∧ t.control.causes = s.control.causes ∧
      t.control.settleCount = s.control.settleCount ∧
      t.control.risesDue = s.control.risesDue + (if s.control.mode = .settling then 1 else 0) ∧
      t.scanner.ms = 0 ∧ t.scanner.cycles = 0 ∧ t.scanner.period = s.map.working.options.divider ∧
      t.map = s.map ∧ t.timer = s.timer ∧ t.liu = s.liu ∧ t.decoder = s.decoder ∧ t.notices = s.notices ∧
      t.marks = s.marks ∧ t.power = s.power ∧
      (∀ a : ApproachId,
        let level := if lines.getLsbD a.val then Level.high else .low
        let r := s.signal a
        (level = r.filtered → t.signal a = { r with raw := level, count := 0, due := false }) ∧
        (level ≠ r.filtered → r.count + 1 < s.map.working.options.depth →
          t.signal a = { r with raw := level, count := r.count + 1, due := false }) ∧
        (level ≠ r.filtered → s.map.working.options.depth ≤ r.count + 1 →
          t.signal a = { r with raw := level, due := true })) ∧
      (let asserted := !emergency
       let e := s.control.emergency
       (asserted = e.asserted → t.control.emergency = { e with rawAsserted := asserted, count := 0, due := false }) ∧
       (asserted ≠ e.asserted → e.count + 1 < s.map.working.options.depth →
         t.control.emergency = { e with rawAsserted := asserted, count := e.count + 1, due := false }) ∧
       (asserted ≠ e.asserted → s.map.working.options.depth ≤ e.count + 1 →
         t.control.emergency = { e with rawAsserted := asserted, due := true }))

/-! ### The Carrier Tracker -/

/-- A report of OCCUPIED from the entry cell of a GRANTED passage enters it: ENTERED at the cell's index, the latch at
STOP with its readback filter restarted, DWELL armed with the cell's window, or frozen at it under a halt; nothing is
posted; then one pass (R40, R62, R63, R85, R86, R108). What a cell reads is what the Tracker has heard (log entry 5),
and EXT_STOP leaves with the ARRIVAL it applied to (log entry 30): the model's readings. The mark that falls away with
the readback filter is the model's own (log entry 6). `u` is the state before the pass. -/
def Obligations.EntryMovesThePassage : Prop :=
  ∀ (c : CellId) (p : Slot) (q : Passage) (k : Nat) (s : State), s.power.phase = .running →
    s.control.mode.operating = true → (s.cell c).occupancy = .occupied → (s.cell c).heard ≠ .occupied →
    (s.cell c).holder = some p → s.passage p = some q → q.state = .granted → q.deadline.kind = .arrival →
    (s.cellsOf q)[k]? = some c → (∀ d ∈ (s.cellsOf q).take k, (s.cell d).heard = .blind) → (s.cellsOf q).Nodup →
    s.SingleGrant →
    let w := windowOf s.map.working.options (traverseTime s.map.working.cells[c].length q.length q.speed)
    ∃ (u : State) (clock : Clock), exec (.occupancyChange c) s = .next (u.grantPass none) ∧
      SameOutside s u ∧ SameNotices s u ∧ SameLine s u ∧ u.liu.attempt = s.liu.attempt ∧ u.marks = s.marks ∧
      u.passage p = some
        { q with
          state := .entered, position := some k, firstHeld := 0, clamped := q.clamped || w.2
          deadline :=
            { run := some { kind := .dwell, window := BitVec.ofNat 16 w.1, clock := clock }
              halt := q.deadline.halt, extStop := false } } ∧
      (q.deadline.halt = true → clock = .frozen (BitVec.ofNat 16 w.1)) ∧
      (q.deadline.halt = false → clock = .armed (s.timer.floor + BitVec.ofNat 16 w.1)) ∧
      (∀ a, u.signal a = if a = s.approachOf q then (s.signal a).latched .stop else s.signal a) ∧
      (∀ x, x ≠ p → u.passage x = s.passage x) ∧
      (∀ d, d ≠ c → u.cell d = s.cell d) ∧ u.cell c = { s.cell c with heard := .occupied } ∧
      u.book.arrivals = s.book.arrivals ∧ u.book.queues = s.book.queues

/-- A report of OCCUPIED ahead of an ENTERED passage, on the next cell of its route or across BLIND cells alone, moves
its position there, returns its overdue level to NORMAL and arms DWELL for the cell; the cells in front of its held run
that meet their condition are released, and then a pass starts, which leaves the passage alone (R65, R67, R68). What a
cell reads is what the Tracker has heard (log entry 5), and how shifter, staged buffer and pointer follow a posting is
log entry 27's: the model's readings. `u` is the state before that pass, `n` the number of cells released. -/
def Obligations.AdvanceMovesThePosition : Prop :=
  ∀ (c : CellId) (p : Slot) (q : Passage) (i k : Nat) (s : State), s.power.phase = .running → s.HolderLaw →
    s.control.mode.operating = true → (s.cell c).occupancy = .occupied → (s.cell c).heard ≠ .occupied →
    (s.cell c).holder = some p → s.passage p = some q → q.state = .entered → q.position = some i → i < k →
    (s.cellsOf q)[k]? = some c → (∀ j d, i < j → j < k → (s.cellsOf q)[j]? = some d → (s.cell d).heard = .blind) →
    q.deadline.kind ≠ .arrival →
    let w := windowOf s.map.working.options (traverseTime s.map.working.cells[c].length q.length q.speed)
    ∃ (u : State) (n : Nat) (clock : Clock),
      exec (.occupancyChange c) s = .next (if 0 < n then u.grantPass none else u) ∧
      SameOutside s u ∧ SameLine s u ∧ Posts s u (lockNotices s ((s.heldRun q).take n)) ∧
      ReleaseCount s q k (fun d => if d = c then .occupied else (s.cell d).heard) n ∧
      u.passage p = some
        { q with
          position := some k, overdue := .normal, firstHeld := q.firstHeld + n, clamped := q.clamped || w.2
          deadline := { q.deadline with
            run := some { kind := .dwell, window := BitVec.ofNat 16 w.1, clock := clock } } } ∧
      (q.deadline.halt = true ∨ q.deadline.extStop = true → clock = .frozen (BitVec.ofNat 16 w.1)) ∧
      (q.deadline.halt = false → q.deadline.extStop = false →
        clock = .armed (s.timer.floor + BitVec.ofNat 16 w.1)) ∧
      u.cell c = { s.cell c with heard := .occupied } ∧
      (∀ d, d ≠ c → u.cell d = if d ∈ (s.heldRun q).take n then (s.cell d).released else s.cell d) ∧
      (∀ x, x ≠ p → u.passage x = s.passage x) ∧ u.book.arrivals = s.book.arrivals ∧
      u.book.queues = s.book.queues ∧ u.marks = s.marks ∧ u.signals = s.signals ∧
      (u.grantPass none).passage p = u.passage p ∧ ((u.grantPass none).cell c).holder = some p

/-- A report of OCCUPIED that no passage accounts for marks the cell intruded and tells the safety master: OCCUPIED_FREE
on a cell without holder, EARLY on a granted route beyond the entry cell, SKIP beyond a cell that should have been seen;
nothing else of the book changes, and no pass starts (R59, R61, R64, R66). That the notice carries the stamp of the
report is the model's reading (log entry 20), and so is how shifter, staged buffer and pointer follow a posting (log
entry 27). On a cell of an ENTERED passage at or behind its position a report of OCCUPIED has no effect: only the
occupancy that the Tracker has heard is new (R66; log entry 5). -/
def Obligations.IntrusionMarksTheCell : Prop :=
  ∀ (c : CellId) (s : State), s.power.phase = .running → s.control.mode.operating = true →
    (s.cell c).occupancy = .occupied → (s.cell c).heard ≠ .occupied →
    let marks := fun (reason : IntrusionReason) (who : Option (Slot × CarrierId)) (clamped : Bool) =>
      ∃ t, exec (.occupancyChange c) s = .next t ∧ SameOutside s t ∧
        t.cell c = { s.cell c with heard := .occupied, intruded := true } ∧
        (∀ d, d ≠ c → t.cell d = s.cell d) ∧ t.book.pool = s.book.pool ∧ t.book.arrivals = s.book.arrivals ∧
        t.book.queues = s.book.queues ∧ t.marks = s.marks ∧ t.signals = s.signals ∧
        Posts s t (toSafety s
          { body := .intrusion c reason, passage := who, stamp := (s.cell c).stamp, clamped := clamped
            wasOverdue := false })
    ((s.cell c).holder = none → marks .occupiedFree none false) ∧
    ∀ (p : Slot) (q : Passage), (s.cell c).holder = some p → s.passage p = some q →
      (q.state = .granted → ∀ (k : Nat) (d : CellId), (s.cellsOf q)[k]? = some d → d ≠ c →
        (s.cell d).heard ≠ .blind → (∀ e ∈ (s.cellsOf q).take k, e ≠ c ∧ (s.cell e).heard = .blind) →
        marks .early (some (p, q.carrier)) q.clamped) ∧
      (q.state = .entered → s.HolderLaw → ∀ i : Nat, q.position = some i →
        ¬ MeetsRelease (fun e => if e = c then .occupied else (s.cell e).heard) i (s.cellsOf q) q.firstHeld →
        (∀ (j k : Nat) (d : CellId), i < j → j < k → (s.cellsOf q)[k]? = some c → (s.cellsOf q)[j]? = some d →
          (s.cell d).heard ≠ .blind → marks .skip (some (p, q.carrier)) q.clamped) ∧
        ∀ k : Nat, k ≤ i → (s.cellsOf q)[k]? = some c → exec (.occupancyChange c) s = .next
          { s with book := { s.book with cells := s.book.cells.set c { s.cell c with heard := .occupied } } })

/-- A report that a cell is no longer OCCUPIED clears its intruded flag and, on a cell of an ENTERED passage, releases
the cells in front of the held run that meet their condition: their pending locks take hold, the first held index moves
up, the passage is CLEARED with its last cell, and BLIND_CLEAR is armed when only BLIND cells are left; a pass starts if
a flag was cleared or a cell released (R23, R40, R59, R61, R67 to R70). So a first held cell behind the position that
goes FREE is released. A passage that drains a DRAINING junction posts the MODE notice after it (R117, R123): it is the
model's reading that the drained MODE notice is posted only when the live count becomes 0 (log entry 28); that one
notice joins the FIFOs of its receivers in ascending slot order is its choice (log entry 14), and how shifter, staged
buffer and pointer follow its reading (log entry 27). What a cell reads is what the Tracker has heard (log entry 5). `u`
is the state before the pass, `n` the number of cells released. -/
def Obligations.ReleaseBehindTheCarrier : Prop :=
  ∀ (c : CellId) (s : State), s.power.phase = .running → s.HolderLaw → s.control.mode.operating = true →
    (s.cell c).occupancy ≠ .occupied → (s.cell c).heard ≠ (s.cell c).occupancy →
    ∃ (u : State) (n : Nat), TakesAway s u c (s.cell c).occupancy n ∧
      exec (.occupancyChange c) s =
        .next (if 0 < n ∨ (s.cell c).intruded = true then u.grantPass none else u) ∧
      ∀ p q i, (s.cell c).holder = some p → s.passage p = some q → q.state = .entered → q.position = some i →
        (s.cell c).occupancy = .free → (s.cellsOf q)[q.firstHeld]? = some c → q.firstHeld < i →
        0 < n ∧ (u.cell c).holder = none

/-! ### Signals, the emergency input and settling -/

/-- A completed readback change is judged against the latch: LOW under GO is an external stop that freezes the
approach's ARRIVAL, HIGH under GO ends it; HIGH under STOP is a fault that joins SIGNAL_FAULT and halts an operating
junction, LOW under STOP clears it, and the cause leaves with the last fault (R108, R109, R110). A halt freezes what ran
with the ticks it had; what was frozen keeps its remainder, an external stop's too, and kind NONE stays NONE (R91, R92).
Each change of mode or causes posts one MODE notice to every slot, and nothing else is posted (R117, R124). That the
completing sample waits as a mark until this command takes it, that the command changes nothing without the mark, and
the order of the receivers are the model's choices (log entries 6, 4 and 14); that a set that stays as it is posts none,
and how shifter, staged buffer and pointer follow a posting, are its readings (log entries 29 and 27); that a deadline
just reached keeps remainder 1 is its reading too (log entry 9). -/
def Obligations.ReadbackIsJudged : Prop :=
  ∀ (a : ApproachId) (s : State), s.power.phase = .running →
    let r := s.signal a
    let settled := { r with filtered := r.raw, count := 0, due := false }
    let causes := { s.control.causes with signalFault := true }
    let faulty := { s with signals := s.signals.set a { settled with fault := true } }
    (r.due = false → exec (.readbackChange a) s = .next s) ∧
    (r.due = true → ∃ t, exec (.readbackChange a) s = .next t ∧
      t.power = s.power ∧ t.map = s.map ∧ t.timer = s.timer ∧ t.scanner = s.scanner ∧ t.decoder = s.decoder ∧
      t.marks = s.marks ∧ t.book.cells = s.book.cells ∧ t.book.arrivals = s.book.arrivals ∧
      t.book.queues = s.book.queues ∧ t.liu.error = s.liu.error ∧ t.liu.line = s.liu.line ∧
      (r.latch = .go → Posts s t [] ∧ t.control = s.control ∧
        t.signal a = { settled with extStop := decide (r.raw = .low) } ∧
        (∀ b, b ≠ a → t.signal b = s.signal b) ∧
        (∀ x, ¬ s.GrantedAt x a → t.passage x = s.passage x) ∧
        (s.SingleGrant → ∀ p q, s.GrantedAt p a → s.passage p = some q →
          (r.raw = .low → t.passage p = some { q with deadline := q.deadline.joinExtStop s.timer.floor }) ∧
          (r.raw = .high → t.passage p = some { q with deadline := q.deadline.leaveExtStop s.timer.floor }))) ∧
      (r.latch = .stop → r.raw = .high → t.signal a = { settled with fault := true } ∧
        (s.control.mode = .unmapped ∨ s.control.mode = .service → t.control = s.control ∧ t.book = s.book) ∧
        (s.control.mode = .settling → Halted faulty t s.control .settling causes) ∧
        (s.control.mode = .running → Halted faulty t s.control .running causes) ∧
        (s.control.mode = .draining → Halted faulty t s.control .draining causes) ∧
        (s.control.mode = .halted → t.control = { s.control with causes := causes } ∧ t.book = s.book) ∧
        (s.control.mode = .unmapped ∨ s.control.mode = .service ∨ s.control.mode = .halted →
          t.signals = faulty.signals) ∧
        Posts s t
          (if s.control.mode.operating = true ∧ ¬ (s.control.mode = .halted ∧ s.control.causes.signalFault = true) then
            toAll (modeNotice s t) else [])) ∧
      (r.latch = .stop → r.raw = .low → t.signal a = { settled with fault := false } ∧ t.book = s.book ∧
        (∀ b, b ≠ a → t.signal b = s.signal b) ∧
        ((∃ b, b ≠ a ∧ (s.signal b).fault = true) ∨ s.control.mode ≠ .halted → t.control = s.control ∧ Posts s t []) ∧
        ((∀ b, b ≠ a → (s.signal b).fault = false) → s.control.mode = .halted →
          t.control = { s.control with causes := { s.control.causes with signalFault := false } } ∧
          Posts s t (if s.control.causes.signalFault = true then toAll (modeNotice s t) else []))))

/-- ASSERTED halts an operating junction with ESTOP and sends a halt pulse, adds ESTOP in HALTED without a pulse, and is
only held in UNMAPPED and SERVICE; CLEAR takes ESTOP away and leaves the mode (R113, R114, R125, R140). A halt freezes
what ran with the ticks it had; what was frozen keeps its remainder, an external stop's too, and kind NONE stays NONE
(R91, R92). Each change of mode or causes posts one MODE notice to every slot, and nothing else is posted (R117, R124).
That the completing sample waits as a mark until its command takes it, that the command changes nothing without the
mark, and the order of the receivers are the model's choices (log entries 6, 4 and 14); that a set that stays as it is
posts none, and how shifter, staged buffer and pointer follow a posting, are its readings (log entries 29 and 27); that
a deadline just reached keeps remainder 1 is its reading too (log entry 9). -/
def Obligations.EmergencyInput : Prop :=
  ∀ s : State, s.power.phase = .running →
    let causes := { s.control.causes with estop := true }
    let asserted := { s.control with
      emergency := { rawAsserted := true, count := 0, asserted := true, due := false } }
    (s.control.emergency.due = true → s.control.emergency.rawAsserted = true →
      ∃ t, exec .emergencyAsserted s = .next t ∧ t.map = s.map ∧ t.timer = s.timer ∧ t.scanner = s.scanner ∧
        t.decoder = s.decoder ∧ t.liu.error = s.liu.error ∧ t.liu.line = s.liu.line ∧
        (s.control.mode = .unmapped ∨ s.control.mode = .service → t = { s with control := asserted }) ∧
        (s.control.mode = .halted → t.control = { asserted with causes := causes } ∧ SameBook s t ∧
          t.liu.pulse = s.liu.pulse ∧
          Posts s t (if s.control.causes.estop = true then [] else toAll (modeNotice s t))) ∧
        (s.control.mode = .settling → Halted s t asserted .settling causes) ∧
        (s.control.mode = .running → Halted s t asserted .running causes) ∧
        (s.control.mode = .draining → Halted s t asserted .draining causes) ∧
        (s.control.mode = .settling ∨ s.control.mode = .running ∨ s.control.mode = .draining →
          t.liu.pulse = some 0 ∧ t.liu.attempt = none ∧
          (∀ tail, t.liu.tail = some tail → tail.sending = false) ∧
          Posts { s with liu := { s.liu with attempt := none } } t (toAll (modeNotice s t)))) ∧
    (s.control.emergency.due = true → s.control.emergency.rawAsserted = false →
      ∃ t, exec .emergencyClear s = .next t ∧ SameBook s t ∧ t.map = s.map ∧ t.timer = s.timer ∧
        t.scanner = s.scanner ∧ t.decoder = s.decoder ∧ t.liu.error = s.liu.error ∧ t.liu.line = s.liu.line ∧
        Posts s t (if s.control.mode = .halted ∧ s.control.causes.estop = true then toAll (modeNotice s t) else []) ∧
        t.control =
          { s.control with
            emergency := { rawAsserted := false, count := 0, asserted := false, due := false }
            causes := if s.control.mode = .halted then { s.control.causes with estop := false }
              else s.control.causes }) ∧
    (s.control.emergency.due = false →
      exec .emergencyAsserted s = .next s ∧ exec .emergencyClear s = .next s)

/-- In SETTLING a rise adds one to the settle count; the rise that brings it to 2 × filter depth takes the junction to
RUNNING with its MODE notice to every slot and one pass; in another mode the rise is not made (R102, R117, R121). The
count of rises due is the model's own (log entry 10); that the command changes nothing when none is due, and the order
of the receivers, are its choices (log entries 4 and 14), and how shifter, staged buffer and pointer follow a posting is
its reading (log entry 27). `u` is the state before the pass. -/
def Obligations.SettlingCompletes : Prop :=
  ∀ (n : Nat) (s : State), s.power.phase = .running →
    (s.control.risesDue = 0 → exec .settleCountRise s = .next s) ∧
    (s.control.risesDue = n + 1 →
      (s.control.mode ≠ .settling →
        exec .settleCountRise s = .next { s with control := { s.control with risesDue := n } }) ∧
      (s.control.mode = .settling → s.control.settleCount + 1 < 2 * s.map.working.options.depth →
        exec .settleCountRise s = .next
          { s with control := { s.control with risesDue := n, settleCount := s.control.settleCount + 1 } }) ∧
      (s.control.mode = .settling → 2 * s.map.working.options.depth ≤ s.control.settleCount + 1 →
        ∃ u t : State, exec .settleCountRise s = .next t ∧ t = u.grantPass none ∧ SameBook s u ∧
          u.control =
            { s.control with mode := .running, risesDue := n, settleCount := s.control.settleCount + 1 } ∧
          SameOutside { s with control := u.control } u ∧ SameLine s u ∧ Posts s u (toAll (modeNotice s u)) ∧
          t.control = u.control ∧ t.map = s.map ∧ t.timer = s.timer ∧
          t.scanner = s.scanner ∧ t.decoder = s.decoder ∧ t.liu.error = s.liu.error))

/-! ### The Clearance Timer -/

/-- A tick increment adds one to floor time, modulo 65536, and begins an interval of the stored tick; with no expiry due
it changes nothing else (R78). An expiry still due is taken within it: the model's choice (log entry 8). -/
def Obligations.TickAdvancesFloorTime : Prop :=
  ∀ s : State, s.power.phase = .running →
    let timer : Timer := { floor := s.timer.floor + 1, interval := s.map.working.options.tick, cycles := 0 }
    (∃ t, exec .tick s = .next t ∧ t.timer = timer ∧ t.control = s.control ∧ t.map = s.map ∧
      t.scanner = s.scanner ∧ t.decoder = s.decoder ∧ t.liu.error = s.liu.error) ∧
    ((∀ p q r, s.passage p = some q → q.deadline.run = some r → r.clock ≠ .armed s.timer.floor) →
      exec .tick s = .next { s with timer := timer })

/-- The expiry of ARRIVAL removes the passage as LAPSED, and that of BLIND_CLEAR as CLEARED, with every cell it holds
and the notice to its owner; the drained MODE notice follows in DRAINING; then a pass starts (R87, R88, R90, R117,
R123). The model's readings are the occupancy that a release looks at, the one the Tracker has heard (log entry 5), the
stamp of a release's INTRUSION notice (log entry 20), and that the drained MODE notice is posted only when the live
count becomes 0 (log entry 28); that one notice joins the FIFOs of its receivers in ascending slot order is its choice
(log entry 14), and how shifter, staged buffer and pointer follow its reading (log entry 27). That an expiry command
with no deadline reached changes nothing is the model's choice (log entry 4). The latch of a GRANTED passage goes to
STOP with its readback filter restarted (R108); the mark that falls away with it is the model's own (log entry 6). `u`
is the state before the pass. -/
def Obligations.ExpiryRemovesThePassage : Prop :=
  ∀ (p : Slot) (s : State), s.power.phase = .running →
    let removes := fun (c : Instr) (q : Passage) (outcome : NoticeBody) =>
      ∃ u : State, exec c s = .next (u.grantPass none) ∧ Removes s u p q (some outcome) ∧ SameLine s u ∧
        (u.grantPass none).passage p = none ∧ SameOutside s (u.grantPass none) ∧
        (s.control.mode ≠ .running → u.grantPass none = u)
    (∀ q r, s.passage p = some q → q.deadline.run = some r → r.clock = .armed s.timer.floor → s.SingleGrant →
      (r.kind = .arrival → removes (.arrivalExpiry p) q .lapsed) ∧
      (r.kind = .blindClear → removes (.blindClearExpiry p) q .cleared)) ∧
    ((∀ q r, s.passage p = some q → q.deadline.run = some r → r.clock ≠ .armed s.timer.floor) →
      exec (.arrivalExpiry p) s = .next s ∧ exec (.blindClearExpiry p) s = .next s ∧
      exec (.dwellExpiry p) s = .next s)

/-- The first expiry of DWELL makes the passage OVERDUE and arms the same window again; the second makes it STALLED with
no deadline; both set the was-overdue mark and tell the owner and the safety master, once each; the passage keeps its
position and its cells (R85, R89). The order of the two receivers is the model's choice (log entry 14), and how shifter,
staged buffer and pointer follow a posting is its reading (log entry 27). -/
def Obligations.DwellExpiry : Prop :=
  ∀ (p : Slot) (q : Passage) (r : Running) (s : State), s.power.phase = .running → s.passage p = some q →
    q.deadline.run = some r → r.kind = .dwell → r.clock = .armed s.timer.floor →
    q.deadline.halt = false → q.deadline.extStop = false → q.overdue ≠ .stalled →
    let level := if q.overdue = .normal then Overdue.overdue else .stalled
    let body := if q.overdue = .normal then NoticeBody.overdue else .stalled
    ∃ t, exec (.dwellExpiry p) s = .next t ∧ SameOutside s t ∧
      t.passage p = some
        { q with
          overdue := level, wasOverdue := true
          deadline :=
            { run := if q.overdue = .normal then some { r with clock := .armed (s.timer.floor + r.window) } else none
              halt := false, extStop := false } } ∧
      (∀ x, x ≠ p → t.passage x = s.passage x) ∧ t.book.cells = s.book.cells ∧
      t.book.arrivals = s.book.arrivals ∧ t.book.queues = s.book.queues ∧ t.marks = s.marks ∧
      t.signals = s.signals ∧
      Posts s t (((List.finRange 6).filter fun k =>
        decide (k = q.master) || decide (s.safetySlot = some k)).map fun k =>
        (k,
          { body := body, passage := some (p, q.carrier), stamp := s.timer.floor, clamped := q.clamped
            wasOverdue := false }))

/-! ### Junction modes -/

/-- DRAIN takes RUNNING to DRAINING with its MODE notice, changes nothing in DRAINING, and answers the live count; it is
refused REFUSED_MODE in the other modes and REFUSED_ROLE from another enrolled master, and gets no tail from a node that
is not enrolled; no passage, latch or deadline changes, and no grant pass runs after it (R41, R117, R122). That the MODE
notice joins the FIFOs in ascending slot order is the model's choice (log entry 14), and how shifter, staged buffer and
pointer follow its reading (log entry 27). -/
def Obligations.DrainStopsGranting : Prop :=
  ∀ (hd : FrameHead) (s : State), s.Hears (.drain hd) →
    let answers := fun v : Verdict => ∃ t, exec (.drain hd) s = .next t ∧ t.Answers v ∧ SameButTail s t
    (s.control.mode = .unmapped ∨ s.control.mode = .service → answers (.refusedMode s.control.mode)) ∧
    (s.control.mode ≠ .unmapped → s.control.mode ≠ .service → s.enrolledSlot hd.src = none →
      ∃ t, exec (.drain hd) s = .next t ∧ t.liu.tail = none ∧ SameButTail s t) ∧
    ∀ m, s.enrolledSlot hd.src = some m →
      (s.control.mode = .settling ∨ s.control.mode = .halted → answers (.refusedMode s.control.mode)) ∧
      (s.control.mode = .running ∨ s.control.mode = .draining → s.map.enrolment[m].role ≠ .safety →
        answers .refusedRole) ∧
      (s.control.mode = .draining → s.map.enrolment[m].role = .safety → answers (.done (.drain s.liveCount))) ∧
      (s.control.mode = .running → s.map.enrolment[m].role = .safety →
        ∃ t, exec (.drain hd) s = .next t ∧ t.Answers (.done (.drain s.liveCount)) ∧
          t.control = { s.control with mode := .draining } ∧ SameBook s t ∧
          Posts s t (toAll (modeNotice s t)) ∧ t.drained = decide (s.liveCount = 0) ∧
          (∀ quiet, t.grantPass quiet = t) ∧
          t.power = s.power ∧ t.map = s.map ∧ t.timer = s.timer ∧ t.scanner = s.scanner ∧
          t.decoder = s.decoder ∧ t.pending = s.pending ∧ t.liu.error = s.liu.error)

/-- RESUME changes nothing in RUNNING, takes DRAINING to RUNNING with one pass, is refused CAUSE_PRESENT in HALTED while
a cause is present, restarts settling when the prior mode is SETTLING, and otherwise returns to the prior mode: HALT
leaves every live passage and the deadlines are restored, the latches of GRANTED passages go to GO, the MODE notice is
posted, and a pass runs in RUNNING (R40, R117, R127). A restart of settling restarts the filters of the in-use ACTIVE
cells: each reads FREE, one that changes is stamped with the floor time, and a change that the Tracker hears clears the
intruded flag; lists, marks, reservations and latches stay, and with no cell held so do the pool, every lock and every
other cell (R61, R101, R102, R120). What the Tracker had heard of a cell is the model's own field (log entry 5), and a
report still waiting is replaced (log entry 7); that the Tracker takes the reports of the restarted filters inside the
RESUME, so that a cell is heard FREE and its intruded flag cleared before the verdict, is the model's reading (log entry
11). The pending rises of the settle count that a restart of settling drops are the model's own count (log entry 10),
and so is the mark that falls away with a readback filter when its latch goes to GO (R108; log entry 6). That the MODE
notice joins the FIFOs in ascending slot order is the model's choice (log entry 14), and how shifter, staged buffer and
pointer follow its reading (log entry 27). `u` is the state before the pass. -/
def Obligations.ResumeLeavesHalted : Prop :=
  ∀ (hd : FrameHead) (s : State), s.Takes (.resume hd) →
    (s.control.mode = .running →
      ∃ t, exec (.resume hd) s = .next t ∧ t.Answers (.done (.resume .running)) ∧ SameButTail s t) ∧
    (s.control.mode = .draining →
      ∃ u t : State, exec (.resume hd) s = .next t ∧ t.Answers (.done (.resume .running)) ∧
        SameOutside { s with control := { s.control with mode := .running } } u ∧ SameBook s u ∧
        Posts s u (toAll (modeNotice s u)) ∧ SameButTail (u.grantPass none) t ∧ t.control = u.control) ∧
    (s.control.mode = .halted → s.control.causes ≠ .empty →
      ∃ t, exec (.resume hd) s = .next t ∧ t.Answers (.causePresent s.control.causes) ∧ SameButTail s t) ∧
    (s.control.mode = .halted → s.control.causes = .empty → s.control.prior = .settling →
      s.control.emergency.asserted = false → (∀ a, (s.signal a).fault = false) →
      ∃ t, exec (.resume hd) s = .next t ∧ t.Answers (.done (.resume .settling)) ∧
        t.control = { s.control with mode := .settling, settleCount := 0, risesDue := 0 } ∧
        t.map = s.map ∧ t.timer = s.timer ∧ t.decoder = s.decoder ∧ t.liu.error = s.liu.error ∧
        t.power = s.power ∧ t.pending = s.pending ∧ t.scanner = { s.scanner with sensors := t.scanner.sensors } ∧
        t.book.arrivals = s.book.arrivals ∧ t.book.queues = s.book.queues ∧ t.marks = s.marks ∧
        t.signals = s.signals ∧
        (∀ c, (t.sensor c).mode = (s.sensor c).mode ∧ (t.cell c).reservation = (s.cell c).reservation) ∧
        ((∀ c, (s.cell c).holder = none) →
          t.book.pool = s.book.pool ∧ Posts s t (toAll (modeNotice s t)) ∧
          ∀ c : CellId,
            let r := s.cell c
            let restarts := s.map.working.cells[c].inUse = true ∧ (s.sensor c).mode = .active
            (¬ restarts → t.cell c = r ∧ t.sensor c = s.sensor c) ∧
            (restarts → t.cell c =
              { r with
                occupancy := .free, heard := .free
                stamp := if r.occupancy = .free then r.stamp else s.timer.floor
                intruded := r.intruded && decide (r.heard = .free) })) ∧
        ∀ c : CellId, s.map.working.cells[c].inUse = true → (s.sensor c).mode = .active →
          (t.cell c).occupancy = .free ∧ t.sensor c = { mode := .active, raw := .free, count := 0 }) ∧
    (s.control.mode = .halted → s.control.causes = .empty →
      s.control.prior = .running ∨ s.control.prior = .draining →
      let mode := if s.control.prior = .running then Mode.running else .draining
      ∃ u t : State, exec (.resume hd) s = .next t ∧ t.Answers (.done (.resume mode)) ∧
        SameOutside { s with control := { s.control with mode := mode } } u ∧
        u.book.cells = s.book.cells ∧ u.book.arrivals = s.book.arrivals ∧ u.book.queues = s.book.queues ∧
        u.marks = s.marks ∧
        (∀ a, (∃ p, s.GrantedAt p a) → u.signal a = (s.signal a).latched .go) ∧
        (∀ a, (∀ p, ¬ s.GrantedAt p a) → u.signal a = s.signal a) ∧
        (∀ p, s.passage p = none → u.passage p = none) ∧
        (∀ p q, s.passage p = some q → q.deadline.extStop = false →
          u.passage p = some { q with deadline := if q.live then q.deadline.leaveHalt s.timer.floor else q.deadline }) ∧
        Posts s u (toAll (modeNotice s u)) ∧ SameButTail (u.grantPass none) t ∧ t.control = u.control ∧
        (mode = .draining → SameButTail u t))

/-- RESTART flushes every passage, with its FLUSHED notice and those of its releases, returns every in-use cell's sensor
to the map's initial mode with an ACTIVE filter at FREE, and enters SETTLING, or stays HALTED with prior mode SETTLING
and its causes; a held emergency or fault halts it at the entry; the MODE notice is posted last. Every holder and
reservation becomes none, a pending lock LOCKED, every latch STOP with its readback filter restarted if it was GO
(R108); a blind-route mark goes with the passage it names (R39). A cell that ends in STANDBY reads BLIND, one whose
occupancy changed is stamped with the floor time, and a change that the Tracker hears clears the intruded flag, one that
the flush has just set among them (R99, R101, R104). The FIFOs keep their notices and LOST flags, and what else R128
keeps is kept (R25, R117, R120, R128). A release reads the occupancy that the Tracker has heard (log entry 5) and gives
its INTRUSION notice the floor time of the release (log entry 20), and the pending rises of the settle count are the
model's own count, dropped here (log entry 10), as is the mark that falls away with a readback filter (log entry 6). A
report still waiting is replaced (log entry 7), and that the Tracker takes the reports of the sensors inside the command
is the model's reading (log entry 11). That the MODE notice joins the FIFOs in ascending slot order is the model's
choice (log entry 14), and how shifter, staged buffer and pointer follow its reading (log entry 27). That a pending lock
becomes LOCKED, as R23 and R25 have it, and the locked count rises with it, where R38 says that it is unchanged, is the
model's choice (log entry 35). -/
def Obligations.RestartClearsTheBook : Prop :=
  ∀ (hd : FrameHead) (s : State), s.Takes (.restart hd) → s.HolderLaw → s.CausesLaw →
    let n := ((List.finRange 24).filter fun p => (s.passage p).isSome).length
    let held : HaltCauses :=
      { haltPulse := false, estop := s.control.emergency.asserted, lineStuck := false
        signalFault := decide (∃ a, (s.signal a).fault = true) }
    ∃ t, exec (.restart hd) s = .next t ∧ t.Answers (.done (.restart n t.control.mode)) ∧
      (∀ p, t.passage p = none) ∧ t.book.arrivals = [] ∧ (∀ a, t.queue a = []) ∧
      (∀ c, (t.cell c).holder = none ∧ (t.cell c).reservation = none ∧
        (t.cell c).lock =
          if (s.cell c).lock = .pending ∧ (s.cell c).holder ≠ none then .locked else (s.cell c).lock) ∧
      (s.LatchLaw → ∀ a, (t.signal a).latch = .stop ∧ t.signal a = (s.signal a).latched .stop) ∧
      MarksFlushed s t ∧
      Posts s t (flushNotices s ++ toAll (modeNotice s t)) ∧
      (∀ c : CellId,
        let e := s.map.working.cells[c]
        let r := s.cell c
        let flushed := r.intruded || (decide (r.holder ≠ none) && decide (r.heard = .occupied))
        (e.inUse = false ∨ e.sensor = .standby ∧ (s.sensor c).mode = .standby →
          t.sensor c = s.sensor c ∧ (t.cell c).occupancy = r.occupancy ∧ (t.cell c).heard = r.heard ∧
          (t.cell c).stamp = r.stamp ∧ (t.cell c).intruded = flushed) ∧
        (e.inUse = true → e.sensor = .standby → (s.sensor c).mode = .active →
          t.sensor c = { s.sensor c with mode := .standby, count := 0 } ∧ (t.cell c).occupancy = .blind ∧
          (t.cell c).heard = .blind ∧ (t.cell c).stamp = s.timer.floor ∧ (t.cell c).intruded = false) ∧
        (e.inUse = true → e.sensor = .active →
          t.sensor c = { mode := .active, raw := .free, count := 0 } ∧ (t.cell c).occupancy = .free ∧
          (t.cell c).heard = .free ∧
          (t.cell c).stamp = (if r.occupancy = .free then r.stamp else s.timer.floor) ∧
          (t.cell c).intruded = (flushed && decide (r.heard = .free)))) ∧
      (s.control.mode = .halted →
        t.control = { s.control with prior := .settling, settleCount := 0, risesDue := 0 }) ∧
      (s.control.mode ≠ .halted → held = .empty →
        t.control = { s.control with mode := .settling, settleCount := 0, risesDue := 0 }) ∧
      (s.control.mode ≠ .halted → held ≠ .empty →
        t.control = { s.control with
          mode := .halted, prior := .settling, causes := held, settleCount := 0, risesDue := 0 }) ∧
      (∀ a, (t.signal a).fault = (s.signal a).fault) ∧
      t.map = s.map ∧ t.timer = s.timer ∧ t.decoder = s.decoder ∧ t.liu.error = s.liu.error ∧
      t.power = s.power ∧ t.pending = s.pending ∧ t.scanner.ms = s.scanner.ms ∧
      t.scanner.cycles = s.scanner.cycles ∧ t.scanner.period = s.scanner.period

/-- OPEN_SERVICE from UNMAPPED, or from a drained DRAINING or HALTED with every QUEUED passage flushed, enters SERVICE:
the FLUSHED notices are posted, then the MODE notice, and the snapshot latches are emptied; with passages live it is
BUSY; in SERVICE it names the source as service node (R25, R54, R117, R118, R119). A blind-route mark goes with the
passage it names (R39). The pending rises of the settle count
are the model's own count, dropped here (log entry 10), and with the occupancy the Tracker's own hearing of it becomes
FREE (log entry 5). That the MODE notice joins the FIFOs in ascending slot order is the model's choice (log entry 14),
and how shifter, staged buffer and pointer follow its reading (log entry 27). -/
def Obligations.OpenServiceByMode : Prop :=
  ∀ (hd : FrameHead) (s : State), s.Takes (.openService hd) →
    let enters := fun (t : State) (flushed : Nat) (posted : List (MasterSlot × Notice)) =>
      exec (.openService hd) s = .next t ∧ t.Answers (.done (.openService flushed)) ∧
      t.control = { s.control with mode := .service, causes := .empty, settleCount := 0, risesDue := 0 } ∧
      t.decoder = { service := some hd.src, latches := Vector.replicate 15 none } ∧
      Posts s t (posted ++ toAll (modeNotice s t)) ∧
      (∀ c, (t.cell c).occupancy = .free ∧ (t.cell c).heard = .free ∧ (t.cell c).intruded = false ∧
        (t.cell c).stamp = (s.cell c).stamp ∧
        (t.cell c).lock = (s.cell c).lock ∧ (t.cell c).holder = (s.cell c).holder ∧
        (t.sensor c).mode = (s.sensor c).mode ∧ (t.sensor c).count = 0 ∧ (t.sensor c).raw = .free) ∧
      t.map = s.map ∧ t.timer = s.timer ∧ t.power = s.power ∧ t.signals = s.signals ∧ t.liu.error = s.liu.error
    (s.control.mode = .unmapped → ∃ t, enters t 0 [] ∧ t.book.pool = s.book.pool ∧
      t.book.arrivals = s.book.arrivals ∧ t.book.queues = s.book.queues ∧ t.marks = s.marks) ∧
    (s.control.mode = .service → ∃ t, exec (.openService hd) s = .next t ∧ t.Answers (.done (.openService 0)) ∧
      SameButTail { s with decoder := { s.decoder with service := some hd.src } } t) ∧
    (s.control.mode = .draining ∨ s.control.mode = .halted → 0 < s.liveCount →
      ∃ t, exec (.openService hd) s = .next t ∧ t.Answers (.busy s.liveCount) ∧ SameButTail s t) ∧
    (s.control.mode = .draining ∨ s.control.mode = .halted → s.liveCount = 0 →
      ∃ t, enters t ((List.finRange 24).filter fun p => (s.passage p).isSome).length (flushNotices s) ∧
        (∀ p, t.passage p = none) ∧ MarksFlushed s t ∧
        (s.HolderLaw → t.book.arrivals = [] ∧ (∀ a, t.queue a = []) ∧ ∀ c, (t.cell c).reservation = none))

/-! ### The junction map -/

/-- From the service node in SERVICE, LOAD_OPTIONS, LOAD_CELL, LOAD_APPROACH and LOAD_MASTER with every field in range
replace the whole entry they name and nothing else, and are answered DONE (R8, R9). -/
def Obligations.LoadReplacesOneEntry : Prop :=
  ∀ (hd : FrameHead) (s : State), s.control.mode = .service → s.decoder.service = some hd.src →
    let m := s.map.working
    let stores := fun (c : Instr) (new : WorkingMap) => s.Hears c → ∃ t, exec c s = .next t ∧ t.Answers (.done .load) ∧
      SameButTail { s with map := { s.map with working := new } } t
    (∀ (tick divider depth dwell skip : Byte) (tag : BitVec 16), tick.toNat ∈ [5, 10, 20, 40] →
      divider.toNat ≤ 15 → 1 ≤ depth.toNat → depth.toNat ≤ 8 → 8 ≤ dwell.toNat → dwell.toNat ≤ 32 →
      skip.toNat ≤ 15 →
      stores (.loadOptions hd tick divider depth dwell skip tag)
        { m with options :=
          { tick := tick.toNat, divider := divider.toNat, depth := depth.toNat, dwell := dwell.toNat
            skipLimit := skip.toNat, tag := tag } }) ∧
    (∀ (c : CellId) (cell : Byte) (used : Bool) (length : BitVec 16) (mode : SensorMode), cell.toNat = c.val →
      50 ≤ length.toNat → length.toNat ≤ 1000 →
      stores (.loadCell hd cell (if used then 1 else 0) length mode.code)
        { m with cells := m.cells.set c { inUse := used, length := length.toNat, sensor := mode } }) ∧
    (∀ (a : ApproachId) (approach : Byte) (used : Bool) (distance : BitVec 16) (limit : Byte),
      approach.toNat = a.val → 50 ≤ distance.toNat → distance.toNat ≤ 2000 → 1 ≤ limit.toNat → limit.toNat ≤ 6 →
      stores (.loadApproach hd approach (if used then 1 else 0) distance limit)
        { m with
          approaches := m.approaches.set a { inUse := used, distance := distance.toNat, limit := limit.toNat } }) ∧
    ∀ (k : MasterSlot) (slot : Byte) (used : Bool) (n : Node) (node : Byte) (role : Role) (option : NoticeOption),
      slot.toNat = k.val → node.toNat = n.val →
      stores (.loadMaster hd slot (if used then 1 else 0) node role.code option.code)
        { m with masters := m.masters.set k { inUse := used, node := n, role := role, option := option } }

/-- LOAD_ROUTE stores its four fields and leaves the cell list; LOAD_ROUTE_CELLS writes its first count entries from its
offset on and leaves the rest of the list, or names the first field that fails in R10's order and stores nothing
(R10). -/
def Obligations.LoadRoutes : Prop :=
  ∀ (hd : FrameHead) (r : RouteId) (route : Byte) (s : State), s.control.mode = .service →
    s.decoder.service = some hd.src → route.toNat = r.val →
    let m := s.map.working
    let e := m.routes[r]
    let stores := fun (c : Instr) (new : RouteEntry) => s.Hears c → ∃ t, exec c s = .next t ∧ t.Answers (.done .load) ∧
      SameButTail { s with map := { s.map with working := { m with routes := m.routes.set r new } } } t
    let refuses := fun (c : Instr) (field : Nat) => s.Hears c →
      ∃ t, exec c s = .next t ∧ t.Answers (.badValue field none) ∧ SameButTail s t
    (∀ (used : Bool) (a : ApproachId) (approach speed count : Byte), approach.toNat = a.val → 10 ≤ speed.toNat →
      speed.toNat ≤ 250 → count.toNat ≤ 15 →
      stores (.loadRoute hd route (if used then 1 else 0) approach speed count)
        { e with inUse := used, approach := a, speed := speed.toNat, count := count.toNat }) ∧
    ∀ (span e0 e1 e2 e3 e4 e5 : Byte),
      let entries := [e0, e1, e2, e3, e4, e5]
      let offset := (span.extractLsb' 4 4).toNat
      let count := (span.extractLsb' 0 4).toNat
      let c := Instr.loadRouteCells hd route span e0 e1 e2 e3 e4 e5
      (∀ bad : Byte, 47 < bad.toNat → refuses (.loadRouteCells hd bad span e0 e1 e2 e3 e4 e5) 1) ∧
      (7 < offset → refuses c 2) ∧
      (offset ≤ 7 → count = 0 ∨ 6 < count ∨ 8 < offset + count → refuses c 3) ∧
      (offset ≤ 7 → 1 ≤ count → count ≤ 6 → offset + count ≤ 8 →
        (∀ (i : Nat) (b : Byte), i < count → entries[i]? = some b → 31 < b.toNat → b ≠ 0xFF →
          (∀ (j : Nat) (d : Byte), j < i → entries[j]? = some d → d.toNat ≤ 31 ∨ d = 0xFF) → refuses c (4 + i)) ∧
        ((∀ (i : Nat) (b : Byte), i < count → entries[i]? = some b → b.toNat ≤ 31 ∨ b = 0xFF) →
          ∃ list : Vector (Option CellId) 8, stores c { e with list := list } ∧
            ∀ i : Fin 8,
              (i.val < offset ∨ offset + count ≤ i.val → list[i] = e.list[i]) ∧
              ∀ b : Byte, offset ≤ i.val → i.val < offset + count → entries[i.val - offset]? = some b →
                (b = 0xFF → list[i] = none) ∧ ∀ x : CellId, b.toNat = x.val → list[i] = some x))

/-- A LOAD_* frame with a field out of range is refused BAD_VALUE with the first such field in the payload's order, and
stores nothing (R8). -/
def Obligations.LoadNamesFirstBadField : Prop :=
  ∀ (hd : FrameHead) (b1 b2 b3 b4 b5 : Byte) (tag : BitVec 16) (s : State),
    s.control.mode = .service → s.decoder.service = some hd.src →
    let refuses := fun (c : Instr) (ranges : List Bool) => s.Hears c →
      ∀ i, ranges[i]? = some false → (∀ j, j < i → ranges[j]? = some true) →
        ∃ t, exec c s = .next t ∧ t.Answers (.badValue (i + 1) none) ∧ SameButTail s t
    let upTo := fun (low high : Nat) (b : Byte) => decide (low ≤ b.toNat ∧ b.toNat ≤ high)
    let inTag := fun (low high : Nat) => decide (low ≤ tag.toNat ∧ tag.toNat ≤ high)
    refuses (.loadOptions hd b1 b2 b3 b4 b5 tag)
      [decide (b1.toNat ∈ [5, 10, 20, 40]), upTo 0 15 b2, upTo 1 8 b3, upTo 8 32 b4, upTo 0 15 b5] ∧
    refuses (.loadCell hd b1 b2 tag b3) [upTo 0 31 b1, upTo 0 1 b2, inTag 50 1000, upTo 0 1 b3] ∧
    refuses (.loadApproach hd b1 b2 tag b3) [upTo 0 7 b1, upTo 0 1 b2, inTag 50 2000, upTo 1 6 b3] ∧
    refuses (.loadRoute hd b1 b2 b3 b4 b5) [upTo 0 47 b1, upTo 0 1 b2, upTo 0 7 b3, upTo 10 250 b4, upTo 0 15 b5] ∧
    refuses (.loadMaster hd b1 b2 b3 b4 b5) [upTo 0 5 b1, upTo 0 1 b2, upTo 0 15 b3, upTo 0 1 b4, upTo 0 1 b5]

/-- The commit check passes exactly the maps whose routes in use have 1 to 8 cells, all in use and none repeated, from
an approach in use, with a route in use, exactly one SAFETY master, and master nodes that are neither 15 nor the part's
own nor shared; and it names the first failure in the order of the guide with its reason, item and sub-item: the routes
in ascending order by steps 1 to 4, the whole map by steps 5 and 6, the masters in ascending order by steps 7 to 9
(R12). -/
def Obligations.CommitAcceptsExactlyValidMaps : Prop :=
  (∀ (m : WorkingMap) (own : Node),
    let entry := fun (r : RouteId) (i : Nat) => (m.routes[r].list.toList[i]?).getD none
    let used := fun (r : RouteId) (i : Nat) => ∃ c : CellId, entry r i = some c ∧ m.cells[c].inUse = true
    let repeated := fun (r : RouteId) (i : Nat) => ∃ j, j < i ∧ entry r j = entry r i
    let counted := fun r : RouteId => 1 ≤ m.routes[r].count ∧ m.routes[r].count ≤ 8
    let routeGood := fun r : RouteId => m.routes[r].inUse = true →
      counted r ∧ m.approaches[m.routes[r].approach].inUse = true ∧
      ∀ i, i < m.routes[r].count → used r i ∧ ¬ repeated r i
    let shared := fun k j : MasterSlot => j < k ∧ m.masters[j].inUse = true ∧ m.masters[j].node = m.masters[k].node
    let masterGood := fun k : MasterSlot => m.masters[k].inUse = true →
      m.masters[k].node ≠ 15 ∧ m.masters[k].node ≠ own ∧ ∀ j, ¬ shared k j
    let names := fun (reason : MapReason) (item sub : Option Nat) =>
      m.fault own = some (.mapInvalid reason item sub)
    let safeties := ((List.finRange 6).filter fun k =>
      m.masters[k].inUse && decide (m.masters[k].role = .safety)).length
    (∀ r : RouteId, m.routes[r].inUse = true → (∀ x, x < r → routeGood x) →
      (¬ counted r → names .cellCount (some r.val) (some m.routes[r].count)) ∧
      (counted r →
        (m.approaches[m.routes[r].approach].inUse = false →
          names .approachUnused (some r.val) (some m.routes[r].approach.val)) ∧
        (m.approaches[m.routes[r].approach].inUse = true →
          (∀ i, i < m.routes[r].count → ¬ used r i → (∀ j, j < i → used r j) →
            names .cellUnused (some r.val) (some i)) ∧
          ((∀ i, i < m.routes[r].count → used r i) → ∀ i, i < m.routes[r].count → repeated r i →
            (∀ j, j < i → ¬ repeated r j) → names .cellRepeated (some r.val) (some i))))) ∧
    ((∀ r, routeGood r) →
      ((∀ r : RouteId, m.routes[r].inUse = false) → names .noRoute none none) ∧
      ((∃ r : RouteId, m.routes[r].inUse = true) →
        (safeties ≠ 1 → names .safetyCount none (some safeties)) ∧
        (safeties = 1 → ∀ k : MasterSlot, m.masters[k].inUse = true → (∀ j, j < k → masterGood j) →
          let node := m.masters[k].node
          (node = 15 → names .nodeReserved (some k.val) (some node.val)) ∧
          (node ≠ 15 → node = own → names .nodeOwn (some k.val) (some node.val)) ∧
          (node ≠ 15 → node ≠ own → ∀ j, shared k j → names .nodeDuplicate (some k.val) (some j.val)))))) ∧
  ∀ (m : WorkingMap) (own : Node),
    m.fault own = none ↔
      (∀ r : RouteId, m.routes[r].inUse = true →
        1 ≤ m.routes[r].count ∧ m.routes[r].count ≤ 8 ∧ m.approaches[m.routes[r].approach].inUse = true ∧
        ∀ i : Fin 8, i.val < m.routes[r].count →
          ∃ c : CellId, m.routes[r].list[i] = some c ∧ m.cells[c].inUse = true ∧
            ∀ j : Fin 8, j < i → m.routes[r].list[j] ≠ some c) ∧
      (∃ r : RouteId, m.routes[r].inUse = true) ∧
      (∃ k : MasterSlot, m.masters[k].inUse = true ∧ m.masters[k].role = .safety ∧
        ∀ j : MasterSlot, m.masters[j].inUse = true → m.masters[j].role = .safety → j = k) ∧
      ∀ k : MasterSlot, m.masters[k].inUse = true →
        m.masters[k].node ≠ 15 ∧ m.masters[k].node ≠ own ∧
        ∀ j : MasterSlot, j ≠ k → m.masters[j].inUse = true → m.masters[j].node ≠ m.masters[k].node

/-- COMMIT_MAP refuses an invalid map with the first fault and changes nothing; it commits a valid one: the identity
becomes tag and CRC of the working map, locks and intruded flags clear, the FIFOs of changed slots are emptied, the
enrolment becomes the master table, the service node is forgotten, the sensors are set up, and SETTLING is entered, or
HALTED with the held causes (R12, R15, R103, R120). The map CRC is the CRC-16 of the 767 bytes of the map's
serialisation (R13, R14, R156). A frame of a changed slot in the shifter or the staged buffer is dropped, and the places
are filled again, once for all the changed slots: the model's choice (log entry 34); `c` is the Notice Unit before that,
`d` after it. That the MODE notice then joins the FIFOs in ascending slot order is its choice (log entry 14), and how
shifter, staged buffer and pointer follow its reading (log entry 27). With the occupancy the Tracker's own hearing of it
is set, inside the command (log entry 11), and the pending rises of the settle count are dropped: both are the model's
own fields (log entries 5 and 10). -/
def Obligations.CommitTakesEffect : Prop :=
  (∀ m : WorkingMap, ∃ bytes : List Byte, bytes.length = 767 ∧
    let byte := fun n : Nat => BitVec.ofNat 8 n
    let flag := fun b : Bool => if b then (1 : Byte) else 0
    let slice := fun start length : Nat => (bytes.drop start).take length
    let o := m.options
    slice 0 7 = [byte o.tick, byte o.divider, byte o.depth, byte o.dwell, byte o.skipLimit, o.tag.extractLsb' 8 8,
      o.tag.extractLsb' 0 8] ∧
    (∀ c : CellId, let e := m.cells[c]
      slice (7 + 4 * c.val) 4 = [flag e.inUse, byte (e.length / 256), byte e.length,
        if e.sensor = .standby then 1 else 0]) ∧
    (∀ a : ApproachId, let e := m.approaches[a]
      slice (135 + 4 * a.val) 4 = [flag e.inUse, byte (e.distance / 256), byte e.distance, byte e.limit]) ∧
    (∀ r : RouteId, let e := m.routes[r]
      slice (167 + 12 * r.val) 4 = [flag e.inUse, byte e.approach.val, byte e.speed, byte e.count] ∧
      ∀ i : Fin 8, bytes[167 + 12 * r.val + 4 + i.val]? = some (match e.list[i] with
        | none => 0xFF
        | some c => byte c.val)) ∧
    (∀ k : MasterSlot, let e := m.masters[k]
      slice (743 + 4 * k.val) 4 = [flag e.inUse, byte e.node.val, if e.role = .safety then 1 else 0,
        if e.option = .keepNewest then 1 else 0]) ∧
    m.crc = (bytes.flatMap fun b => (List.range 8).map b.getMsbD).foldl
      (fun (r : BitVec 16) b => if r.msb = b then r <<< 1 else (r <<< 1) ^^^ 0x1021) 0xFFFF) ∧
  ∀ (hd : FrameHead) (s : State), s.Hears (.commitMap hd) → s.control.mode = .service →
    s.decoder.service = some hd.src →
    (∀ v, s.map.working.fault s.liu.own = some v →
      ∃ t, exec (.commitMap hd) s = .next t ∧ t.Answers v ∧ SameButTail s t) ∧
    (s.map.working.fault s.liu.own = none → s.CausesLaw →
      let m := s.map.working
      let held : HaltCauses :=
        { haltPulse := false, estop := s.control.emergency.asserted, lineStuck := false
          signalFault := decide (∃ a, (s.signal a).fault = true) }
      let changed := fun k : MasterSlot => m.masters[k].inUse ≠ s.map.enrolment[k].inUse ∨
        m.masters[k].node ≠ s.map.enrolment[k].node ∨ m.masters[k].role ≠ s.map.enrolment[k].role
      ∃ t, exec (.commitMap hd) s = .next t ∧ t.Answers (.done (.commitMap m.options.tag m.crc)) ∧
        t.map = { working := m, tag := m.options.tag, crc := m.crc, enrolment := m.masters } ∧
        t.decoder = { s.decoder with service := none } ∧
        (∀ c : CellId,
          (t.cell c).lock = .none ∧ (t.cell c).intruded = false ∧ (t.cell c).stamp = s.timer.floor ∧
          (t.cell c).occupancy =
            (if m.cells[c].inUse = true ∧ m.cells[c].sensor = .standby then .blind else .free) ∧
          (t.cell c).heard = (t.cell c).occupancy ∧
          t.sensor c = { mode := m.cells[c].sensor, raw := .free, count := 0 }) ∧
        (held = .empty →
          t.control = { s.control with mode := .settling, settleCount := 0, risesDue := 0 }) ∧
        (held ≠ .empty →
          t.control = { s.control with
            mode := .halted, prior := .settling, causes := held, settleCount := 0, risesDue := 0 }) ∧
        (∀ k : MasterSlot,
          (changed k → t.notices.fifos[k] =
            { queue := if m.masters[k].inUse then [modeNotice s t] else [], lost := false }) ∧
          (¬ changed k → JoinsTail s t k (modeNotice s t)) ∧
          (¬ changed k → m.masters[k].inUse = false → t.notices.fifos[k] = s.notices.fifos[k])) ∧
        (∃ c d : State,
          (∀ k : MasterSlot, (changed k → c.notices.fifos[k] = { queue := [], lost := false }) ∧
            (¬ changed k → c.notices.fifos[k] = s.notices.fifos[k])) ∧
          c.notices.pointer = s.notices.pointer ∧
          ((∃ f, s.liu.shifter = some f ∧ changed f.slot) →
            c.liu.shifter = none ∧ c.liu.attempt = none ∧ c.notices.attempts = 0 ∧ c.notices.lateLoss = false) ∧
          ((∀ f, s.liu.shifter = some f → ¬ changed f.slot) →
            c.liu.shifter = s.liu.shifter ∧ c.liu.attempt = s.liu.attempt ∧
            c.notices.attempts = s.notices.attempts ∧ c.notices.lateLoss = s.notices.lateLoss) ∧
          ((∃ f, s.liu.staged = some f ∧ changed f.slot) → c.liu.staged = none) ∧
          ((∀ f, s.liu.staged = some f → ¬ changed f.slot) → c.liu.staged = s.liu.staged) ∧
          Refills c d ∧ Posts { d with map := t.map } t (toAll (modeNotice s t))) ∧
        ((∀ a, (s.signal a).latch = .stop) → t.signals = s.signals) ∧
        (s.ClosedEmpty → t.book.pool = s.book.pool) ∧
        t.timer = s.timer ∧ t.liu.error = s.liu.error ∧ t.power = s.power ∧ t.pending = s.pending)

/-! ### Hardware reset -/

/-- The supply, or RSTn low for 2 µs or more, applies reset: what is on the line ends, the part lets go of it, and every
signal line is driven low; a shorter pulse is ignored. The release starts the oscillator-ready count from 0, and at its
end the straps are read and every block takes its reset values (R165, R166): the tables of the map (R2 to R6) with their
CRC (R14), the cell records (R17), sensors (R94), signals (R105), emergency input (R112), prior mode and settle count
(R116), blind-route marks (R39), LIU (R130), Decoder (R144) and Notice Unit (R158), floor time and the first tick of
10 ms (R78), the scan timer and the first period of 5 ms (R95). That every register keeps its value until then, under
reset and through its release, is the model's reading (log entry 21). The values of the ended count and of the unused
enrolment slots are its choices (log entry 26); the marks `due`, `heard`, `risesDue` and the kept tail are its own
fields (log entries 6, 5, 10 and 25). -/
def Obligations.HardwareReset : Prop :=
  ∀ s : State,
    (∀ cause, (cause = .supply ∨ ∃ cycles, 16 ≤ cycles ∧ cause = .pin cycles) →
      ∃ t, exec (.hardwareReset cause) s = .next t ∧
        t = { s with power := { s.power with phase := .applied, count := 0 }, liu := t.liu } ∧
        t.liu = { s.liu with pulse := none, attempt := none, rx := none, tail := t.liu.tail } ∧
        t.power = { s.power with phase := .applied, count := 0 } ∧
        t.liu.pulse = none ∧ t.liu.attempt = none ∧ t.liu.rx = none ∧
        (∀ tail, t.liu.tail = some tail → tail.sending = false) ∧ t.lineDrivenDominant = false ∧
        (∀ a, t.signalDrivenLow a = true) ∧
        ∀ c f, frameOf c = some f → exec c t = .next t) ∧
    (∀ cycles, cycles < 16 → exec (.hardwareReset (.pin cycles)) s = .next s) ∧
    (s.power.phase = .applied →
      exec .resetRelease s = .next { s with power := { s.power with phase := .counting, count := 0 } }) ∧
    (s.power.phase = .counting → ∀ straps : BitVec 4, ∃ t, exec (.oscillatorReady straps) s = .next t ∧
      t.power = { phase := .running, count := 0, straps := straps } ∧
      t.liu.own.val = (if straps = 15 then 14 else straps.toNat) ∧ t.liu.line = .busy ∧
      t.liu.rx = none ∧ t.liu.shifter = none ∧ t.liu.staged = none ∧ t.liu.attempt = none ∧ t.liu.tail = none ∧
      t.liu.pulse = none ∧
      (∀ c f, frameOf c = some f → exec c t = .next t) ∧
      t.liu.error = { kind := .none, stamp := 0, overrun := false } ∧
      t.control =
        { mode := .unmapped, prior := .unmapped, settleCount := 0, risesDue := 0
          causes := { haltPulse := false, estop := false, lineStuck := false, signalFault := false }
          emergency := { rawAsserted := false, count := 0, asserted := false, due := false } } ∧
      t.timer = { floor := 0, interval := 10, cycles := 0 } ∧
      t.scanner.ms = 0 ∧ t.scanner.cycles = 0 ∧ t.scanner.period = 4 ∧
      t.map.working.options = { tick := 10, divider := 4, depth := 3, dwell := 12, skipLimit := 4, tag := 0 } ∧
      (∀ c : CellId, t.map.working.cells[c] = { inUse := false, length := 100, sensor := .active }) ∧
      (∀ a : ApproachId, t.map.working.approaches[a] = { inUse := false, distance := 300, limit := 2 }) ∧
      (∀ r : RouteId, let e := t.map.working.routes[r]
        e.inUse = false ∧ e.approach = 0 ∧ e.speed = 100 ∧ e.count = 0 ∧ ∀ i : Fin 8, e.list[i] = none) ∧
      (∀ k : MasterSlot,
        t.map.working.masters[k] = { inUse := false, node := 0, role := .fleet, option := .keepOldest } ∧
        t.map.enrolment[k] = { inUse := false, node := 0, role := .fleet, option := .keepOldest }) ∧
      t.map.tag = 0 ∧ t.map.crc = t.map.working.crc ∧
      (∀ p, t.passage p = none) ∧ t.book.arrivals = [] ∧
      (∀ a : ApproachId, t.queue a = [] ∧ t.marks[a] = none ∧
        t.signal a = { latch := .stop, raw := .low, count := 0, filtered := .low, extStop := false, fault := false
                       due := false }) ∧
      (∀ c,
        t.cell c = { holder := none, reservation := none, lock := .none, intruded := false, occupancy := .free
                     stamp := 0, heard := .free } ∧
        t.sensor c = { mode := .active, raw := .free, count := 0 }) ∧
      (∀ k : MasterSlot, t.notices.fifos[k] = { queue := [], lost := false }) ∧ t.notices.pointer = 0 ∧
      t.notices.attempts = 0 ∧ t.notices.lateLoss = false ∧
      t.decoder.service = none ∧ (∀ i : Fin 15, t.decoder.latches[i] = none) ∧ t.pending = s.pending)
end

