-- ==== Sys2Proof/Laws/State.lean ====
section
/-! SUPPORT. What each update of one record leaves and writes, field by field, and what a record reads after a
write. -/

namespace Sys2Proof.Machine

/-! ### setCell -/

@[simp] theorem State.setCell_power (s : State) (c : CellId) (r : CellRec) :
    (s.setCell c r).power = s.power := rfl
@[simp] theorem State.setCell_map (s : State) (c : CellId) (r : CellRec) :
    (s.setCell c r).map = s.map := rfl
@[simp] theorem State.setCell_marks (s : State) (c : CellId) (r : CellRec) :
    (s.setCell c r).marks = s.marks := rfl
@[simp] theorem State.setCell_timer (s : State) (c : CellId) (r : CellRec) :
    (s.setCell c r).timer = s.timer := rfl
@[simp] theorem State.setCell_scanner (s : State) (c : CellId) (r : CellRec) :
    (s.setCell c r).scanner = s.scanner := rfl
@[simp] theorem State.setCell_signals (s : State) (c : CellId) (r : CellRec) :
    (s.setCell c r).signals = s.signals := rfl
@[simp] theorem State.setCell_control (s : State) (c : CellId) (r : CellRec) :
    (s.setCell c r).control = s.control := rfl
@[simp] theorem State.setCell_liu (s : State) (c : CellId) (r : CellRec) :
    (s.setCell c r).liu = s.liu := rfl
@[simp] theorem State.setCell_decoder (s : State) (c : CellId) (r : CellRec) :
    (s.setCell c r).decoder = s.decoder := rfl
@[simp] theorem State.setCell_notices (s : State) (c : CellId) (r : CellRec) :
    (s.setCell c r).notices = s.notices := rfl
@[simp] theorem State.setCell_pending (s : State) (c : CellId) (r : CellRec) :
    (s.setCell c r).pending = s.pending := rfl
@[simp] theorem State.setCell_book_cells (s : State) (c : CellId) (r : CellRec) :
    (s.setCell c r).book.cells = s.book.cells.set c r := rfl
@[simp] theorem State.setCell_book_pool (s : State) (c : CellId) (r : CellRec) :
    (s.setCell c r).book.pool = s.book.pool := rfl
@[simp] theorem State.setCell_book_arrivals (s : State) (c : CellId) (r : CellRec) :
    (s.setCell c r).book.arrivals = s.book.arrivals := rfl
@[simp] theorem State.setCell_book_queues (s : State) (c : CellId) (r : CellRec) :
    (s.setCell c r).book.queues = s.book.queues := rfl

/-! ### setPassage -/

@[simp] theorem State.setPassage_power (s : State) (p : Slot) (q : Option Passage) :
    (s.setPassage p q).power = s.power := rfl
@[simp] theorem State.setPassage_map (s : State) (p : Slot) (q : Option Passage) :
    (s.setPassage p q).map = s.map := rfl
@[simp] theorem State.setPassage_marks (s : State) (p : Slot) (q : Option Passage) :
    (s.setPassage p q).marks = s.marks := rfl
@[simp] theorem State.setPassage_timer (s : State) (p : Slot) (q : Option Passage) :
    (s.setPassage p q).timer = s.timer := rfl
@[simp] theorem State.setPassage_scanner (s : State) (p : Slot) (q : Option Passage) :
    (s.setPassage p q).scanner = s.scanner := rfl
@[simp] theorem State.setPassage_signals (s : State) (p : Slot) (q : Option Passage) :
    (s.setPassage p q).signals = s.signals := rfl
@[simp] theorem State.setPassage_control (s : State) (p : Slot) (q : Option Passage) :
    (s.setPassage p q).control = s.control := rfl
@[simp] theorem State.setPassage_liu (s : State) (p : Slot) (q : Option Passage) :
    (s.setPassage p q).liu = s.liu := rfl
@[simp] theorem State.setPassage_decoder (s : State) (p : Slot) (q : Option Passage) :
    (s.setPassage p q).decoder = s.decoder := rfl
@[simp] theorem State.setPassage_notices (s : State) (p : Slot) (q : Option Passage) :
    (s.setPassage p q).notices = s.notices := rfl
@[simp] theorem State.setPassage_pending (s : State) (p : Slot) (q : Option Passage) :
    (s.setPassage p q).pending = s.pending := rfl
@[simp] theorem State.setPassage_book_pool (s : State) (p : Slot) (q : Option Passage) :
    (s.setPassage p q).book.pool = s.book.pool.set p q := rfl
@[simp] theorem State.setPassage_book_cells (s : State) (p : Slot) (q : Option Passage) :
    (s.setPassage p q).book.cells = s.book.cells := rfl
@[simp] theorem State.setPassage_book_arrivals (s : State) (p : Slot) (q : Option Passage) :
    (s.setPassage p q).book.arrivals = s.book.arrivals := rfl
@[simp] theorem State.setPassage_book_queues (s : State) (p : Slot) (q : Option Passage) :
    (s.setPassage p q).book.queues = s.book.queues := rfl

/-! ### modPassage -/

@[simp] theorem State.modPassage_power (s : State) (p : Slot) (f : Passage → Passage) :
    (s.modPassage p f).power = s.power := rfl
@[simp] theorem State.modPassage_map (s : State) (p : Slot) (f : Passage → Passage) :
    (s.modPassage p f).map = s.map := rfl
@[simp] theorem State.modPassage_marks (s : State) (p : Slot) (f : Passage → Passage) :
    (s.modPassage p f).marks = s.marks := rfl
@[simp] theorem State.modPassage_timer (s : State) (p : Slot) (f : Passage → Passage) :
    (s.modPassage p f).timer = s.timer := rfl
@[simp] theorem State.modPassage_scanner (s : State) (p : Slot) (f : Passage → Passage) :
    (s.modPassage p f).scanner = s.scanner := rfl
@[simp] theorem State.modPassage_signals (s : State) (p : Slot) (f : Passage → Passage) :
    (s.modPassage p f).signals = s.signals := rfl
@[simp] theorem State.modPassage_control (s : State) (p : Slot) (f : Passage → Passage) :
    (s.modPassage p f).control = s.control := rfl
@[simp] theorem State.modPassage_liu (s : State) (p : Slot) (f : Passage → Passage) :
    (s.modPassage p f).liu = s.liu := rfl
@[simp] theorem State.modPassage_decoder (s : State) (p : Slot) (f : Passage → Passage) :
    (s.modPassage p f).decoder = s.decoder := rfl
@[simp] theorem State.modPassage_notices (s : State) (p : Slot) (f : Passage → Passage) :
    (s.modPassage p f).notices = s.notices := rfl
@[simp] theorem State.modPassage_pending (s : State) (p : Slot) (f : Passage → Passage) :
    (s.modPassage p f).pending = s.pending := rfl
@[simp] theorem State.modPassage_book_cells (s : State) (p : Slot) (f : Passage → Passage) :
    (s.modPassage p f).book.cells = s.book.cells := rfl
@[simp] theorem State.modPassage_book_arrivals (s : State) (p : Slot) (f : Passage → Passage) :
    (s.modPassage p f).book.arrivals = s.book.arrivals := rfl
@[simp] theorem State.modPassage_book_queues (s : State) (p : Slot) (f : Passage → Passage) :
    (s.modPassage p f).book.queues = s.book.queues := rfl

/-! ### modDeadline -/

@[simp] theorem State.modDeadline_power (s : State) (p : Slot) (f : Deadline → Deadline) :
    (s.modDeadline p f).power = s.power := rfl
@[simp] theorem State.modDeadline_map (s : State) (p : Slot) (f : Deadline → Deadline) :
    (s.modDeadline p f).map = s.map := rfl
@[simp] theorem State.modDeadline_marks (s : State) (p : Slot) (f : Deadline → Deadline) :
    (s.modDeadline p f).marks = s.marks := rfl
@[simp] theorem State.modDeadline_timer (s : State) (p : Slot) (f : Deadline → Deadline) :
    (s.modDeadline p f).timer = s.timer := rfl
@[simp] theorem State.modDeadline_scanner (s : State) (p : Slot) (f : Deadline → Deadline) :
    (s.modDeadline p f).scanner = s.scanner := rfl
@[simp] theorem State.modDeadline_signals (s : State) (p : Slot) (f : Deadline → Deadline) :
    (s.modDeadline p f).signals = s.signals := rfl
@[simp] theorem State.modDeadline_control (s : State) (p : Slot) (f : Deadline → Deadline) :
    (s.modDeadline p f).control = s.control := rfl
@[simp] theorem State.modDeadline_liu (s : State) (p : Slot) (f : Deadline → Deadline) :
    (s.modDeadline p f).liu = s.liu := rfl
@[simp] theorem State.modDeadline_decoder (s : State) (p : Slot) (f : Deadline → Deadline) :
    (s.modDeadline p f).decoder = s.decoder := rfl
@[simp] theorem State.modDeadline_notices (s : State) (p : Slot) (f : Deadline → Deadline) :
    (s.modDeadline p f).notices = s.notices := rfl
@[simp] theorem State.modDeadline_pending (s : State) (p : Slot) (f : Deadline → Deadline) :
    (s.modDeadline p f).pending = s.pending := rfl
@[simp] theorem State.modDeadline_book_cells (s : State) (p : Slot) (f : Deadline → Deadline) :
    (s.modDeadline p f).book.cells = s.book.cells := rfl
@[simp] theorem State.modDeadline_book_arrivals (s : State) (p : Slot) (f : Deadline → Deadline) :
    (s.modDeadline p f).book.arrivals = s.book.arrivals := rfl
@[simp] theorem State.modDeadline_book_queues (s : State) (p : Slot) (f : Deadline → Deadline) :
    (s.modDeadline p f).book.queues = s.book.queues := rfl

/-! ### modLiveDeadlines -/

@[simp] theorem State.modLiveDeadlines_power (s : State) (f : Deadline → Deadline) :
    (s.modLiveDeadlines f).power = s.power := by rw [State.modLiveDeadlines]
@[simp] theorem State.modLiveDeadlines_map (s : State) (f : Deadline → Deadline) :
    (s.modLiveDeadlines f).map = s.map := by rw [State.modLiveDeadlines]
@[simp] theorem State.modLiveDeadlines_marks (s : State) (f : Deadline → Deadline) :
    (s.modLiveDeadlines f).marks = s.marks := by rw [State.modLiveDeadlines]
@[simp] theorem State.modLiveDeadlines_timer (s : State) (f : Deadline → Deadline) :
    (s.modLiveDeadlines f).timer = s.timer := by rw [State.modLiveDeadlines]
@[simp] theorem State.modLiveDeadlines_scanner (s : State) (f : Deadline → Deadline) :
    (s.modLiveDeadlines f).scanner = s.scanner := by rw [State.modLiveDeadlines]
@[simp] theorem State.modLiveDeadlines_signals (s : State) (f : Deadline → Deadline) :
    (s.modLiveDeadlines f).signals = s.signals := by rw [State.modLiveDeadlines]
@[simp] theorem State.modLiveDeadlines_control (s : State) (f : Deadline → Deadline) :
    (s.modLiveDeadlines f).control = s.control := by rw [State.modLiveDeadlines]
@[simp] theorem State.modLiveDeadlines_liu (s : State) (f : Deadline → Deadline) :
    (s.modLiveDeadlines f).liu = s.liu := by rw [State.modLiveDeadlines]
@[simp] theorem State.modLiveDeadlines_decoder (s : State) (f : Deadline → Deadline) :
    (s.modLiveDeadlines f).decoder = s.decoder := by rw [State.modLiveDeadlines]
@[simp] theorem State.modLiveDeadlines_notices (s : State) (f : Deadline → Deadline) :
    (s.modLiveDeadlines f).notices = s.notices := by rw [State.modLiveDeadlines]
@[simp] theorem State.modLiveDeadlines_pending (s : State) (f : Deadline → Deadline) :
    (s.modLiveDeadlines f).pending = s.pending := by rw [State.modLiveDeadlines]
@[simp] theorem State.modLiveDeadlines_book_cells (s : State) (f : Deadline → Deadline) :
    (s.modLiveDeadlines f).book.cells = s.book.cells := by rw [State.modLiveDeadlines]
@[simp] theorem State.modLiveDeadlines_book_arrivals (s : State) (f : Deadline → Deadline) :
    (s.modLiveDeadlines f).book.arrivals = s.book.arrivals := by rw [State.modLiveDeadlines]
@[simp] theorem State.modLiveDeadlines_book_queues (s : State) (f : Deadline → Deadline) :
    (s.modLiveDeadlines f).book.queues = s.book.queues := by rw [State.modLiveDeadlines]

/-! ### setArrivals -/

@[simp] theorem State.setArrivals_power (s : State) (l : List Slot) :
    (s.setArrivals l).power = s.power := rfl
@[simp] theorem State.setArrivals_map (s : State) (l : List Slot) :
    (s.setArrivals l).map = s.map := rfl
@[simp] theorem State.setArrivals_marks (s : State) (l : List Slot) :
    (s.setArrivals l).marks = s.marks := rfl
@[simp] theorem State.setArrivals_timer (s : State) (l : List Slot) :
    (s.setArrivals l).timer = s.timer := rfl
@[simp] theorem State.setArrivals_scanner (s : State) (l : List Slot) :
    (s.setArrivals l).scanner = s.scanner := rfl
@[simp] theorem State.setArrivals_signals (s : State) (l : List Slot) :
    (s.setArrivals l).signals = s.signals := rfl
@[simp] theorem State.setArrivals_control (s : State) (l : List Slot) :
    (s.setArrivals l).control = s.control := rfl
@[simp] theorem State.setArrivals_liu (s : State) (l : List Slot) :
    (s.setArrivals l).liu = s.liu := rfl
@[simp] theorem State.setArrivals_decoder (s : State) (l : List Slot) :
    (s.setArrivals l).decoder = s.decoder := rfl
@[simp] theorem State.setArrivals_notices (s : State) (l : List Slot) :
    (s.setArrivals l).notices = s.notices := rfl
@[simp] theorem State.setArrivals_pending (s : State) (l : List Slot) :
    (s.setArrivals l).pending = s.pending := rfl
@[simp] theorem State.setArrivals_book_arrivals (s : State) (l : List Slot) :
    (s.setArrivals l).book.arrivals = l := rfl
@[simp] theorem State.setArrivals_book_cells (s : State) (l : List Slot) :
    (s.setArrivals l).book.cells = s.book.cells := rfl
@[simp] theorem State.setArrivals_book_pool (s : State) (l : List Slot) :
    (s.setArrivals l).book.pool = s.book.pool := rfl
@[simp] theorem State.setArrivals_book_queues (s : State) (l : List Slot) :
    (s.setArrivals l).book.queues = s.book.queues := rfl

/-! ### setQueue -/

@[simp] theorem State.setQueue_power (s : State) (a : ApproachId) (l : List Slot) :
    (s.setQueue a l).power = s.power := rfl
@[simp] theorem State.setQueue_map (s : State) (a : ApproachId) (l : List Slot) :
    (s.setQueue a l).map = s.map := rfl
@[simp] theorem State.setQueue_marks (s : State) (a : ApproachId) (l : List Slot) :
    (s.setQueue a l).marks = s.marks := rfl
@[simp] theorem State.setQueue_timer (s : State) (a : ApproachId) (l : List Slot) :
    (s.setQueue a l).timer = s.timer := rfl
@[simp] theorem State.setQueue_scanner (s : State) (a : ApproachId) (l : List Slot) :
    (s.setQueue a l).scanner = s.scanner := rfl
@[simp] theorem State.setQueue_signals (s : State) (a : ApproachId) (l : List Slot) :
    (s.setQueue a l).signals = s.signals := rfl
@[simp] theorem State.setQueue_control (s : State) (a : ApproachId) (l : List Slot) :
    (s.setQueue a l).control = s.control := rfl
@[simp] theorem State.setQueue_liu (s : State) (a : ApproachId) (l : List Slot) :
    (s.setQueue a l).liu = s.liu := rfl
@[simp] theorem State.setQueue_decoder (s : State) (a : ApproachId) (l : List Slot) :
    (s.setQueue a l).decoder = s.decoder := rfl
@[simp] theorem State.setQueue_notices (s : State) (a : ApproachId) (l : List Slot) :
    (s.setQueue a l).notices = s.notices := rfl
@[simp] theorem State.setQueue_pending (s : State) (a : ApproachId) (l : List Slot) :
    (s.setQueue a l).pending = s.pending := rfl
@[simp] theorem State.setQueue_book_queues (s : State) (a : ApproachId) (l : List Slot) :
    (s.setQueue a l).book.queues = s.book.queues.set a l := rfl
@[simp] theorem State.setQueue_book_cells (s : State) (a : ApproachId) (l : List Slot) :
    (s.setQueue a l).book.cells = s.book.cells := rfl
@[simp] theorem State.setQueue_book_pool (s : State) (a : ApproachId) (l : List Slot) :
    (s.setQueue a l).book.pool = s.book.pool := rfl
@[simp] theorem State.setQueue_book_arrivals (s : State) (a : ApproachId) (l : List Slot) :
    (s.setQueue a l).book.arrivals = s.book.arrivals := rfl

/-! ### clearReservations -/

@[simp] theorem State.clearReservations_power (s : State) (p : Slot) :
    (s.clearReservations p).power = s.power := by rw [State.clearReservations]
@[simp] theorem State.clearReservations_map (s : State) (p : Slot) :
    (s.clearReservations p).map = s.map := by rw [State.clearReservations]
@[simp] theorem State.clearReservations_marks (s : State) (p : Slot) :
    (s.clearReservations p).marks = s.marks := by rw [State.clearReservations]
@[simp] theorem State.clearReservations_timer (s : State) (p : Slot) :
    (s.clearReservations p).timer = s.timer := by rw [State.clearReservations]
@[simp] theorem State.clearReservations_scanner (s : State) (p : Slot) :
    (s.clearReservations p).scanner = s.scanner := by rw [State.clearReservations]
@[simp] theorem State.clearReservations_signals (s : State) (p : Slot) :
    (s.clearReservations p).signals = s.signals := by rw [State.clearReservations]
@[simp] theorem State.clearReservations_control (s : State) (p : Slot) :
    (s.clearReservations p).control = s.control := by rw [State.clearReservations]
@[simp] theorem State.clearReservations_liu (s : State) (p : Slot) :
    (s.clearReservations p).liu = s.liu := by rw [State.clearReservations]
@[simp] theorem State.clearReservations_decoder (s : State) (p : Slot) :
    (s.clearReservations p).decoder = s.decoder := by rw [State.clearReservations]
@[simp] theorem State.clearReservations_notices (s : State) (p : Slot) :
    (s.clearReservations p).notices = s.notices := by rw [State.clearReservations]
@[simp] theorem State.clearReservations_pending (s : State) (p : Slot) :
    (s.clearReservations p).pending = s.pending := by rw [State.clearReservations]
@[simp] theorem State.clearReservations_book_pool (s : State) (p : Slot) :
    (s.clearReservations p).book.pool = s.book.pool := by rw [State.clearReservations]
@[simp] theorem State.clearReservations_book_arrivals (s : State) (p : Slot) :
    (s.clearReservations p).book.arrivals = s.book.arrivals := by rw [State.clearReservations]
@[simp] theorem State.clearReservations_book_queues (s : State) (p : Slot) :
    (s.clearReservations p).book.queues = s.book.queues := by rw [State.clearReservations]

/-! ### setMark -/

@[simp] theorem State.setMark_power (s : State) (a : ApproachId) (m : Option Slot) :
    (s.setMark a m).power = s.power := rfl
@[simp] theorem State.setMark_map (s : State) (a : ApproachId) (m : Option Slot) :
    (s.setMark a m).map = s.map := rfl
@[simp] theorem State.setMark_book (s : State) (a : ApproachId) (m : Option Slot) :
    (s.setMark a m).book = s.book := rfl
@[simp] theorem State.setMark_timer (s : State) (a : ApproachId) (m : Option Slot) :
    (s.setMark a m).timer = s.timer := rfl
@[simp] theorem State.setMark_scanner (s : State) (a : ApproachId) (m : Option Slot) :
    (s.setMark a m).scanner = s.scanner := rfl
@[simp] theorem State.setMark_signals (s : State) (a : ApproachId) (m : Option Slot) :
    (s.setMark a m).signals = s.signals := rfl
@[simp] theorem State.setMark_control (s : State) (a : ApproachId) (m : Option Slot) :
    (s.setMark a m).control = s.control := rfl
@[simp] theorem State.setMark_liu (s : State) (a : ApproachId) (m : Option Slot) :
    (s.setMark a m).liu = s.liu := rfl
@[simp] theorem State.setMark_decoder (s : State) (a : ApproachId) (m : Option Slot) :
    (s.setMark a m).decoder = s.decoder := rfl
@[simp] theorem State.setMark_notices (s : State) (a : ApproachId) (m : Option Slot) :
    (s.setMark a m).notices = s.notices := rfl
@[simp] theorem State.setMark_pending (s : State) (a : ApproachId) (m : Option Slot) :
    (s.setMark a m).pending = s.pending := rfl
@[simp] theorem State.setMark_marks (s : State) (a : ApproachId) (m : Option Slot) :
    (s.setMark a m).marks = s.marks.set a m := rfl

/-! ### setSensor -/

@[simp] theorem State.setSensor_power (s : State) (c : CellId) (r : SensorRec) :
    (s.setSensor c r).power = s.power := rfl
@[simp] theorem State.setSensor_map (s : State) (c : CellId) (r : SensorRec) :
    (s.setSensor c r).map = s.map := rfl
@[simp] theorem State.setSensor_book (s : State) (c : CellId) (r : SensorRec) :
    (s.setSensor c r).book = s.book := rfl
@[simp] theorem State.setSensor_marks (s : State) (c : CellId) (r : SensorRec) :
    (s.setSensor c r).marks = s.marks := rfl
@[simp] theorem State.setSensor_timer (s : State) (c : CellId) (r : SensorRec) :
    (s.setSensor c r).timer = s.timer := rfl
@[simp] theorem State.setSensor_signals (s : State) (c : CellId) (r : SensorRec) :
    (s.setSensor c r).signals = s.signals := rfl
@[simp] theorem State.setSensor_control (s : State) (c : CellId) (r : SensorRec) :
    (s.setSensor c r).control = s.control := rfl
@[simp] theorem State.setSensor_liu (s : State) (c : CellId) (r : SensorRec) :
    (s.setSensor c r).liu = s.liu := rfl
@[simp] theorem State.setSensor_decoder (s : State) (c : CellId) (r : SensorRec) :
    (s.setSensor c r).decoder = s.decoder := rfl
@[simp] theorem State.setSensor_notices (s : State) (c : CellId) (r : SensorRec) :
    (s.setSensor c r).notices = s.notices := rfl
@[simp] theorem State.setSensor_pending (s : State) (c : CellId) (r : SensorRec) :
    (s.setSensor c r).pending = s.pending := rfl
@[simp] theorem State.setSensor_scanner_sensors (s : State) (c : CellId) (r : SensorRec) :
    (s.setSensor c r).scanner.sensors = s.scanner.sensors.set c r := rfl

/-! ### setSignal -/

@[simp] theorem State.setSignal_power (s : State) (a : ApproachId) (r : SignalRec) :
    (s.setSignal a r).power = s.power := rfl
@[simp] theorem State.setSignal_map (s : State) (a : ApproachId) (r : SignalRec) :
    (s.setSignal a r).map = s.map := rfl
@[simp] theorem State.setSignal_book (s : State) (a : ApproachId) (r : SignalRec) :
    (s.setSignal a r).book = s.book := rfl
@[simp] theorem State.setSignal_marks (s : State) (a : ApproachId) (r : SignalRec) :
    (s.setSignal a r).marks = s.marks := rfl
@[simp] theorem State.setSignal_timer (s : State) (a : ApproachId) (r : SignalRec) :
    (s.setSignal a r).timer = s.timer := rfl
@[simp] theorem State.setSignal_scanner (s : State) (a : ApproachId) (r : SignalRec) :
    (s.setSignal a r).scanner = s.scanner := rfl
@[simp] theorem State.setSignal_control (s : State) (a : ApproachId) (r : SignalRec) :
    (s.setSignal a r).control = s.control := rfl
@[simp] theorem State.setSignal_liu (s : State) (a : ApproachId) (r : SignalRec) :
    (s.setSignal a r).liu = s.liu := rfl
@[simp] theorem State.setSignal_decoder (s : State) (a : ApproachId) (r : SignalRec) :
    (s.setSignal a r).decoder = s.decoder := rfl
@[simp] theorem State.setSignal_notices (s : State) (a : ApproachId) (r : SignalRec) :
    (s.setSignal a r).notices = s.notices := rfl
@[simp] theorem State.setSignal_pending (s : State) (a : ApproachId) (r : SignalRec) :
    (s.setSignal a r).pending = s.pending := rfl
@[simp] theorem State.setSignal_signals (s : State) (a : ApproachId) (r : SignalRec) :
    (s.setSignal a r).signals = s.signals.set a r := rfl

/-! ### setFifo -/

@[simp] theorem State.setFifo_power (s : State) (k : MasterSlot) (f : Fifo) :
    (s.setFifo k f).power = s.power := rfl
@[simp] theorem State.setFifo_map (s : State) (k : MasterSlot) (f : Fifo) :
    (s.setFifo k f).map = s.map := rfl
@[simp] theorem State.setFifo_book (s : State) (k : MasterSlot) (f : Fifo) :
    (s.setFifo k f).book = s.book := rfl
@[simp] theorem State.setFifo_marks (s : State) (k : MasterSlot) (f : Fifo) :
    (s.setFifo k f).marks = s.marks := rfl
@[simp] theorem State.setFifo_timer (s : State) (k : MasterSlot) (f : Fifo) :
    (s.setFifo k f).timer = s.timer := rfl
@[simp] theorem State.setFifo_scanner (s : State) (k : MasterSlot) (f : Fifo) :
    (s.setFifo k f).scanner = s.scanner := rfl
@[simp] theorem State.setFifo_signals (s : State) (k : MasterSlot) (f : Fifo) :
    (s.setFifo k f).signals = s.signals := rfl
@[simp] theorem State.setFifo_control (s : State) (k : MasterSlot) (f : Fifo) :
    (s.setFifo k f).control = s.control := rfl
@[simp] theorem State.setFifo_liu (s : State) (k : MasterSlot) (f : Fifo) :
    (s.setFifo k f).liu = s.liu := rfl
@[simp] theorem State.setFifo_decoder (s : State) (k : MasterSlot) (f : Fifo) :
    (s.setFifo k f).decoder = s.decoder := rfl
@[simp] theorem State.setFifo_pending (s : State) (k : MasterSlot) (f : Fifo) :
    (s.setFifo k f).pending = s.pending := rfl
@[simp] theorem State.setFifo_notices_fifos (s : State) (k : MasterSlot) (f : Fifo) :
    (s.setFifo k f).notices.fifos = s.notices.fifos.set k f := rfl
@[simp] theorem State.setFifo_notices_pointer (s : State) (k : MasterSlot) (f : Fifo) :
    (s.setFifo k f).notices.pointer = s.notices.pointer := rfl
@[simp] theorem State.setFifo_notices_attempts (s : State) (k : MasterSlot) (f : Fifo) :
    (s.setFifo k f).notices.attempts = s.notices.attempts := rfl
@[simp] theorem State.setFifo_notices_lateLoss (s : State) (k : MasterSlot) (f : Fifo) :
    (s.setFifo k f).notices.lateLoss = s.notices.lateLoss := rfl

/-! ### setLiu -/

@[simp] theorem State.setLiu_power (s : State) (l : Liu) :
    (s.setLiu l).power = s.power := rfl
@[simp] theorem State.setLiu_map (s : State) (l : Liu) :
    (s.setLiu l).map = s.map := rfl
@[simp] theorem State.setLiu_book (s : State) (l : Liu) :
    (s.setLiu l).book = s.book := rfl
@[simp] theorem State.setLiu_marks (s : State) (l : Liu) :
    (s.setLiu l).marks = s.marks := rfl
@[simp] theorem State.setLiu_timer (s : State) (l : Liu) :
    (s.setLiu l).timer = s.timer := rfl
@[simp] theorem State.setLiu_scanner (s : State) (l : Liu) :
    (s.setLiu l).scanner = s.scanner := rfl
@[simp] theorem State.setLiu_signals (s : State) (l : Liu) :
    (s.setLiu l).signals = s.signals := rfl
@[simp] theorem State.setLiu_control (s : State) (l : Liu) :
    (s.setLiu l).control = s.control := rfl
@[simp] theorem State.setLiu_decoder (s : State) (l : Liu) :
    (s.setLiu l).decoder = s.decoder := rfl
@[simp] theorem State.setLiu_notices (s : State) (l : Liu) :
    (s.setLiu l).notices = s.notices := rfl
@[simp] theorem State.setLiu_pending (s : State) (l : Liu) :
    (s.setLiu l).pending = s.pending := rfl
@[simp] theorem State.setLiu_liu (s : State) (l : Liu) :
    (s.setLiu l).liu = l := rfl

/-! ### setControl -/

@[simp] theorem State.setControl_power (s : State) (c : Control) :
    (s.setControl c).power = s.power := rfl
@[simp] theorem State.setControl_map (s : State) (c : Control) :
    (s.setControl c).map = s.map := rfl
@[simp] theorem State.setControl_book (s : State) (c : Control) :
    (s.setControl c).book = s.book := rfl
@[simp] theorem State.setControl_marks (s : State) (c : Control) :
    (s.setControl c).marks = s.marks := rfl
@[simp] theorem State.setControl_timer (s : State) (c : Control) :
    (s.setControl c).timer = s.timer := rfl
@[simp] theorem State.setControl_scanner (s : State) (c : Control) :
    (s.setControl c).scanner = s.scanner := rfl
@[simp] theorem State.setControl_signals (s : State) (c : Control) :
    (s.setControl c).signals = s.signals := rfl
@[simp] theorem State.setControl_liu (s : State) (c : Control) :
    (s.setControl c).liu = s.liu := rfl
@[simp] theorem State.setControl_decoder (s : State) (c : Control) :
    (s.setControl c).decoder = s.decoder := rfl
@[simp] theorem State.setControl_notices (s : State) (c : Control) :
    (s.setControl c).notices = s.notices := rfl
@[simp] theorem State.setControl_pending (s : State) (c : Control) :
    (s.setControl c).pending = s.pending := rfl
@[simp] theorem State.setControl_control (s : State) (c : Control) :
    (s.setControl c).control = c := rfl

/-! ### setWorking -/

@[simp] theorem State.setWorking_power (s : State) (m : WorkingMap) :
    (s.setWorking m).power = s.power := rfl
@[simp] theorem State.setWorking_book (s : State) (m : WorkingMap) :
    (s.setWorking m).book = s.book := rfl
@[simp] theorem State.setWorking_marks (s : State) (m : WorkingMap) :
    (s.setWorking m).marks = s.marks := rfl
@[simp] theorem State.setWorking_timer (s : State) (m : WorkingMap) :
    (s.setWorking m).timer = s.timer := rfl
@[simp] theorem State.setWorking_scanner (s : State) (m : WorkingMap) :
    (s.setWorking m).scanner = s.scanner := rfl
@[simp] theorem State.setWorking_signals (s : State) (m : WorkingMap) :
    (s.setWorking m).signals = s.signals := rfl
@[simp] theorem State.setWorking_control (s : State) (m : WorkingMap) :
    (s.setWorking m).control = s.control := rfl
@[simp] theorem State.setWorking_liu (s : State) (m : WorkingMap) :
    (s.setWorking m).liu = s.liu := rfl
@[simp] theorem State.setWorking_decoder (s : State) (m : WorkingMap) :
    (s.setWorking m).decoder = s.decoder := rfl
@[simp] theorem State.setWorking_notices (s : State) (m : WorkingMap) :
    (s.setWorking m).notices = s.notices := rfl
@[simp] theorem State.setWorking_pending (s : State) (m : WorkingMap) :
    (s.setWorking m).pending = s.pending := rfl
@[simp] theorem State.setWorking_map_working (s : State) (m : WorkingMap) :
    (s.setWorking m).map.working = m := rfl
@[simp] theorem State.setWorking_map_tag (s : State) (m : WorkingMap) :
    (s.setWorking m).map.tag = s.map.tag := rfl
@[simp] theorem State.setWorking_map_crc (s : State) (m : WorkingMap) :
    (s.setWorking m).map.crc = s.map.crc := rfl
@[simp] theorem State.setWorking_map_enrolment (s : State) (m : WorkingMap) :
    (s.setWorking m).map.enrolment = s.map.enrolment := rfl

/-! ### recordError -/

@[simp] theorem State.recordError_power (s : State) (k : LineError) :
    (s.recordError k).power = s.power := rfl
@[simp] theorem State.recordError_map (s : State) (k : LineError) :
    (s.recordError k).map = s.map := rfl
@[simp] theorem State.recordError_book (s : State) (k : LineError) :
    (s.recordError k).book = s.book := rfl
@[simp] theorem State.recordError_marks (s : State) (k : LineError) :
    (s.recordError k).marks = s.marks := rfl
@[simp] theorem State.recordError_timer (s : State) (k : LineError) :
    (s.recordError k).timer = s.timer := rfl
@[simp] theorem State.recordError_scanner (s : State) (k : LineError) :
    (s.recordError k).scanner = s.scanner := rfl
@[simp] theorem State.recordError_signals (s : State) (k : LineError) :
    (s.recordError k).signals = s.signals := rfl
@[simp] theorem State.recordError_control (s : State) (k : LineError) :
    (s.recordError k).control = s.control := rfl
@[simp] theorem State.recordError_decoder (s : State) (k : LineError) :
    (s.recordError k).decoder = s.decoder := rfl
@[simp] theorem State.recordError_notices (s : State) (k : LineError) :
    (s.recordError k).notices = s.notices := rfl
@[simp] theorem State.recordError_pending (s : State) (k : LineError) :
    (s.recordError k).pending = s.pending := rfl
@[simp] theorem State.recordError_liu_line (s : State) (k : LineError) :
    (s.recordError k).liu.line = s.liu.line := rfl
@[simp] theorem State.recordError_liu_pulse (s : State) (k : LineError) :
    (s.recordError k).liu.pulse = s.liu.pulse := rfl
@[simp] theorem State.recordError_liu_own (s : State) (k : LineError) :
    (s.recordError k).liu.own = s.liu.own := rfl
@[simp] theorem State.recordError_liu_shifter (s : State) (k : LineError) :
    (s.recordError k).liu.shifter = s.liu.shifter := rfl
@[simp] theorem State.recordError_liu_staged (s : State) (k : LineError) :
    (s.recordError k).liu.staged = s.liu.staged := rfl
@[simp] theorem State.recordError_liu_attempt (s : State) (k : LineError) :
    (s.recordError k).liu.attempt = s.liu.attempt := rfl
@[simp] theorem State.recordError_liu_tail (s : State) (k : LineError) :
    (s.recordError k).liu.tail = s.liu.tail := rfl
@[simp] theorem State.recordError_liu_rx (s : State) (k : LineError) :
    (s.recordError k).liu.rx = s.liu.rx := rfl

/-! ### sendHaltPulse -/

@[simp] theorem State.sendHaltPulse_power (s : State) :
    (s.sendHaltPulse).power = s.power := rfl
@[simp] theorem State.sendHaltPulse_map (s : State) :
    (s.sendHaltPulse).map = s.map := rfl
@[simp] theorem State.sendHaltPulse_book (s : State) :
    (s.sendHaltPulse).book = s.book := rfl
@[simp] theorem State.sendHaltPulse_marks (s : State) :
    (s.sendHaltPulse).marks = s.marks := rfl
@[simp] theorem State.sendHaltPulse_timer (s : State) :
    (s.sendHaltPulse).timer = s.timer := rfl
@[simp] theorem State.sendHaltPulse_scanner (s : State) :
    (s.sendHaltPulse).scanner = s.scanner := rfl
@[simp] theorem State.sendHaltPulse_signals (s : State) :
    (s.sendHaltPulse).signals = s.signals := rfl
@[simp] theorem State.sendHaltPulse_control (s : State) :
    (s.sendHaltPulse).control = s.control := rfl
@[simp] theorem State.sendHaltPulse_decoder (s : State) :
    (s.sendHaltPulse).decoder = s.decoder := rfl
@[simp] theorem State.sendHaltPulse_notices (s : State) :
    (s.sendHaltPulse).notices = s.notices := rfl
@[simp] theorem State.sendHaltPulse_pending (s : State) :
    (s.sendHaltPulse).pending = s.pending := rfl
@[simp] theorem State.sendHaltPulse_liu_line (s : State) :
    (s.sendHaltPulse).liu.line = s.liu.line := rfl
@[simp] theorem State.sendHaltPulse_liu_shifter (s : State) :
    (s.sendHaltPulse).liu.shifter = s.liu.shifter := rfl
@[simp] theorem State.sendHaltPulse_liu_staged (s : State) :
    (s.sendHaltPulse).liu.staged = s.liu.staged := rfl
@[simp] theorem State.sendHaltPulse_liu_error (s : State) :
    (s.sendHaltPulse).liu.error = s.liu.error := rfl
@[simp] theorem State.sendHaltPulse_liu_own (s : State) :
    (s.sendHaltPulse).liu.own = s.liu.own := rfl
@[simp] theorem State.sendHaltPulse_liu_pulse (s : State) :
    (s.sendHaltPulse).liu.pulse = some 0 := rfl

/-! ### readFrame -/

@[simp] theorem State.readFrame_power (s : State) (f : Frame) :
    (s.readFrame f).power = s.power := rfl
@[simp] theorem State.readFrame_map (s : State) (f : Frame) :
    (s.readFrame f).map = s.map := rfl
@[simp] theorem State.readFrame_book (s : State) (f : Frame) :
    (s.readFrame f).book = s.book := rfl
@[simp] theorem State.readFrame_marks (s : State) (f : Frame) :
    (s.readFrame f).marks = s.marks := rfl
@[simp] theorem State.readFrame_timer (s : State) (f : Frame) :
    (s.readFrame f).timer = s.timer := rfl
@[simp] theorem State.readFrame_scanner (s : State) (f : Frame) :
    (s.readFrame f).scanner = s.scanner := rfl
@[simp] theorem State.readFrame_signals (s : State) (f : Frame) :
    (s.readFrame f).signals = s.signals := rfl
@[simp] theorem State.readFrame_control (s : State) (f : Frame) :
    (s.readFrame f).control = s.control := rfl
@[simp] theorem State.readFrame_decoder (s : State) (f : Frame) :
    (s.readFrame f).decoder = s.decoder := rfl
@[simp] theorem State.readFrame_notices (s : State) (f : Frame) :
    (s.readFrame f).notices = s.notices := rfl
@[simp] theorem State.readFrame_pending (s : State) (f : Frame) :
    (s.readFrame f).pending = s.pending := rfl
@[simp] theorem State.readFrame_liu_line (s : State) (f : Frame) :
    (s.readFrame f).liu.line = LineState.busy := rfl
@[simp] theorem State.readFrame_liu_shifter (s : State) (f : Frame) :
    (s.readFrame f).liu.shifter = s.liu.shifter := rfl
@[simp] theorem State.readFrame_liu_staged (s : State) (f : Frame) :
    (s.readFrame f).liu.staged = s.liu.staged := rfl
@[simp] theorem State.readFrame_liu_attempt (s : State) (f : Frame) :
    (s.readFrame f).liu.attempt = s.liu.attempt := rfl
@[simp] theorem State.readFrame_liu_error (s : State) (f : Frame) :
    (s.readFrame f).liu.error = s.liu.error := rfl
@[simp] theorem State.readFrame_liu_own (s : State) (f : Frame) :
    (s.readFrame f).liu.own = s.liu.own := rfl
@[simp] theorem State.readFrame_liu_pulse (s : State) (f : Frame) :
    (s.readFrame f).liu.pulse = s.liu.pulse := rfl
@[simp] theorem State.readFrame_liu_tail (s : State) (f : Frame) :
    (s.readFrame f).liu.tail = (none : Option Tail) := rfl

/-! ### giveTail -/

@[simp] theorem State.giveTail_power (s : State) (v : Verdict) :
    (s.giveTail v).power = s.power := rfl
@[simp] theorem State.giveTail_map (s : State) (v : Verdict) :
    (s.giveTail v).map = s.map := rfl
@[simp] theorem State.giveTail_book (s : State) (v : Verdict) :
    (s.giveTail v).book = s.book := rfl
@[simp] theorem State.giveTail_marks (s : State) (v : Verdict) :
    (s.giveTail v).marks = s.marks := rfl
@[simp] theorem State.giveTail_timer (s : State) (v : Verdict) :
    (s.giveTail v).timer = s.timer := rfl
@[simp] theorem State.giveTail_scanner (s : State) (v : Verdict) :
    (s.giveTail v).scanner = s.scanner := rfl
@[simp] theorem State.giveTail_signals (s : State) (v : Verdict) :
    (s.giveTail v).signals = s.signals := rfl
@[simp] theorem State.giveTail_control (s : State) (v : Verdict) :
    (s.giveTail v).control = s.control := rfl
@[simp] theorem State.giveTail_decoder (s : State) (v : Verdict) :
    (s.giveTail v).decoder = s.decoder := rfl
@[simp] theorem State.giveTail_notices (s : State) (v : Verdict) :
    (s.giveTail v).notices = s.notices := rfl
@[simp] theorem State.giveTail_pending (s : State) (v : Verdict) :
    (s.giveTail v).pending = s.pending := rfl
@[simp] theorem State.giveTail_liu_tail (s : State) (v : Verdict) :
    (s.giveTail v).liu.tail = some { verdict := v, sending := true } := rfl
@[simp] theorem State.giveTail_liu_line (s : State) (v : Verdict) :
    (s.giveTail v).liu.line = s.liu.line := rfl
@[simp] theorem State.giveTail_liu_rx (s : State) (v : Verdict) :
    (s.giveTail v).liu.rx = s.liu.rx := rfl
@[simp] theorem State.giveTail_liu_shifter (s : State) (v : Verdict) :
    (s.giveTail v).liu.shifter = s.liu.shifter := rfl
@[simp] theorem State.giveTail_liu_staged (s : State) (v : Verdict) :
    (s.giveTail v).liu.staged = s.liu.staged := rfl
@[simp] theorem State.giveTail_liu_attempt (s : State) (v : Verdict) :
    (s.giveTail v).liu.attempt = s.liu.attempt := rfl
@[simp] theorem State.giveTail_liu_error (s : State) (v : Verdict) :
    (s.giveTail v).liu.error = s.liu.error := rfl
@[simp] theorem State.giveTail_liu_own (s : State) (v : Verdict) :
    (s.giveTail v).liu.own = s.liu.own := rfl
@[simp] theorem State.giveTail_liu_pulse (s : State) (v : Verdict) :
    (s.giveTail v).liu.pulse = s.liu.pulse := rfl

/-! ### Reading a record after a write -/

@[simp] theorem State.cell_setCell (s : State) (c d : CellId) (r : CellRec) :
    (s.setCell c r).cell d = if c = d then r else s.cell d := by
  simp [State.cell, State.setCell, Vector.getElem_set, Fin.ext_iff]

@[simp] theorem State.passage_setPassage (s : State) (p x : Slot) (q : Option Passage) :
    (s.setPassage p q).passage x = if p = x then q else s.passage x := by
  simp [State.passage, State.setPassage, Vector.getElem_set, Fin.ext_iff]

@[simp] theorem State.signal_setSignal (s : State) (a b : ApproachId) (r : SignalRec) :
    (s.setSignal a r).signal b = if a = b then r else s.signal b := by
  simp [State.signal, State.setSignal, Vector.getElem_set, Fin.ext_iff]

@[simp] theorem State.sensor_setSensor (s : State) (c d : CellId) (r : SensorRec) :
    (s.setSensor c r).sensor d = if c = d then r else s.sensor d := by
  simp [State.sensor, State.setSensor, Vector.getElem_set, Fin.ext_iff]

@[simp] theorem State.queue_setQueue (s : State) (a b : ApproachId) (l : List Slot) :
    (s.setQueue a l).queue b = if a = b then l else s.queue b := by
  simp [State.queue, State.setQueue, Vector.getElem_set, Fin.ext_iff]

theorem State.fifo_setFifo (s : State) (k j : MasterSlot) (f : Fifo) :
    (s.setFifo k f).notices.fifos[j] = if k = j then f else s.notices.fifos[j] := by
  simp [State.setFifo, Vector.getElem_set, Fin.ext_iff]

theorem State.passage_modPassage (s : State) (p x : Slot) (f : Passage → Passage) :
    (s.modPassage p f).passage x = if p = x then (s.passage p).map f else s.passage x := by
  simp [State.modPassage]

theorem State.passage_modDeadline (s : State) (p x : Slot) (f : Deadline → Deadline) :
    (s.modDeadline p f).passage x =
      if p = x then (s.passage p).map fun q => { q with deadline := f q.deadline } else s.passage x := by
  simp [State.modDeadline, State.passage_modPassage]

theorem State.passage_modLiveDeadlines (s : State) (x : Slot) (f : Deadline → Deadline) :
    (s.modLiveDeadlines f).passage x =
      (s.passage x).map fun q => if q.live then { q with deadline := f q.deadline } else q := by
  simp [State.modLiveDeadlines, State.passage]

theorem State.cell_clearReservations (s : State) (p : Slot) (c : CellId) :
    (s.clearReservations p).cell c =
      if (s.cell c).reservation = some p then { s.cell c with reservation := none } else s.cell c := by
  simp [State.clearReservations, State.cell]

/-- A record that an update of the book's cells leaves alone reads as before. -/
theorem State.cell_congr {s t : State} (h : t.book.cells = s.book.cells) (c : CellId) : t.cell c = s.cell c := by
  simp [State.cell, h]

theorem State.passage_congr {s t : State} (h : t.book.pool = s.book.pool) (p : Slot) : t.passage p = s.passage p := by
  simp [State.passage, h]

theorem State.signal_congr {s t : State} (h : t.signals = s.signals) (a : ApproachId) : t.signal a = s.signal a := by
  simp [State.signal, h]

end Sys2Proof.Machine
end

