-- ==== Sys2Proof/Laws/Commands.lean ====
section
/-! SUPPORT. What a frame command and an event can do, said once for all their meanings. -/

namespace Sys2Proof.Machine

/-- Everything that a heard frame says of the line: the part is not sending, and the frame begins on the idle line or
goes on from what the LIU has read (R133). -/
theorem State.hears_cases {s : State} {raw : RawFrame} (h : s.hears raw = true) :
    s.power.phase = .running ∧ s.liu.pulse = none ∧ s.liu.attempt = none ∧
      (s.liu.line = .idle ∨ s.liu.line = .busy ∧ ∃ rx, s.liu.rx = some rx ∧ rx.continuedBy raw = true) := by
  simp only [State.hears, Bool.and_eq_true, decide_eq_true_eq] at h
  obtain ⟨⟨⟨hp, hl⟩, ha⟩, h⟩ := h
  refine ⟨hp, hl, ha, ?_⟩
  split at h
  · exact .inl (by assumption)
  · exact .inr ⟨by assumption, _, by assumption, h⟩
  · cases h

/-- On the idle line every frame is heard, unless the part itself sends (R133). -/
theorem State.hears_of_idle {s : State} (hp : s.power.phase = .running) (hl : s.liu.line = .idle)
    (hu : s.liu.pulse = none) (ha : s.liu.attempt = none) (raw : RawFrame) : s.hears raw = true := by
  simp [State.hears, hp, hl, hu, ha]

/-- On a BUSY line that the LIU does not follow no frame is heard (R133, R137). -/
theorem State.hears_unfollowed {s : State} (hl : s.liu.line = .busy) (hr : s.liu.rx = none) (raw : RawFrame) :
    s.hears raw = false := by
  simp [State.hears, hl, hr]

/-- After a frame no other frame is heard before the line is idle (R133). -/
@[simp] theorem State.hears_readFrame (s : State) (f : Frame) (raw : RawFrame) : (s.readFrame f).hears raw = false := by
  simp [State.hears, State.readFrame, State.setLiu, Receive.continuedBy]

/-- Everything a frame command can do (R135, R143): nothing, if the frame is not heard; else it is read, and gets no
tail, or a refusal, or its owner's work with the owner's verdict. -/
theorem onFrame_cases {c : Instr} {s t : State} {owner : State → State × Verdict}
    (h : onFrame c s owner = .next t) :
    t = s ∨ ∃ f, frameOf c = some f ∧ s.hearsFrame f = true ∧
      (((s.readFrame f).judge f.kind f.head.src = .noTail ∧ t = s.readFrame f) ∨
        (∃ v, (s.readFrame f).judge f.kind f.head.src = .refuse v ∧ t = (s.readFrame f).giveTail v) ∨
        ((s.readFrame f).judge f.kind f.head.src = .take ∧
          t = (owner (s.readFrame f)).1.giveTail (owner (s.readFrame f)).2)) := by
  unfold onFrame at h
  split at h
  · cases h; exact .inl rfl
  · rename_i f hf
    split at h
    · cases h; exact .inl rfl
    · rename_i hh
      refine .inr ⟨f, hf, by simpa using hh, ?_⟩
      simp only at h
      split at h
      · cases h; exact .inl ⟨by assumption, rfl⟩
      · cases h; exact .inr (.inl ⟨_, by assumption, rfl⟩)
      · cases h; exact .inr (.inr ⟨by assumption, rfl⟩)

/-- A frame that is heard and taken does its owner's work. -/
theorem onFrame_take {c : Instr} {s : State} {owner : State → State × Verdict} {f : Frame}
    (hf : frameOf c = some f) (hh : s.hearsFrame f = true)
    (hj : (s.readFrame f).judge f.kind f.head.src = .take) :
    onFrame c s owner = .next ((owner (s.readFrame f)).1.giveTail (owner (s.readFrame f)).2) := by
  simp [onFrame, hf, hh, hj]

/-- Reading a frame changes nothing that the Decoder judges by. -/
@[simp] theorem State.judge_readFrame (s : State) (f : Frame) (k : Kind) (n : Node) :
    (s.readFrame f).judge k n = s.judge k n := rfl

/-- A LOAD_* frame or COMMIT_MAP does its owner's work for the service node alone (R7). -/
theorem onServiceFrame_take {c : Instr} {n : Node} {s : State} {owner : State → State × Verdict} {f : Frame}
    (hf : frameOf c = some f) (hh : s.hearsFrame f = true) (hj : s.judge f.kind f.head.src = .take)
    (hn : s.decoder.service = some n) :
    onServiceFrame c n s owner = .next ((owner (s.readFrame f)).1.giveTail (owner (s.readFrame f)).2) := by
  rw [onServiceFrame, onFrame_take hf hh hj]
  simp [hn]

/-- Everything an event can do: nothing during hardware reset, its own work otherwise. -/
theorem whenRunning_eq {s t : State} {f : State → State} (h : s.whenRunning f = .next t) :
    t = s ∨ s.power.phase = .running ∧ t = f s := by
  unfold State.whenRunning at h
  split at h
  · cases h; exact .inr ⟨by assumption, rfl⟩
  · cases h; exact .inl rfl

/-- An event does its own work while the part runs. -/
theorem whenRunning_running {s : State} {f : State → State} (h : s.power.phase = .running) :
    s.whenRunning f = .next (f s) := by
  simp [State.whenRunning, h]

end Sys2Proof.Machine
end

