-- ==== Sys2Proof/Laws/Completion.lean ====
section
/-! SUPPORT. Every command of the part completes: no command faults, and none is refused. -/

namespace Sys2Proof.Machine

/-- A frame command completes. -/
theorem onFrame_next (c : Instr) (s : State) (owner : State → State × Verdict) :
    ∃ t, onFrame c s owner = .next t := by
  unfold onFrame
  split
  · exact ⟨_, rfl⟩
  · split
    · exact ⟨_, rfl⟩
    · simp only
      split <;> exact ⟨_, rfl⟩

/-- A command completes in every state. -/
theorem exec_next (c : Instr) (s : State) : ∃ t, exec c s = .next t := by
  cases c
  all_goals first
    | exact ⟨_, rfl⟩
    | (simp only [exec, execIdentify, execLinePattern, execQueryJunctionPart1, execQueryJunctionPart2, execQueryPassage,
         execQueryCell, execQueryLine, execRequestPassage, execWithdraw, execLockCells, execUnlockCells,
         execSetSensor, execForceRelease, execDrain, execResume, execRestart, execOpenService,
         execLoadOptions, execLoadCell, execLoadApproach, execLoadRoute, execLoadRouteCells, execLoadMaster,
         execCommitMap, onServiceFrame]
       exact onFrame_next _ _ _)

/-- A step completes in every state. -/
theorem step_next (s : State) : ∃ t, step s = .next t := by
  unfold step
  split
  · exact ⟨_, rfl⟩
  · exact exec_next _ _

end Sys2Proof.Machine
end

