-- ==== Sys2Proof/Laws/Outer.lean ====
section
/-! SUPPORT. What the work of an event on the book, the latches and the notices leaves alone: the frame lemma of every
shared operation, said once over `State.outer`. -/

namespace Sys2Proof.Machine

/-- The LIU without its transmit shifter, staged buffer and attempt. -/
structure OuterLiu where
  line : LineState
  rx : Option Receive
  tail : Option Tail
  error : ErrorRecord
  own : Node
  pulse : Option Nat

/-- What no work on the book, on the latches or on the notices writes. -/
structure Outer where
  power : Power
  map : MapStore
  timer : Timer
  decoder : Decoder
  pending : List Instr
  liu : OuterLiu

/-- The LIU without its transmit side. -/
def Liu.outer (l : Liu) : OuterLiu :=
  { line := l.line, rx := l.rx, tail := l.tail, error := l.error, own := l.own, pulse := l.pulse }

/-- The part of the state that no work on the book, on the latches or on the notices writes. -/
def State.outer (s : State) : Outer :=
  { power := s.power, map := s.map, timer := s.timer, decoder := s.decoder, pending := s.pending
    liu := s.liu.outer }

/-- Two states agree in their outer part, in the Mode Controller and in the Sensor Scanner, and the FIFOs of the
second are bounded if those of the first are. -/
def Keeps (s t : State) : Prop :=
  t.outer = s.outer ∧ t.control = s.control ∧ t.scanner = s.scanner ∧ (s.FifosBounded → t.FifosBounded)

theorem Keeps.rfl {s : State} : Keeps s s := ⟨.refl _, .refl _, .refl _, id⟩

theorem Keeps.trans {s t u : State} (h : Keeps s t) (k : Keeps t u) : Keeps s u :=
  ⟨k.1.trans h.1, k.2.1.trans h.2.1, k.2.2.1.trans h.2.2.1, fun i => k.2.2.2 (h.2.2.2 i)⟩

theorem Keeps.power {s t : State} (h : Keeps s t) : t.power = s.power := congrArg Outer.power h.1
theorem Keeps.map {s t : State} (h : Keeps s t) : t.map = s.map := congrArg Outer.map h.1
theorem Keeps.timer {s t : State} (h : Keeps s t) : t.timer = s.timer := congrArg Outer.timer h.1
theorem Keeps.decoder {s t : State} (h : Keeps s t) : t.decoder = s.decoder := congrArg Outer.decoder h.1
theorem Keeps.pending {s t : State} (h : Keeps s t) : t.pending = s.pending := congrArg Outer.pending h.1
theorem Keeps.liu {s t : State} (h : Keeps s t) : t.liu.outer = s.liu.outer := congrArg Outer.liu h.1
theorem Keeps.control {s t : State} (h : Keeps s t) : t.control = s.control := h.2.1
theorem Keeps.scanner {s t : State} (h : Keeps s t) : t.scanner = s.scanner := h.2.2.1
theorem Keeps.fifos {s t : State} (h : Keeps s t) (i : s.FifosBounded) : t.FifosBounded := h.2.2.2 i

/-- A fold of steps that each keep the outer part keeps it. -/
theorem keeps_foldl {α : Type} {f : State → α → State} (h : ∀ s x, Keeps s (f s x)) (l : List α) (s : State) :
    Keeps s (l.foldl f s) := by
  induction l generalizing s with
  | nil => exact .rfl
  | cons x rest ih => exact (h s x).trans (ih _)

/-! ### Notices: only the Notice Unit and the transmit side of the LIU change -/

/-- Only the Notice Unit and the transmit side of the LIU may differ. -/
def KeepsBook (s t : State) : Prop :=
  Keeps s t ∧ t.book = s.book ∧ t.marks = s.marks ∧ t.signals = s.signals

theorem KeepsBook.rfl {s : State} : KeepsBook s s := ⟨.rfl, .refl _, .refl _, .refl _⟩

theorem KeepsBook.trans {s t u : State} (h : KeepsBook s t) (k : KeepsBook t u) : KeepsBook s u :=
  ⟨h.1.trans k.1, k.2.1.trans h.2.1, k.2.2.1.trans h.2.2.1, k.2.2.2.trans h.2.2.2⟩

theorem keepsBook_foldl {α : Type} {f : State → α → State} (h : ∀ s x, KeepsBook s (f s x)) (l : List α)
    (s : State) : KeepsBook s (l.foldl f s) := by
  induction l generalizing s with
  | nil => exact .rfl
  | cons x rest ih => exact (h s x).trans (ih _)

theorem State.select_keepsBook (s : State) : KeepsBook s s.select := by
  unfold State.select
  split <;> exact ⟨⟨.refl _, .refl _, .refl _, id⟩, .refl _, .refl _, .refl _⟩

theorem State.promote_keepsBook (s : State) : KeepsBook s s.promote := by
  unfold State.promote
  split <;> exact ⟨⟨.refl _, .refl _, .refl _, id⟩, .refl _, .refl _, .refl _⟩

theorem State.refill_keepsBook (s : State) : KeepsBook s s.refill :=
  (s.promote_keepsBook.trans (State.select_keepsBook _)).trans (State.select_keepsBook _)

/-- A write of one FIFO that stays within its depth. -/
theorem State.setFifo_keepsBook (s : State) (k : MasterSlot) (f : Fifo)
    (h : s.FifosBounded → f.queue.length ≤ Config.fifoDepth) : KeepsBook s (s.setFifo k f) := by
  refine ⟨⟨.refl _, .refl _, .refl _, fun i j => ?_⟩, .refl _, .refl _, .refl _⟩
  rw [State.fifo_setFifo]
  split
  · exact h i
  · exact i j

/-- What the two options leave of a full FIFO for the newcomer (R160). -/
theorem kept_length (inShifter : Bool) (q : List Notice) (n : Notice) (h : ¬ q.length < Config.fifoDepth)
    (i : q.length ≤ Config.fifoDepth) :
    ((if inShifter then q.take 1 ++ q.drop 2 else q.drop 1) ++ [n]).length ≤ Config.fifoDepth := by
  unfold Config.fifoDepth at *
  cases inShifter <;> simp <;> omega

/-- The late-loss mark is set. -/
theorem State.lateLoss_keepsBook (s : State) (b : Bool) :
    KeepsBook s { s with notices := { s.notices with lateLoss := b } } :=
  ⟨⟨.refl _, .refl _, .refl _, id⟩, .refl _, .refl _, .refl _⟩

/-- The staged buffer is emptied. -/
theorem State.unstage_keepsBook (s : State) : KeepsBook s (s.setLiu { s.liu with staged := none }) :=
  ⟨⟨.refl _, .refl _, .refl _, id⟩, .refl _, .refl _, .refl _⟩

theorem State.enqueue_keepsBook (s : State) (k : MasterSlot) (n : Notice) : KeepsBook s (s.enqueue k n) := by
  unfold State.enqueue
  simp only
  split
  · exact .rfl
  · split
    · refine (s.setFifo_keepsBook _ _ fun i => ?_).trans (State.refill_keepsBook _)
      simp; omega
    · rename_i hfull
      have late : KeepsBook s
          (if s.shifterSlot = some k then { s with notices := { s.notices with lateLoss := true } } else s) := by
        split
        · exact s.lateLoss_keepsBook true
        · exact .rfl
      have same : (if s.shifterSlot = some k then { s with notices := { s.notices with lateLoss := true } }
          else s).FifosBounded → s.FifosBounded := by
        split <;> exact id
      split
      · refine KeepsBook.trans ?_ (State.setFifo_keepsBook _ _ _ fun i => ?_)
        · simpa using late
        · exact same (by simpa using i) k
      · refine KeepsBook.trans ?_ (State.refill_keepsBook _)
        refine KeepsBook.trans (late.trans (State.setFifo_keepsBook _ k
          { queue := (if decide (s.shifterSlot = some k) then
              s.notices.fifos[k].queue.take 1 ++ s.notices.fifos[k].queue.drop 2
              else s.notices.fifos[k].queue.drop 1) ++ [n], lost := true }
          fun i => kept_length _ _ _ hfull (same i k))) ?_
        by_cases hs : s.shifterSlot = some k
        · simp only [hs]
          exact .rfl
        · simp only [hs]
          by_cases ht : s.liu.staged.map TxFrame.slot = some k
          · simp [ht]
            exact State.unstage_keepsBook _
          · simp [ht]
            exact .rfl

theorem State.postTo_keepsBook (s : State) (l : List MasterSlot) (n : Notice) : KeepsBook s (s.postTo l n) :=
  keepsBook_foldl (fun s k => s.enqueue_keepsBook k n) l s

theorem State.postSafety_keepsBook (s : State) (n : Notice) : KeepsBook s (s.postSafety n) :=
  s.postTo_keepsBook _ n

theorem State.postOwner_keepsBook (s : State) (b : NoticeBody) (p : Slot) (q : Passage) :
    KeepsBook s (s.postOwner b p q) := s.postTo_keepsBook _ _

theorem State.postOwnerAndSafety_keepsBook (s : State) (b : NoticeBody) (p : Slot) (q : Passage) :
    KeepsBook s (s.postOwnerAndSafety b p q) := s.postTo_keepsBook _ _

theorem State.postMode_keepsBook (s : State) : KeepsBook s s.postMode := s.postTo_keepsBook _ _

/-! ### Records of the book, latches and marks -/

theorem State.setCell_keeps (s : State) (c : CellId) (r : CellRec) : Keeps s (s.setCell c r) :=
  ⟨.refl _, .refl _, .refl _, id⟩

theorem State.setPassage_keeps (s : State) (p : Slot) (q : Option Passage) : Keeps s (s.setPassage p q) :=
  ⟨.refl _, .refl _, .refl _, id⟩

theorem State.modPassage_keeps (s : State) (p : Slot) (f : Passage → Passage) : Keeps s (s.modPassage p f) :=
  ⟨.refl _, .refl _, .refl _, id⟩

theorem State.modDeadline_keeps (s : State) (p : Slot) (f : Deadline → Deadline) : Keeps s (s.modDeadline p f) :=
  ⟨.refl _, .refl _, .refl _, id⟩

theorem State.modLiveDeadlines_keeps (s : State) (f : Deadline → Deadline) : Keeps s (s.modLiveDeadlines f) := by
  simp [Keeps, State.outer, State.FifosBounded]

theorem State.clearReservations_keeps (s : State) (p : Slot) : Keeps s (s.clearReservations p) := by
  simp [Keeps, State.outer, State.FifosBounded]

theorem State.setMark_keeps (s : State) (a : ApproachId) (m : Option Slot) : Keeps s (s.setMark a m) :=
  ⟨.refl _, .refl _, .refl _, id⟩

theorem State.setSignal_keeps (s : State) (a : ApproachId) (r : SignalRec) : Keeps s (s.setSignal a r) :=
  ⟨.refl _, .refl _, .refl _, id⟩

theorem State.setLatch_keeps (s : State) (a : ApproachId) (l : Latch) : Keeps s (s.setLatch a l) := by
  unfold State.setLatch
  simp only
  split
  · exact .rfl
  · split
    · split
      · exact s.setSignal_keeps _ _
      · exact (s.setSignal_keeps _ _).trans (State.modDeadline_keeps _ _ _)
    · exact s.setSignal_keeps _ _

/-- The records of the Signal Unit after one latch is set: that of its approach as R106 and R108 give it, and the others
as they were. -/
theorem State.setLatch_signal (s : State) (a : ApproachId) (l : Latch) (b : ApproachId) :
    (s.setLatch a l).signal b = if b = a then (s.signal a).latched l else s.signal b := by
  have set_signal : ∀ r, (s.setSignal a r).signal b = if b = a then r else s.signal b := by
    intro r
    by_cases hb : b = a
    · subst hb; simp [State.signal, State.setSignal]
    · have : a.val ≠ b.val := fun e => hb (Fin.ext e.symm)
      simp [State.signal, State.setSignal, hb, this]
  have expects : l.expects = if l = .go then Level.high else .low := by cases l <;> rfl
  unfold State.setLatch SignalRec.latched
  by_cases h : (s.signal a).latch = l
  · simp only [h, if_true]; split <;> simp_all
  · simp only [h, if_false]
    split
    · split
      · rw [set_signal]; split <;> simp [expects]
      · have mod : ∀ (u : State) p f, (u.modDeadline p f).signal b = u.signal b := fun _ _ _ => rfl
        rw [mod, set_signal]; split <;> simp [expects]
    · rw [set_signal]; split <;> simp [expects]

theorem State.setLatch_marks (s : State) (a : ApproachId) (l : Latch) : (s.setLatch a l).marks = s.marks := by
  unfold State.setLatch
  dsimp only
  split
  · rfl
  · split
    · split <;> rfl
    · rfl

theorem State.leaveLists_keeps (s : State) (p : Slot) (a : ApproachId) : Keeps s (s.leaveLists p a) := by
  unfold State.leaveLists
  simp only
  split <;> exact ⟨.refl _, .refl _, .refl _, id⟩

/-! ### Releases, removals and flushes -/

theorem State.intrude_keeps (s : State) (c : CellId) (reason : IntrusionReason) (who : Option (Slot × Passage))
    (stamp : Time) : Keeps s (s.intrude c reason who stamp) :=
  (s.setCell_keeps _ _).trans (State.postSafety_keepsBook _ _).1

theorem State.release_keeps (s : State) (p : Slot) (q : Passage) (c : CellId) : Keeps s (s.release p q c) := by
  unfold State.release
  simp only
  have second : ∀ u : State, Keeps u
      (if (s.cell c).lock = .pending then u.postSafety (u.note (.locked c) none) else u) := by
    intro u
    split
    · exact (u.postSafety_keepsBook _).1
    · exact .rfl
  have first := s.setCell_keeps c
    { s.cell c with holder := none, lock := if (s.cell c).lock = .pending then .locked else (s.cell c).lock }
  split
  · exact (first.trans (second _)).trans (State.intrude_keeps _ _ _ _ _)
  · exact first.trans (second _)

theorem State.releaseRun_keeps (s : State) (p : Slot) (q : Passage) : Keeps s (s.releaseRun p q) :=
  keeps_foldl (fun s c => s.release_keeps p q c) _ s

theorem State.remove_keeps (s : State) (p : Slot) (o : Outcome) : Keeps s (s.remove p o) := by
  unfold State.remove
  split
  · exact .rfl
  · rename_i q _
    simp only
    have post : ∀ u : State, Keeps s u → Keeps s
        (match o.body with
          | none => u.setPassage p none
          | some body => (u.setPassage p none).postOwner body p q) := by
      intro u hu
      split
      · exact hu.trans (u.setPassage_keeps _ _)
      · exact (hu.trans (u.setPassage_keeps _ _)).trans (State.postOwner_keepsBook _ _ _ _).1
    apply post
    split
    · split
      · exact ((s.releaseRun_keeps p q).trans (State.modDeadline_keeps _ _ _)).trans (State.setLatch_keeps _ _ _)
      · exact (s.releaseRun_keeps p q).trans (State.modDeadline_keeps _ _ _)
    · split
      · exact (s.leaveLists_keeps _ _).trans (State.clearReservations_keeps _ _)
      · exact s.leaveLists_keeps _ _

theorem State.flush_keeps (s : State) (which : Passage → Bool) : Keeps s (s.flush which) :=
  keeps_foldl (fun s p => s.remove_keeps p .flushed) _ s

/-! ### The grant pass -/

theorem State.considerHead_keeps (a : ApproachId) (sc : State × List Entrant) :
    Keeps sc.1 (State.considerHead a sc).1 := by
  unfold State.considerHead
  simp only
  split
  · exact State.setMark_keeps _ _ _
  · split
    · split
      · exact State.setMark_keeps _ _ _
      · split
        · exact .rfl
        · refine Keeps.trans ?_ (State.setMark_keeps _ _ _)
          split
          · exact .rfl
          · exact (State.postSafety_keepsBook _ _).1
    · exact .rfl

theorem State.candidates_keeps (s : State) : Keeps s s.candidates.1 := by
  have h : ∀ (l : List ApproachId) (sc : State × List Entrant),
      Keeps sc.1 (l.foldl (fun sc a => State.considerHead a sc) sc).1 := by
    intro l
    induction l with
    | nil => intro sc; exact .rfl
    | cons a rest ih => intro sc; exact (State.considerHead_keeps a sc).trans (ih _)
  exact h (List.finRange 8) (s, [])

theorem State.takeCells_keeps (s : State) (p : Slot) (l : List CellId) : Keeps s (s.takeCells p l) :=
  keeps_foldl (fun s c => s.setCell_keeps c _) l s

theorem State.grant_keeps (s : State) (quiet : Option Slot) (p : Slot) (q : Passage) :
    Keeps s (s.grant quiet p q) := by
  unfold State.grant
  simp only
  have h : ∀ (r : Option Passage) (a : ApproachId), Keeps s
      (((((s.takeCells p (s.cellsOf q)).clearReservations p).leaveLists p a).setPassage p r).setLatch a .go) :=
    fun r a => ((((s.takeCells_keeps _ _).trans (State.clearReservations_keeps _ _)).trans
      (State.leaveLists_keeps _ _ _)).trans (State.setPassage_keeps _ _ _)).trans (State.setLatch_keeps _ _ _)
  split
  · exact h _ _
  · exact (h _ _).trans (State.postOwner_keepsBook _ _ _ _).1

theorem State.examineOne_keeps (quiet : Option Slot) (sg : State × List Entrant) (x : Entrant) :
    Keeps sg.1 (State.examineOne quiet sg x).1 := by
  unfold State.examineOne
  split
  · exact State.grant_keeps _ _ _ _
  · exact .rfl

theorem State.examine_keeps (s : State) (quiet : Option Slot) (l : List Entrant) : Keeps s (s.examine quiet l).1 := by
  have h : ∀ (l : List Entrant) (sg : State × List Entrant),
      Keeps sg.1 (l.foldl (State.examineOne quiet) sg).1 := by
    intro l
    induction l with
    | nil => intro sg; exact .rfl
    | cons x rest ih => intro sg; exact (State.examineOne_keeps quiet sg x).trans (ih _)
  exact h l (s, [])

theorem State.account_keeps (s : State) (order : List Slot) (ordered granted : List Entrant) :
    Keeps s (s.account order ordered granted) := by
  refine keeps_foldl (fun s h => ?_) ordered s
  split
  · exact State.modPassage_keeps _ _ _
  · exact .rfl

theorem State.reserveFor_keeps (s : State) (p : Slot) : Keeps s (s.reserveFor p) := by
  unfold State.reserveFor
  split
  · exact .rfl
  · simp only
    split
    · exact keeps_foldl (fun s c => s.setCell_keeps c _) _ s
    · exact .rfl

theorem State.sweep_keeps (s : State) : Keeps s s.sweep := keeps_foldl State.reserveFor_keeps _ s

theorem State.runPass_keeps (s : State) (quiet : Option Slot) : Keeps s (s.runPass quiet) :=
  ((s.candidates_keeps.trans (State.examine_keeps _ _ _)).trans (State.account_keeps _ _ _ _)).trans
    (State.sweep_keeps _)

/-- A grant pass writes the book, marks, latches and notices, and nothing else (R42). -/
theorem State.grantPass_keeps (s : State) (quiet : Option Slot) : Keeps s (s.grantPass quiet) := by
  unfold State.grantPass
  split
  · exact s.runPass_keeps quiet
  · exact .rfl

theorem State.afterEvent_keeps (before s : State) (b : Bool) : Keeps s (State.afterEvent before s b) := by
  unfold State.afterEvent
  simp only
  have h : Keeps s (if s.control.mode = .draining && 0 < before.liveCount && s.liveCount = 0 then s.postMode else s) := by
    split
    · exact s.postMode_keepsBook.1
    · exact .rfl
  split
  · exact h.trans (State.grantPass_keeps _ _)
  · exact h

/-! ### The Tracker -/

theorem State.releaseFront_keeps (p : Slot) (pos : Nat) (cells : List CellId) :
    ∀ (i : Nat) (s : State), Keeps s (State.releaseFront p pos i cells s).1 := by
  induction cells with
  | nil => intro i s; exact .rfl
  | cons c rest ih =>
    intro i s
    unfold State.releaseFront
    split
    · exact .rfl
    · split
      · exact ((s.release_keeps _ _ _).trans (State.modPassage_keeps _ _ _)).trans (ih _ _)
      · exact .rfl

theorem State.armBlindClear_keeps (s : State) (p : Slot) : Keeps s (s.armBlindClear p) := s.modPassage_keeps _ _

theorem State.armDwell_keeps (s : State) (p : Slot) (c : CellId) : Keeps s (s.armDwell p c) := s.modPassage_keeps _ _

theorem State.examination_keeps (s : State) (p : Slot) (b : Bool) : Keeps s (s.examination p b).1 := by
  unfold State.examination
  split
  · exact .rfl
  · simp only
    split
    · split
      · split
        · exact (State.releaseFront_keeps _ _ _ _ _).trans (State.remove_keeps _ _ _)
        · exact State.releaseFront_keeps _ _ _ _ _
      · split
        · exact (State.releaseFront_keeps _ _ _ _ _).trans (State.armBlindClear_keeps _ _)
        · exact State.releaseFront_keeps _ _ _ _ _
    · exact .rfl

theorem State.enter_keeps (s : State) (p : Slot) (q : Passage) (k : Nat) (c : CellId) :
    Keeps s (s.enter p q k c) :=
  (((s.setPassage_keeps _ _).trans (State.setLatch_keeps _ _ _)).trans (State.armDwell_keeps _ _ _)).trans
    (State.examination_keeps _ _ _)

theorem State.advance_keeps (s : State) (p : Slot) (k : Nat) (c : CellId) : Keeps s (s.advance p k c) :=
  (s.modPassage_keeps _ _).trans (State.armDwell_keeps _ _ _)

theorem State.occupiedAhead_keeps (s : State) (p : Slot) (q : Passage) (c : CellId) (stamp : Time) :
    Keeps s (s.occupiedAhead p q c stamp) := by
  unfold State.occupiedAhead
  simp only
  split
  · exact .rfl
  · split
    · exact s.advance_keeps _ _ _
    · exact s.intrude_keeps _ _ _ _

/-- A change report makes the Tracker write the book, marks, latches and notices, and nothing else (R59). -/
theorem State.takeChange_keeps (s : State) (c : CellId) (occ : Occupancy) (stamp : Time) :
    Keeps s (s.takeChange c occ stamp).1 := by
  unfold State.takeChange
  simp only
  refine Keeps.trans (s.setCell_keeps c { s.cell c with heard := occ, intruded := (s.cell c).intruded && !decide (occ ≠ .occupied) }) ?_
  generalize s.setCell c _ = u
  split
  · split
    · exact .rfl
    · exact u.intrude_keeps _ _ _ _
  · split
    · exact .rfl
    · split
      · exact .rfl
      · split
        · split
          · exact u.enter_keeps _ _ _ _
          · exact u.intrude_keeps _ _ _ _
        · exact u.intrude_keeps _ _ _ _
    · refine Keeps.trans ?_ (State.examination_keeps _ _ _)
      split
      · exact .rfl
      · exact u.occupiedAhead_keeps _ _ _ _

end Sys2Proof.Machine
end

