-- ==== Sys2Proof/Laws/Modes.lean ====
section
/-! SUPPORT. What changes of sensor mode, halts, resumes and entries into SETTLING leave alone. -/

namespace Sys2Proof.Machine

/-- Two states agree in their outer part, and the FIFOs of the second are bounded if those of the first are. -/
def KeepsOuter (s t : State) : Prop := t.outer = s.outer ∧ (s.FifosBounded → t.FifosBounded)

theorem KeepsOuter.rfl {s : State} : KeepsOuter s s := ⟨.refl _, id⟩

theorem KeepsOuter.trans {s t u : State} (h : KeepsOuter s t) (k : KeepsOuter t u) : KeepsOuter s u :=
  ⟨k.1.trans h.1, fun i => k.2 (h.2 i)⟩

theorem Keeps.weaken {s t : State} (h : Keeps s t) : KeepsOuter s t := ⟨h.1, h.2.2.2⟩

theorem keepsOuter_foldl {α : Type} {f : State → α → State} (h : ∀ s x, KeepsOuter s (f s x)) (l : List α)
    (s : State) : KeepsOuter s (l.foldl f s) := by
  induction l generalizing s with
  | nil => exact .rfl
  | cons x rest ih => exact (h s x).trans (ih _)

theorem State.setControl_keepsOuter (s : State) (c : Control) : KeepsOuter s (s.setControl c) := ⟨.refl _, id⟩

theorem State.setSensor_keepsOuter (s : State) (c : CellId) (r : SensorRec) : KeepsOuter s (s.setSensor c r) :=
  ⟨.refl _, id⟩

/-! ### Sensors: the Mode Controller stays too -/

/-- Two states agree in their outer part and in the Mode Controller. -/
def KeepsMode (s t : State) : Prop := KeepsOuter s t ∧ t.control = s.control

theorem KeepsMode.rfl {s : State} : KeepsMode s s := ⟨.rfl, .refl _⟩

theorem KeepsMode.trans {s t u : State} (h : KeepsMode s t) (k : KeepsMode t u) : KeepsMode s u :=
  ⟨h.1.trans k.1, k.2.trans h.2⟩

theorem Keeps.mode {s t : State} (h : Keeps s t) : KeepsMode s t := ⟨h.weaken, h.2.1⟩

theorem keepsMode_foldl {α : Type} {f : State → α → State} (h : ∀ s x, KeepsMode s (f s x)) (l : List α)
    (s : State) : KeepsMode s (l.foldl f s) := by
  induction l generalizing s with
  | nil => exact .rfl
  | cons x rest ih => exact (h s x).trans (ih _)

theorem State.setSensor_keepsMode (s : State) (c : CellId) (r : SensorRec) : KeepsMode s (s.setSensor c r) :=
  ⟨⟨.refl _, id⟩, .refl _⟩

theorem State.toStandby_keepsMode (s : State) (c : CellId) : KeepsMode s (s.toStandby c).1 :=
  ((s.setSensor_keepsMode c _).trans (State.setCell_keeps _ _ _).mode).trans (State.takeChange_keeps _ _ _ _).mode

theorem State.restartFilter_keepsMode (s : State) (c : CellId) : KeepsMode s (s.restartFilter c).1 := by
  unfold State.restartFilter
  simp only
  split
  · exact (s.setSensor_keepsMode c _).trans (State.setCell_keeps _ _ _).mode
  · exact ((s.setSensor_keepsMode c _).trans (State.setCell_keeps _ _ _).mode).trans
      (State.takeChange_keeps _ _ _ _).mode

theorem State.toActive_keepsMode (s : State) (c : CellId) : KeepsMode s (s.toActive c).1 :=
  (s.setSensor_keepsMode c _).trans (State.restartFilter_keepsMode _ c)

theorem State.changeSensor_keepsMode (s : State) (c : CellId) (m : SensorMode) :
    KeepsMode s (s.changeSensor c m).1 := by
  cases m
  · exact s.toActive_keepsMode c
  · exact s.toStandby_keepsMode c

theorem State.restartFilters_keepsMode (s : State) : KeepsMode s s.restartFilters := by
  unfold State.restartFilters
  refine keepsMode_foldl (fun s c => ?_) _ s
  split
  · exact s.restartFilter_keepsMode c
  · exact .rfl

theorem State.returnSensor_keepsMode (s : State) (c : CellId) : KeepsMode s (s.returnSensor c) := by
  unfold State.returnSensor
  split
  · exact .rfl
  · split
    · exact s.restartFilter_keepsMode c
    · exact .rfl
    · exact s.toStandby_keepsMode c
    · exact s.toActive_keepsMode c

/-! ### Latches, halts and SETTLING -/

theorem State.stopLatches_keeps (s : State) : Keeps s s.stopLatches :=
  keeps_foldl (fun s a => s.setLatch_keeps a .stop) _ s

/-- Every approach's record after all latches have gone to STOP (R106, R108). -/
theorem State.stopLatches_signal (s : State) (a : ApproachId) : s.stopLatches.signal a = (s.signal a).latched .stop := by
  have each : ∀ (l : List ApproachId) (s : State), l.Nodup →
      (l.foldl (fun s b => s.setLatch b .stop) s).signal a =
        if a ∈ l then (s.signal a).latched .stop else s.signal a := by
    intro l
    induction l with
    | nil => intro s _; rfl
    | cons x l ih =>
      intro s hn
      obtain ⟨hx, hl⟩ := List.nodup_cons.1 hn
      rw [List.foldl_cons, ih _ hl, State.setLatch_signal]
      by_cases h : a = x
      · subst h; simp [hx]
      · simp [h]
  unfold State.stopLatches
  rw [each _ _ (List.nodup_finRange 8)]
  simp

theorem State.goLatches_keeps (s : State) : Keeps s s.goLatches := by
  unfold State.goLatches
  refine keeps_foldl (fun s a => ?_) _ s
  split
  · exact s.setLatch_keeps a .go
  · exact .rfl

/-- A halt writes the mode, the prior mode and the causes of the Mode Controller (R125, step 1). -/
theorem State.halt_control (s : State) (prior : PriorMode) (causes : HaltCauses) :
    (s.halt prior causes).control = { s.control with mode := .halted, prior := prior, causes := causes } := by
  unfold State.halt
  simp only
  exact ((State.modLiveDeadlines_keeps _ _).trans (State.stopLatches_keeps _)).control

theorem State.halt_keepsOuter (s : State) (prior : PriorMode) (causes : HaltCauses) :
    KeepsOuter s (s.halt prior causes) := by
  unfold State.halt
  simp only
  exact (s.setControl_keepsOuter _).trans
    ((State.modLiveDeadlines_keeps _ _).trans (State.stopLatches_keeps _)).weaken

theorem State.joinCause_keepsOuter (s : State) (add : HaltCauses → HaltCauses) : KeepsOuter s (s.joinCause add) := by
  unfold State.joinCause
  simp only
  split
  · exact (s.halt_keepsOuter _ _).trans (State.postMode_keepsBook _).1.weaken
  · exact (s.halt_keepsOuter _ _).trans (State.postMode_keepsBook _).1.weaken
  · exact (s.halt_keepsOuter _ _).trans (State.postMode_keepsBook _).1.weaken
  · split
    · exact .rfl
    · exact (s.setControl_keepsOuter _).trans (State.postMode_keepsBook _).1.weaken
  · exact .rfl
  · exact .rfl

theorem State.leaveCause_keepsOuter (s : State) (f : HaltCauses → HaltCauses) : KeepsOuter s (s.leaveCause f) := by
  unfold State.leaveCause
  simp only
  split
  · exact (s.setControl_keepsOuter _).trans (State.postMode_keepsBook _).1.weaken
  · exact .rfl

theorem State.enterSettling_keepsOuter (s : State) : KeepsOuter s s.enterSettling := by
  unfold State.enterSettling
  simp only
  refine KeepsOuter.trans ?_ (State.postMode_keepsBook _).1.weaken
  split
  · exact s.restartFilters_keepsMode.1.trans (State.setControl_keepsOuter _ _)
  · exact (s.restartFilters_keepsMode.1.trans (State.setControl_keepsOuter _ _)).trans
      (State.halt_keepsOuter _ _ _)

theorem State.leaveHalted_keepsOuter (s : State) (m : Mode) : KeepsOuter s (s.leaveHalted m) := by
  unfold State.leaveHalted
  simp only
  exact (s.setControl_keepsOuter _).trans
    ((((State.modLiveDeadlines_keeps _ _).trans (State.goLatches_keeps _)).trans
      (State.postMode_keepsBook _).1).trans (State.grantPass_keeps _ _)).weaken

/-- The control after an entry into SETTLING (R120). -/
theorem State.enterSettling_mode (s : State) :
    s.enterSettling.control.mode = .settling ∧ s.enterSettling.control.causes = .empty ∨
      s.enterSettling.control.mode = .halted ∧ s.enterSettling.control.prior = .settling := by
  unfold State.enterSettling
  simp only
  rw [(State.postMode_keepsBook _).1.control]
  split
  · rename_i h
    simp [HaltCauses.isEmpty] at h
    exact .inl ⟨by simp, by simpa using h⟩
  · exact .inr ⟨by simp [State.halt_control], by simp [State.halt_control]⟩

end Sys2Proof.Machine
end

