-- ==== Sys2Proof/Laws/PerInstr.lean ====
section
/-! SUPPORT. One lemma per command for the statements about all commands: the frame that carries a command reads back
as that command, with the payload length of its kind. -/

namespace Sys2Proof.Laws

/-- The two bytes of a 16-bit number make it up again. -/
theorem bytes16_joined (v : BitVec 16) : v.extractLsb' 8 8 ++ v.extractLsb' 0 8 = v := by
  apply BitVec.eq_of_getLsbD_eq
  intro i hi
  simp only [BitVec.getLsbD_append, BitVec.getLsbD_extractLsb']
  split
  · rw [Nat.zero_add]; simp [*]
  · rw [Nat.add_sub_cancel' (by omega)]; simp; omega

/-- The four bytes of a 32-bit number make it up again. -/
theorem bytes32_joined (v : BitVec 32) :
    v.extractLsb' 24 8 ++ v.extractLsb' 16 8 ++ v.extractLsb' 8 8 ++ v.extractLsb' 0 8 = v := by
  apply BitVec.eq_of_getLsbD_eq
  intro i hi
  simp only [BitVec.getLsbD_append, BitVec.getLsbD_extractLsb']
  repeat' split
  · simp [*]
  · rw [Nat.add_sub_cancel' (by omega)]; simp; omega
  · rw [show 16 + (i - 8 - 8) = i by omega]; simp; omega
  · rw [show 24 + (i - 8 - 8 - 8) = i by omega]; simp; omega

namespace Round

/-- The frame of a well-formed command has the payload length of its kind and carries that command. -/
def Statement (i : Instr) : Prop :=
  i.wellFormed = true → ∀ f, frameOf i = some f →
    f.payload.length = f.kind.payloadLength ∧ commandOf f = some i

theorem identify (hd : FrameHead) : Statement (.identify hd) := by
  intro _ _ h; cases h; simp [commandOf, Kind.payloadLength]

theorem linePattern (hd : FrameHead) : Statement (.linePattern hd) := by
  intro _ _ h; cases h; simp [commandOf, Kind.payloadLength]

theorem queryJunctionPart1 (hd : FrameHead) (part : Byte) : Statement (.queryJunctionPart1 hd part) := by
  intro w _ h; cases h; simp_all [commandOf, Instr.wellFormed, Kind.payloadLength]

theorem queryJunctionPart2 (hd : FrameHead) : Statement (.queryJunctionPart2 hd) := by
  intro _ _ h; cases h; simp [commandOf, Kind.payloadLength]

theorem queryPassage (hd : FrameHead) (slot : Byte) : Statement (.queryPassage hd slot) := by
  intro _ _ h; cases h; simp [commandOf, Kind.payloadLength]

theorem queryCell (hd : FrameHead) (cell : Byte) : Statement (.queryCell hd cell) := by
  intro _ _ h; cases h; simp [commandOf, Kind.payloadLength]

theorem queryLine (hd : FrameHead) : Statement (.queryLine hd) := by
  intro _ _ h; cases h; simp [commandOf, Kind.payloadLength]

theorem requestPassage (hd : FrameHead) (carrier : CarrierId) (route cls speed : Byte) (length : BitVec 16) :
    Statement (.requestPassage hd carrier route cls speed length) := by
  intro _ _ h; cases h; simp [commandOf, bytes16, bytes16_joined, Kind.payloadLength]

theorem withdraw (hd : FrameHead) (slot : Byte) (carrier : CarrierId) : Statement (.withdraw hd slot carrier) := by
  intro _ _ h; cases h; simp [commandOf, bytes16, bytes16_joined, Kind.payloadLength]

theorem lockCells (hd : FrameHead) (set : BitVec 32) : Statement (.lockCells hd set) := by
  intro _ _ h; cases h; simp [commandOf, bytes32, bytes32_joined, Kind.payloadLength]

theorem unlockCells (hd : FrameHead) (set : BitVec 32) : Statement (.unlockCells hd set) := by
  intro _ _ h; cases h; simp [commandOf, bytes32, bytes32_joined, Kind.payloadLength]

theorem setSensor (hd : FrameHead) (cell mode : Byte) : Statement (.setSensor hd cell mode) := by
  intro _ _ h; cases h; simp [commandOf, Kind.payloadLength]

theorem forceRelease (hd : FrameHead) (slot : Byte) (carrier : CarrierId) :
    Statement (.forceRelease hd slot carrier) := by
  intro _ _ h; cases h; simp [commandOf, bytes16, bytes16_joined, Kind.payloadLength]

theorem drain (hd : FrameHead) : Statement (.drain hd) := by
  intro _ _ h; cases h; simp [commandOf, Kind.payloadLength]

theorem resume (hd : FrameHead) : Statement (.resume hd) := by
  intro _ _ h; cases h; simp [commandOf, Kind.payloadLength]

theorem restart (hd : FrameHead) : Statement (.restart hd) := by
  intro _ _ h; cases h; simp [commandOf, Kind.payloadLength]

theorem openService (hd : FrameHead) : Statement (.openService hd) := by
  intro _ _ h; cases h; simp [commandOf, Kind.payloadLength]

theorem loadOptions (hd : FrameHead) (tick divider depth dwell skip : Byte) (tag : BitVec 16) :
    Statement (.loadOptions hd tick divider depth dwell skip tag) := by
  intro _ _ h; cases h; simp [commandOf, bytes16, bytes16_joined, Kind.payloadLength]

theorem loadCell (hd : FrameHead) (cell inUse : Byte) (length : BitVec 16) (sensor : Byte) :
    Statement (.loadCell hd cell inUse length sensor) := by
  intro _ _ h; cases h; simp [commandOf, bytes16, bytes16_joined, Kind.payloadLength]

theorem loadApproach (hd : FrameHead) (approach inUse : Byte) (distance : BitVec 16) (limit : Byte) :
    Statement (.loadApproach hd approach inUse distance limit) := by
  intro _ _ h; cases h; simp [commandOf, bytes16, bytes16_joined, Kind.payloadLength]

theorem loadRoute (hd : FrameHead) (route inUse approach speed count : Byte) :
    Statement (.loadRoute hd route inUse approach speed count) := by
  intro _ _ h; cases h; simp [commandOf, Kind.payloadLength]

theorem loadRouteCells (hd : FrameHead) (route span e0 e1 e2 e3 e4 e5 : Byte) :
    Statement (.loadRouteCells hd route span e0 e1 e2 e3 e4 e5) := by
  intro _ _ h; cases h; simp [commandOf, Kind.payloadLength]

theorem loadMaster (hd : FrameHead) (slot inUse node role option : Byte) :
    Statement (.loadMaster hd slot inUse node role option) := by
  intro _ _ h; cases h; simp [commandOf, Kind.payloadLength]

theorem commitMap (hd : FrameHead) : Statement (.commitMap hd) := by
  intro _ _ h; cases h; simp [commandOf, Kind.payloadLength]

theorem frameError (raw : RawFrame) : Statement (.frameError raw) := by
  intro _ _ h; simp [frameOf] at h

theorem tailBitError : Statement (.tailBitError) := by
  intro _ _ h; simp [frameOf] at h

theorem noiseRun (cycles : Nat) : Statement (.noiseRun cycles) := by
  intro _ _ h; simp [frameOf] at h

theorem lineIdle : Statement (.lineIdle) := by
  intro _ _ h; simp [frameOf] at h

theorem noticeFrameStart : Statement (.noticeFrameStart) := by
  intro _ _ h; simp [frameOf] at h

theorem arbitrationLost (loss : Loss) : Statement (.arbitrationLost loss) := by
  intro _ _ h; simp [frameOf] at h

theorem noticeSentClean : Statement (.noticeSentClean) := by
  intro _ _ h; simp [frameOf] at h

theorem noticeBitError : Statement (.noticeBitError) := by
  intro _ _ h; simp [frameOf] at h

theorem haltPulseStart : Statement (.haltPulseStart) := by
  intro _ _ h; simp [frameOf] at h

theorem haltPulseEnd : Statement (.haltPulseEnd) := by
  intro _ _ h; simp [frameOf] at h

theorem lineStuck : Statement (.lineStuck) := by
  intro _ _ h; simp [frameOf] at h

theorem lineStuckRecovery : Statement (.lineStuckRecovery) := by
  intro _ _ h; simp [frameOf] at h

theorem haltPulseRelease : Statement (.haltPulseRelease) := by
  intro _ _ h; simp [frameOf] at h

theorem scan (cells : BitVec 32) (signals : BitVec 8) (emergency : Bool) :
    Statement (.scan cells signals emergency) := by
  intro _ _ h; simp [frameOf] at h

theorem occupancyChange (cell : CellId) : Statement (.occupancyChange cell) := by
  intro _ _ h; simp [frameOf] at h

theorem readbackChange (approach : ApproachId) : Statement (.readbackChange approach) := by
  intro _ _ h; simp [frameOf] at h

theorem emergencyAsserted : Statement (.emergencyAsserted) := by
  intro _ _ h; simp [frameOf] at h

theorem emergencyClear : Statement (.emergencyClear) := by
  intro _ _ h; simp [frameOf] at h

theorem settleCountRise : Statement (.settleCountRise) := by
  intro _ _ h; simp [frameOf] at h

theorem tick : Statement (.tick) := by
  intro _ _ h; simp [frameOf] at h

theorem arrivalExpiry (slot : Slot) : Statement (.arrivalExpiry slot) := by
  intro _ _ h; simp [frameOf] at h

theorem dwellExpiry (slot : Slot) : Statement (.dwellExpiry slot) := by
  intro _ _ h; simp [frameOf] at h

theorem blindClearExpiry (slot : Slot) : Statement (.blindClearExpiry slot) := by
  intro _ _ h; simp [frameOf] at h

theorem hardwareReset (cause : ResetCause) : Statement (.hardwareReset cause) := by
  intro _ _ h; simp [frameOf] at h

theorem oscillatorReady (straps : BitVec 4) : Statement (.oscillatorReady straps) := by
  intro _ _ h; simp [frameOf] at h

theorem lineBusy : Statement (.lineBusy) := by
  intro _ _ h; simp [frameOf] at h

theorem resetRelease : Statement (.resetRelease) := by
  intro _ _ h; simp [frameOf] at h

end Round

end Sys2Proof.Laws
end

