-- ==== Sys2Proof/Tests/Slice0.lean ====
section
/-! SUPPORT. The model's own tests: ill-formed terms, frames written out from R152, figures of the guide, and for every
statement with hypotheses a concrete state and operands that meet them. -/

namespace Sys2Proof.Tests

open Sys2Proof.Machine

/-! ### Small states -/

def head (n : Node) : FrameHead := { prio := 3, src := n }

/-- Cells 0 to 2 in use, one route over them, a fleet master at node 3 in M0 and the safety master at node 5 in M1. -/
def tinyMap : WorkingMap :=
  let m := WorkingMap.reset
  let cell : CellEntry := { inUse := true, length := 200, sensor := .active }
  { m with
    cells := ((m.cells.set 0 cell).set 1 cell).set 2 cell
    approaches := m.approaches.set 0 { inUse := true, distance := 350, limit := 3 }
    routes := m.routes.set 0
      { inUse := true, approach := 0, speed := 120, count := 3
        list := (((Vector.replicate 8 none).set 0 (some 0)).set 1 (some 1)).set 2 (some 2) }
    masters := (m.masters.set 0 { inUse := true, node := 3, role := .fleet, option := .keepNewest }).set 1
      { inUse := true, node := 5, role := .safety, option := .keepOldest } }

/-- A part at node 9 with the tiny map in force, in one mode, the line idle and nothing else begun. -/
def inMode (mode : Mode) : State :=
  let s := State.afterReset 9
  { s with
    map := { working := tinyMap, tag := 0, crc := 0, enrolment := tinyMap.masters }
    control := { s.control with mode := mode }
    liu := { s.liu with line := .idle } }

def haltedFrom (prior : PriorMode) : State :=
  let s := inMode .halted
  s.setControl { s.control with prior := prior }

/-- A passage of M0 over the tiny map's route. -/
def passage (state : PassageState) : Passage :=
  { master := 0, carrier := 7, route := 0, priority := 1, speed := 120, length := 80, load := 1, state := state
    blocking := false, skips := 0, position := none, firstHeld := 0, overdue := .normal, clamped := false
    wasOverdue := false, deadline := { run := none, halt := false, extStop := false } }

def running (kind : ArmedKind) (clock : Clock) (halt : Bool) : Deadline :=
  { run := some { kind := kind, window := 663, clock := clock }, halt := halt, extStop := false }

def granted : Passage := { passage .granted with deadline := running .arrival (.armed 663) false }

def entered : Passage :=
  { passage .entered with position := some 1, deadline := running .dwell (.armed 350) false }

/-- The passage in P0, in its lists or with its cells. -/
def withPassage (s : State) (q : Passage) : State :=
  let s := s.setPassage 0 (some q)
  if q.state = .queued then (s.setArrivals [0]).setQueue 0 [0] else s.takeCells 0 (tinyMap.routes[0].cells.drop q.firstHeld)

def withLatch (s : State) : State := s.setSignal 0 { SignalRec.reset with latch := .go, raw := .high, filtered := .high }

/-- A cell whose change of occupancy the Tracker has not taken. -/
def changed (s : State) (c : CellId) (occ heard : Occupancy) : State :=
  s.setCell c { s.cell c with occupancy := occ, heard := heard }

def waiting (s : State) (c : Instr) : State := { s with pending := [c] }

def withLine (s : State) (line : LineState) : State := s.setLiu { s.liu with line := line }

def flushedNote : Notice :=
  { body := .flushed, passage := some (0, 7), stamp := 0, clamped := false, wasOverdue := false }

/-- `n` notices in the FIFO of M0, the first of them in the shifter. -/
def withNotices (s : State) (n : Nat) : State :=
  (s.setFifo 0 { queue := List.replicate n flushedNote, lost := false }).setLiu
    { s.liu with shifter := some { slot := 0, notice := flushedNote } }

def attempting (s : State) (attempts : Nat) : State :=
  let s := withLine (withNotices s 2) .busy
  let sent := s.noticeFrame { slot := 0, notice := flushedNote } false
  { s with
    liu := { s.liu with attempt := some { lost := false, bytes := sent } }
    notices := { s.notices with attempts := attempts } }

/-- The state after a command. -/
def after (c : Instr) (s : State) : State :=
  match exec c s with
  | .next t => t
  | .fault _ | .refused _ => s

theorem exec_after (c : Instr) (s : State) : exec c s = .next (after c s) := by
  obtain ⟨t, h⟩ := exec_next c s
  simp [after, h]

def verdict (c : Instr) (s : State) : Option Verdict := (after c s).liu.tail.map Tail.verdict

/-- `Takes`, as a check. -/
def takes (s : State) (c : Instr) : Bool :=
  (frameOf c).any fun f => s.hearsFrame f && decide (s.judge f.kind f.head.src = .take)

theorem takes_iff {s : State} {c : Instr} : takes s c = true ↔ s.Takes c := by
  simp [takes, State.Takes, Option.any_eq_true]

/-- `Hears`, as a check. -/
def hears (s : State) (c : Instr) : Bool := (frameOf c).any s.hearsFrame

theorem hears_iff {s : State} {c : Instr} : hears s c = true ↔ s.Hears c := by
  simp [hears, State.Hears, Option.any_eq_true]

/-! ### Ill-formed terms -/

theorem test_wellFormed_query_junction_part_2_has_its_own_row :
    (Instr.queryJunctionPart1 (head 3) 2).wellFormed = false := by decide

theorem test_wellFormed_reading_of_12_bytes :
    (Instr.frameError (cleanReading (List.replicate 12 0))).wellFormed = false := by decide

theorem test_wellFormed_tail_of_10_bytes :
    (Instr.frameError { cleanReading [0x60] with tail := List.replicate 10 (0, true) }).wellFormed = false ∧
      (Instr.frameError { cleanReading [0x60] with tail := List.replicate 9 (0, true) }).wellFormed = true := by decide

theorem test_wellFormed_reading_begins_dominant :
    (Instr.frameError { cleanReading [0x60] with mark := 8 }).wellFormed = false ∧
      (Instr.frameError { cleanReading [0x60] with mark := 7 }).wellFormed = true := by decide

theorem test_wellFormed_noise_run_bounds :
    (Instr.noiseRun 23).wellFormed = false ∧ (Instr.noiseRun 24).wellFormed = true ∧
      (Instr.noiseRun 79).wellFormed = true ∧ (Instr.noiseRun 80).wellFormed = false := by decide

theorem test_wellFormed_short_reset_pulse :
    (Instr.hardwareReset (.pin 15)).wellFormed = false ∧ (Instr.hardwareReset (.pin 16)).wellFormed = true := by
  decide

/-! ### Frames written out from R152, with their CRC-8 worked out outside the model (R134) -/

theorem test_decode_identify :
    decodeFrame 9 (cleanReading [0x60, 0x93, 0x5A]) = some (.identify { prio := 3, src := 3 }) := by decide +kernel

theorem test_decode_query_junction :
    decodeFrame 9 (cleanReading [0x02, 0x9F, 0x01, 0x3C]) = some (.queryJunctionPart1 { prio := 0, src := 15 } 1) := by
  decide +kernel

theorem test_decode_withdraw :
    decodeFrame 9 (cleanReading [0x47, 0x93, 0x04, 0x12, 0x34, 0x53]) =
      some (.withdraw { prio := 2, src := 3 } 4 0x1234) := by decide +kernel

theorem test_decode_request_passage :
    decodeFrame 9 (cleanReading [0x06, 0x93, 0x00, 0x07, 0x00, 0x41, 0x78, 0x00, 0x50, 0x62]) =
      some (.requestPassage { prio := 0, src := 3 } 7 0 0x41 120 80) := by decide +kernel

theorem test_decode_lock_cells :
    decodeFrame 9 (cleanReading [0x68, 0x95, 0x80, 0x00, 0x00, 0x01, 0x70]) =
      some (.lockCells { prio := 3, src := 5 } 0x80000001) := by decide +kernel

theorem test_decode_set_sensor :
    decodeFrame 9 (cleanReading [0x2A, 0x95, 0x1F, 0x01, 0x2A]) =
      some (.setSensor { prio := 1, src := 5 } 31 1) := by decide +kernel

theorem test_decode_load_options :
    decodeFrame 9 (cleanReading [0x70, 0x93, 0x0A, 0x04, 0x03, 0x0C, 0x02, 0x01, 0x01, 0xC1]) =
      some (.loadOptions { prio := 3, src := 3 } 10 4 3 12 2 257) := by decide +kernel

theorem test_decode_load_route_cells :
    decodeFrame 9 (cleanReading [0xF4, 0x93, 0x00, 0x53, 0x00, 0x01, 0x02, 0xFF, 0xFF, 0xFF, 0xE9]) =
      some (.loadRouteCells { prio := 7, src := 3 } 0 0x53 0 1 2 255 255 255) := by decide +kernel

theorem test_frame_with_a_wrong_crc_is_no_command :
    decodeFrame 9 (cleanReading [0x60, 0x93, 0x5B]) = none ∧
      readFrame 9 (cleanReading [0x60, 0x93, 0x5B]) = .error .crc := by decide +kernel

/-- A frame of kind 0 to node 10 with a verdict tail of two bytes, the second not driven. -/
def foreign : RawFrame :=
  { cleanReading [0x60, 0xA3, 0x87] with tailMark := true, tail := [(0x20, true)] }

theorem test_frame_for_another_node_is_followed :
    readFrame 9 (cleanReading [0x60, 0xA3, 0x00]) = .onlooker (some ([0x60, 0xA3, 0x00], [])) ∧
      readFrame 9 foreign = .onlooker (some ([0x60, 0xA3, 0x87], [0x20, 0xFF, 0xFF])) := by decide

theorem test_onlooker_stops_at_an_unknown_kind_or_a_dominant_stop_bit :
    readFrame 9 (cleanReading [0x77, 0xA3, 0x00]) = .onlooker none ∧
      readFrame 9 { foreign with tail := [(0x20, true), (0x00, false)] } = .onlooker none := by decide

theorem test_crc_check_values :
    crcOver (w := 16) 0x1021 0xFFFF [0x31, 0x32, 0x33, 0x34, 0x35, 0x36, 0x37, 0x38, 0x39] = 0x29B1 ∧
      crc8 [0x31, 0x32, 0x33, 0x34, 0x35, 0x36, 0x37, 0x38, 0x39] = 0x20 := by decide +kernel

theorem test_route_bytes_of_the_serialisation :
    (tinyMap.bytes.drop 167).take 12 = [1, 0, 120, 3, 0, 1, 2, 0xFF, 0xFF, 0xFF, 0xFF, 0xFF] := by decide +kernel

theorem test_notice_frame :
    (inMode .running).noticeFrame { slot := 0, notice := flushedNote } false =
      [0xBF, 0x39, 0x40, 0, 0, 7, 0, 0, 0, 0, 0x49] := by decide +kernel

theorem test_line_pattern_tail : (Verdict.done .linePattern).bytes = [0x80, 0x55, 0xAA, 0x00, 0xFF] := by decide

theorem test_table_words_spell_no_command : decodeTableWord 16 0x1234 = none := by decide

/-! ### Commands -/

theorem test_identify_tail :
    (verdict (.identify (head 3)) (inMode .running)).map Verdict.bytes =
      some [0xE0, 0x12, 0x19, 0x03, 0, 0, 0, 0] := by decide

theorem test_request_is_granted_in_running :
    verdict (.requestPassage (head 3) 7 0 0x41 120 80) (inMode .running) = some (.granted 0 663 false) := by decide

theorem test_request_is_queued_in_settling :
    verdict (.requestPassage (head 3) 7 0 0x41 120 80) (inMode .settling) = some (.queued 0 1) := by decide

theorem test_request_too_long :
    verdict (.requestPassage (head 3) 7 0 0x41 120 401) (inMode .running) = some (.badValue 6 none) := by decide

theorem test_withdraw_of_a_granted_passage :
    verdict (.withdraw (head 3) 0 7) (withLatch (withPassage (inMode .running) granted)) =
        some (.done (.withdraw .granted)) ∧
      ((after (.withdraw (head 3) 0 7) (withLatch (withPassage (inMode .running) granted))).signal 0).latch = .stop := by
  decide

theorem test_withdraw_of_an_entered_passage :
    verdict (.withdraw (head 3) 0 7) (withPassage (inMode .running) entered) = some .tooLate := by decide

theorem test_force_release_counts_cells :
    verdict (.forceRelease (head 5) 0 7) (withPassage (inMode .running) { entered with firstHeld := 1 }) =
      some (.done (.forceRelease .entered 2)) := by decide

theorem test_lock_cells_pending_and_locked :
    verdict (.lockCells (head 5) 7) ((inMode .running).setCell 1 { CellRec.reset with holder := some 0 }) =
      some (.done (.lockCells 2 1)) := by decide

theorem test_unlock_cells_counts_changes :
    verdict (.unlockCells (head 5) 7) ((inMode .running).setCell 1 { CellRec.reset with lock := .locked }) =
      some (.done (.unlockCells 1)) := by decide

theorem test_lock_cells_needs_the_safety_master :
    verdict (.lockCells (head 3) 7) (inMode .running) = some .refusedRole := by decide

theorem test_set_sensor_to_standby :
    verdict (.setSensor (head 5) 0 1) (inMode .running) = some (.done (.setSensor .active .blind)) := by decide

theorem test_drain : (after (.drain (head 5)) (inMode .running)).control.mode = .draining := by decide

theorem test_resume_returns_to_the_prior_mode :
    verdict (.resume (head 5)) (haltedFrom .running) = some (.done (.resume .running)) := by decide +kernel

theorem test_restart_enters_settling :
    verdict (.restart (head 5)) (withPassage (inMode .running) (passage .queued)) =
      some (.done (.restart 1 .settling)) := by decide +kernel

theorem test_open_service_with_a_live_passage :
    verdict (.openService (head 5)) (withPassage (inMode .draining) entered) = some (.busy 1) := by decide

theorem test_query_line_kind :
    (verdict (.queryLine (head 3)) (after (.noiseRun 24) (inMode .running))).map Verdict.bytes =
      some [0x60, 0x01, 0, 0] := by decide

theorem test_bad_value_names_the_item :
    (Verdict.badValue 1 (some 31)).bytes = [0x4B, 0x01, 0x1F] ∧ (Verdict.badValue 1 none).bytes = [0x4B, 0x01, 0xFF] := by
  decide

theorem test_query_passage_status :
    (verdict (.queryPassage (head 3) 0) (withPassage (inMode .running) entered)).map Verdict.bytes =
      some [0xE0, 0x00, 0x07, 0x88, 0x01, 0x00, 0x01, 0x5E] := by decide

theorem test_query_cell_status :
    (verdict (.queryCell (head 3) 1) (withPassage (inMode .running) entered)).map Verdict.bytes =
      some [0xA0, 0x00, 0xFF, 0x80, 0, 0] := by decide

theorem test_commit_of_the_reset_map_has_no_route :
    WorkingMap.reset.fault 9 = some (.mapInvalid .noRoute none none) ∧ tinyMap.fault 9 = none := by decide

theorem test_entry_sets_the_dwell :
    let s := changed (withLatch (withPassage (inMode .running) granted)) 0 .occupied .free
    ((after (.occupancyChange 0) s).passage 0).map (fun q => (q.state, q.position, q.deadline.run)) =
      some (.entered, some 0, some { kind := .dwell, window := 351, clock := .armed 351 }) := by decide

theorem test_free_behind_the_carrier_is_released :
    let s := changed (withPassage (inMode .draining) entered) 0 .free .occupied
    ((after (.occupancyChange 0) s).cell 0).holder = none := by decide

theorem test_intrusion_on_a_free_cell :
    ((after (.occupancyChange 2) (changed (inMode .running) 2 .occupied .free)).cell 2).intruded = true := by decide

theorem test_arrival_expiry_frees_the_slot :
    (after (.arrivalExpiry 0) (withPassage (inMode .draining)
      { granted with deadline := running .arrival (.armed 0) false })).passage 0 = none := by decide

theorem test_dwell_expiry_is_overdue :
    ((after (.dwellExpiry 0) (withPassage (inMode .draining)
      { entered with deadline := running .dwell (.armed 0) false })).passage 0).map Passage.overdue =
      some .overdue := by decide

theorem test_tick_wraps :
    (after .tick { inMode .running with timer := { floor := 0xFFFF, interval := 10, cycles := 0 } }).timer.floor = 0 := by
  decide +kernel

theorem test_halt_pulse_halts :
    let t := after .haltPulseStart (inMode .running)
    t.control.mode = .halted ∧ t.control.prior = .running ∧ t.control.causes.haltPulse = true := by decide

theorem test_stuck_line_record : (after .lineStuck (withLine (inMode .running) .haltPulse)).liu.error.kind = .stuck := by
  decide

theorem test_noise_is_recorded_with_overrun :
    (after (.noiseRun 24) (after (.noiseRun 24) (inMode .running))).liu.error =
      { kind := .noise, stamp := 0, overrun := true } := by decide

theorem test_frame_heard_after_a_loss_in_its_field :
    let t := after (.arbitrationLost (.field 0)) (attempting (inMode .running) 0)
    t.liu.rx = some (.data [] [false]) ∧ (verdict (.linePattern (head 3)) t).isSome = true := by decide +kernel

theorem test_frame_unread_after_a_loss_in_the_mark :
    let t := after (.arbitrationLost .mark) (attempting (inMode .running) 0)
    t.liu.attempt = none ∧ after (.linePattern (head 3)) t = t := by decide +kernel

theorem test_frame_unread_before_the_line_is_idle :
    verdict (.identify (head 3)) (after (.linePattern (head 3)) (inMode .running)) =
      some (.done .linePattern) := by decide +kernel

theorem test_third_bit_error_abandons_the_notice :
    let t := after .noticeBitError (attempting (inMode .running) 2)
    t.liu.error = { kind := .txAbandoned, stamp := 0, overrun := true } ∧ t.notices.fifos[0].lost = true := by decide

theorem test_scan_counts_a_disagreeing_sample :
    ((after (.scan 0xFFFFFFFE 0 true) (inMode .running)).sensor 0).count = 1 := by decide

theorem test_settling_ends_at_twice_the_depth :
    (after .settleCountRise
      ((inMode .settling).setControl
        { (inMode .settling).control with settleCount := 5, risesDue := 1 })).control.mode = .running := by decide

theorem test_reset_reads_the_straps :
    (after (.oscillatorReady 15) (after .resetRelease (after (.hardwareReset .supply) (inMode .running)))).liu.own = 14 := by
  decide

/-! ### Figures of the guide (5.7) -/

def guideOptions : Options := { tinyMap.options with tick := 10, dwell := 12 }

theorem test_windows_of_the_guide :
    windowOf guideOptions (arrivalTime 350 120 2) = (798, false) ∧
      windowOf guideOptions (arrivalTime 400 100 0) = (750, false) ∧
      windowOf guideOptions (arrivalTime 300 120 2) = (735, false) ∧
      windowOf guideOptions (traverseTime 200 160 120) = (450, false) := by decide

theorem test_saturated_window_of_the_guide :
    windowOf { tinyMap.options with tick := 5, dwell := 32 } (arrivalTime 2000 10 3) = (32767, true) ∧
      windowOf { tinyMap.options with tick := 40, dwell := 32 } (arrivalTime 2000 10 3) = (20034, false) := by decide

theorem test_arming_across_the_wrap :
    ({ run := none, halt := false, extStop := false : Deadline }.arm .arrival 798 65000).run =
      some { kind := .arrival, window := 798, clock := .armed 262 } := by decide

/-! ### Witnesses: what each statement's hypotheses ask for together -/

/-- With nothing waiting, `cycles` into a ms of the scan period and `ms` after its start. -/
def idling (phase : ResetPhase) (ms cycles : Nat) : State :=
  let s := inMode .running
  { s with power := { s.power with phase := phase }, scanner := { s.scanner with ms := ms, cycles := cycles } }

theorem witness_StepRunsFrontCommand :
    (waiting (inMode .running) .tick).pending = .tick :: [] ∧ (idling .applied 0 0).pending = [] ∧
      (idling .applied 0 0).power.phase = .applied ∧ (idling .counting 0 0).power.phase = .counting ∧
      (idling .running 4 7998).power.phase = .running ∧ (idling .running 4 7998).scanner.cycles + 1 < 8000 ∧
      8000 ≤ (idling .running 3 7999).scanner.cycles + 1 ∧
      (idling .running 3 7999).scanner.ms < (idling .running 3 7999).scanner.period ∧
      (idling .running 4 7999).scanner.period ≤ (idling .running 4 7999).scanner.ms := by decide

theorem witness_FramesDecodeAsTheyEncode :
    (Instr.withdraw { prio := 2, src := 3 } 4 0x1234).wellFormed = true ∧
      encodeFrame 9 (.withdraw { prio := 2, src := 3 } 4 0x1234) = some [0x47, 0x93, 0x04, 0x12, 0x34, 0x53] ∧
      decodeFrame 9 (cleanReading [0x60, 0x93, 0x5A]) = some (.identify { prio := 3, src := 3 }) := by
  decide +kernel

/-! #### The laws -/

def onlyP0 (s : State) : Bool := (List.finRange 24).all fun p => p = 0 || s.passage p = none

theorem eq_zero_of_onlyP0 {s : State} (h : onlyP0 s = true) {p : Slot} {q : Passage} (hp : s.passage p = some q) :
    p = 0 := by
  simp only [onlyP0, List.all_eq_true, List.mem_finRange, forall_const, Bool.or_eq_true, decide_eq_true_eq] at h
  rcases h p with h | h
  · exact h
  · rw [h] at hp; cases hp

theorem singleGrant_of_onlyP0 {s : State} (h : onlyP0 s = true) : s.SingleGrant := by
  rintro a p x ⟨q, hq, -⟩ ⟨r, hr, -⟩
  rw [eq_zero_of_onlyP0 h hq, eq_zero_of_onlyP0 h hr]

theorem namesUnique_of_onlyP0 {s : State} (h : onlyP0 s = true) : s.NamesUnique := by
  intro p x q r hq hr _ _
  rw [eq_zero_of_onlyP0 h hq, eq_zero_of_onlyP0 h hr]

/-- The list law, as a check. -/
def lists (s : State) : Bool :=
  (s.control.mode.operating || (List.finRange 24).all fun p => s.passage p = none) &&
  ((List.finRange 24).all fun p => (s.passage p).all fun q =>
    decide (q.skips ≤ s.map.working.options.skipLimit ∧
      (q.state = .queued → q.skips = s.map.working.options.skipLimit → 1 ≤ q.skips → q.blocking = true))) &&
  decide s.book.arrivals.Nodup &&
  ((List.finRange 24).all fun p => decide (p ∈ s.book.arrivals) = (s.passage p).any fun q => q.state = .queued) &&
  ((List.finRange 8).all fun a =>
    s.queue a = s.book.arrivals.filter fun p => (s.passage p).any fun q => decide (s.approachOf q = a)) &&
  (List.finRange 8).all fun a => (s.queue a).length ≤ s.map.working.approaches[a].limit

theorem listLaw_of_lists {s : State} (h : lists s = true) : s.ListLaw := by
  simp only [lists, Bool.and_eq_true, List.all_eq_true, List.mem_finRange, forall_const, decide_eq_true_eq,
    Bool.or_eq_true] at h
  obtain ⟨⟨⟨⟨⟨h1, h2⟩, h3⟩, h4⟩, h5⟩, h6⟩ := h
  refine ⟨?_, ?_, h3, ?_, h5, h6⟩
  · rintro (m | m)
    · rcases h1 with h | h
      · rw [m] at h; cases h
      · exact h
    · rcases h1 with h | h
      · rw [m] at h; cases h
      · exact h
  · intro p q hq
    have := h2 p
    rw [hq] at this
    exact of_decide_eq_true this
  · intro p
    rw [← decide_eq_true_iff (p := p ∈ s.book.arrivals), h4 p, Option.any_eq_true]
    simp

/-- The holder law beyond its lists and its single grant, as a check. -/
def holders (s : State) : Bool :=
  ((List.finRange 32).all fun c => (s.cell c).reservation.all fun p =>
    (s.passage p).any fun q => q.state = .queued && q.blocking && decide (c ∈ s.cellsOf q)) &&
  ((List.finRange 48).all fun r => decide (s.map.working.routes[r].cells.Nodup)) &&
  ((List.finRange 24).all fun p => (s.passage p).all fun q =>
    decide (s.cellsOf q).Nodup && (q.state ≠ .granted || q.firstHeld = 0)) &&
  (List.finRange 32).all fun c => (List.finRange 24).all fun p =>
    decide ((s.cell c).holder = some p) = (s.passage p).any fun q => decide (c ∈ s.heldRun q)

theorem holderLaw_of_checks {s : State} (hl : lists s = true) (hp : onlyP0 s = true) (h : holders s = true) :
    s.HolderLaw := by
  simp only [holders, Bool.and_eq_true, List.all_eq_true, List.mem_finRange, forall_const, decide_eq_true_eq] at h
  obtain ⟨⟨⟨h0, h1⟩, h2⟩, h3⟩ := h
  refine ⟨listLaw_of_lists hl, singleGrant_of_onlyP0 hp, fun _ r _ => h1 r, ?_, ?_, ?_⟩
  · intro p q hq
    have := h2 p
    rw [hq] at this
    simpa [or_iff_not_imp_left] using this
  · intro c p hp
    have := h0 c
    rw [hp] at this
    simpa [Option.any_eq_true, and_assoc] using this
  · intro c p
    rw [← decide_eq_true_iff (p := (s.cell c).holder = some p), h3 c p, Option.any_eq_true]
    simp

theorem exists_step (s : State) : ∃ t, step s = .next t := step_next s

def runningGranted : State := withLatch (withPassage (inMode .running) granted)
def runningEntered : State := withPassage (inMode .running) entered
def runningQueued : State := withPassage (inMode .running) (passage .queued)

theorem witness_FifoBoundKept :
    (waiting (withNotices (inMode .running) 16) .haltPulseStart).FifosBounded ∧
      ∃ t, step (waiting (withNotices (inMode .running) 16) .haltPulseStart) = .next t :=
  ⟨by unfold State.FifosBounded; decide, exists_step _⟩

theorem witness_CausesOnlyInHaltedKept :
    (waiting (haltedFrom .running) .haltPulseStart).CausesLaw ∧ (waiting (inMode .running) .haltPulseStart).CausesLaw ∧
      ∃ t, step (waiting (inMode .running) .haltPulseStart) = .next t :=
  ⟨by unfold State.CausesLaw; decide, by unfold State.CausesLaw; decide, exists_step _⟩

def lockedState : State :=
  (runningEntered.setCell 1 { runningEntered.cell 1 with lock := .pending }).setCell 5
    { CellRec.reset with lock := .locked }

theorem witness_LockLawKept :
    (waiting lockedState (.occupancyChange 0)).LockLaw ∧ ∃ t, step (waiting lockedState (.occupancyChange 0)) = .next t :=
  ⟨by unfold State.LockLaw; decide, exists_step _⟩

theorem latchLaw_runningGranted : runningGranted.LatchLaw := by
  intro a ha
  have h0 : a = 0 := by
    revert ha; revert a; decide
  subst h0
  exact ⟨.inl rfl, 0, granted, by decide, rfl, by decide⟩

theorem witness_LatchLawKept :
    (waiting runningGranted .haltPulseStart).LatchLaw ∧
      ((waiting runningGranted .haltPulseStart).signal 0).latch = .go ∧
      ∃ t, step (waiting runningGranted .haltPulseStart) = .next t :=
  ⟨latchLaw_runningGranted, by decide, exists_step _⟩

theorem witness_NamesUniqueKept :
    (waiting runningQueued (.requestPassage (head 3) 8 0 0x41 120 80)).NamesUnique ∧
      ∃ t, step (waiting runningQueued (.requestPassage (head 3) 8 0 0x41 120 80)) = .next t :=
  ⟨namesUnique_of_onlyP0 (by decide), exists_step _⟩

theorem witness_TransmitLawKept :
    (waiting (attempting (inMode .running) 2) .noticeBitError).TransmitLaw ∧
      ∃ t, step (waiting (attempting (inMode .running) 2) .noticeBitError) = .next t := by
  refine ⟨⟨?_, ?_, ?_, ?_, ?_, ?_⟩, exists_step _⟩
  · intro f hf; cases hf; decide
  · intro f hf; cases hf
  · intro h; cases h
  · intro _ f hf; cases hf; decide
  · intro a ha; cases ha; exact ⟨_, rfl, rfl⟩
  · decide

/-- A passage at the skip limit, blocking, with its cells reserved. -/
def blockingPassage : Passage := { passage .queued with skips := 4, blocking := true }

def reserved : State :=
  let s := withPassage (inMode .running) blockingPassage
  tinyMap.routes[0].cells.foldl (fun s c => s.setCell c { s.cell c with reservation := some 0 }) s

theorem witness_ListLawKept :
    (waiting runningQueued (.withdraw (head 3) 0 7)).ListLaw ∧ (waiting reserved (.withdraw (head 3) 0 7)).ListLaw ∧
      reserved.passage 0 = some blockingPassage ∧
      blockingPassage.skips = reserved.map.working.options.skipLimit ∧
      ∃ t, step (waiting runningQueued (.withdraw (head 3) 0 7)) = .next t :=
  ⟨listLaw_of_lists (by decide), listLaw_of_lists (by decide), by decide, by decide, exists_step _⟩

theorem witness_HolderLawKept :
    (waiting (changed runningGranted 0 .occupied .free) (.occupancyChange 0)).HolderLaw ∧
      (waiting runningEntered (.dwellExpiry 0)).HolderLaw ∧ (waiting reserved (.withdraw (head 3) 0 7)).HolderLaw ∧
      (reserved.cell 1).reservation = some 0 ∧
      ∃ t, step (waiting (changed runningGranted 0 .occupied .free) (.occupancyChange 0)) = .next t :=
  ⟨holderLaw_of_checks (by decide) (by decide) (by decide), holderLaw_of_checks (by decide) (by decide) (by decide),
    holderLaw_of_checks (by decide) (by decide) (by decide), by decide, exists_step _⟩

theorem timerLaw_of_entered {s : State} (hp : onlyP0 s = true) (hm : s.map.working.InRange)
    (hq : s.passage 0 = some entered) (hf : s.timer.floor = 0) : s.TimerLaw := by
  refine ⟨hm, fun p q h => ?_⟩
  have := eq_zero_of_onlyP0 hp h
  subst this
  rw [hq] at h
  cases h
  refine ⟨by decide, by decide, by decide, by decide, by decide, by decide, ?_⟩
  intro r hr
  cases hr
  rw [hf]
  decide

theorem witness_TimerLawKept :
    (waiting runningEntered .tick).TimerLaw ∧ ∃ t, step (waiting runningEntered .tick) = .next t :=
  ⟨timerLaw_of_entered (by decide) (by unfold WorkingMap.InRange; decide) (by decide) (by decide), exists_step _⟩

theorem witness_GrantOnlyInRunning :
    ∃ t q, step (waiting (inMode .running) (.requestPassage (head 3) 7 0 0x41 120 80)) = .next t ∧
      t.passage 0 = some q ∧ q.state = .granted ∧
      ∀ r, (waiting (inMode .running) (.requestPassage (head 3) 7 0 0x41 120 80)).passage 0 = some r →
        r.state ≠ .granted := by
  have h : ((after (.requestPassage (head 3) 7 0 0x41 120 80) (inMode .running)).passage 0).any
      (fun q => q.state = .granted) = true := by decide
  obtain ⟨q, hq, hg⟩ := (Option.any_eq_true _ _).mp h
  exact ⟨_, q, exec_after (.requestPassage (head 3) 7 0 0x41 120 80) (inMode .running), hq, by simpa using hg,
    fun r hr => by cases hr⟩

/-- A command that changes the mode from one to another. -/
def changesMode (c : Instr) (s : State) (m n : Mode) : Bool :=
  s.control.mode = m && (after c s).control.mode = n

def servicing : State := { inMode .service with decoder := { (inMode .service).decoder with service := some 3 } }

def settlingDone : State :=
  (inMode .settling).setControl { (inMode .settling).control with settleCount := 5, risesDue := 1 }

def emergencyDue (mode : Mode) (raw : Bool) : State :=
  (inMode mode).setControl
    { (inMode mode).control with emergency := { rawAsserted := raw, count := 2, asserted := !raw, due := true } }

def readbackDue (s : State) (latch : Latch) (raw : Level) : State :=
  s.setSignal 0 { SignalRec.reset with latch := latch, raw := raw, due := true }

def faulty (s : State) : State := s.setSignal 0 { SignalRec.reset with fault := true }

def counting (s : State) : State := { s with power := { s.power with phase := .counting } }

theorem witness_ModeChangesByNamedCommands :
    (∀ c s, exec c s = .next (after c s)) ∧ changesMode .settleCountRise settlingDone .settling .running = true ∧
      changesMode (.resume (head 5)) (haltedFrom .running) .halted .running = true ∧
      changesMode (.openService (head 5)) (haltedFrom .running) .halted .service = true ∧
      changesMode (.commitMap (head 3)) servicing .service .settling = true ∧
      changesMode (.restart (head 5)) (inMode .running) .running .settling = true ∧
      changesMode (.openService (head 5)) (inMode .unmapped) .unmapped .service = true ∧
      changesMode .haltPulseStart (inMode .running) .running .halted = true ∧
      changesMode .lineStuck (withLine (inMode .draining) .haltPulse) .draining .halted = true ∧
      changesMode .emergencyAsserted (emergencyDue .settling true) .settling .halted = true ∧
      changesMode (.readbackChange 0) (readbackDue (inMode .running) .stop .high) .running .halted = true ∧
      changesMode (.restart (head 5)) (faulty (inMode .running)) .running .halted = true ∧
      changesMode (.commitMap (head 3)) (faulty servicing) .service .halted = true ∧
      changesMode (.drain (head 5)) (inMode .running) .running .draining = true ∧
      changesMode (.oscillatorReady 9) (counting (inMode .halted)) .halted .unmapped = true ∧
      changesMode (.oscillatorReady 9) (counting (inMode .service)) .service .unmapped = true := by
  exact ⟨exec_after, by decide, by decide +kernel, by decide +kernel, by decide +kernel, by decide +kernel, by decide,
    by decide, by decide, by decide, by decide, by decide +kernel, by decide +kernel, by decide, by decide +kernel,
    by decide +kernel⟩

theorem witness_FleetFramesKeepModeAndSensors :
    frameOf (.withdraw (head 3) 0 7) = some ⟨head 3, .withdraw, [0, 0, 7]⟩ ∧
      lockedState.control.mode.operating = true ∧ lockedState.enrolledSlot 3 = some 0 ∧
      lockedState.isSafety 0 = false ∧
      exec (.withdraw (head 3) 0 7) lockedState = .next (after (.withdraw (head 3) 0 7) lockedState) :=
  ⟨by decide, by decide, by decide, by decide, exec_after _ _⟩

theorem witness_AcceptanceTable :
    (inMode .unmapped).control.mode = .unmapped ∧ (inMode .service).control.mode = .service ∧
      (inMode .running).control.mode ≠ .unmapped ∧ (inMode .running).control.mode ≠ .service ∧
      (inMode .running).enrolledSlot 15 = none ∧ (inMode .running).enrolledSlot 3 = some 0 ∧
      (inMode .running).map.enrolment[(0 : MasterSlot)].role ≠ .safety ∧
      (inMode .running).enrolledSlot 5 = some 1 ∧ (inMode .running).map.enrolment[(1 : MasterSlot)].role = .safety ∧
      (haltedFrom .draining).control.prior = .draining := by decide

theorem witness_UntakenFramesChangeNothing :
    frameOf (.drain (head 7)) = some ⟨head 7, .drain, []⟩ ∧ (inMode .running).power.phase = .running ∧
      (inMode .running).liu.line = .idle ∧ (inMode .running).liu.pulse = none ∧ (inMode .running).liu.attempt = none ∧
      (∀ m ∈ [Mode.running, .settling], ∀ n ∈ [(7 : Node), 5, 3],
        (inMode m).hearsFrame ⟨head n, .drain, []⟩ = true) ∧
      (withLine (inMode .running) .busy).hearsFrame ⟨head 7, .drain, []⟩ = false ∧
      (inMode .running).judge .drain 7 = .noTail ∧
      (inMode .settling).judge .drain 5 = .refuse (.refusedMode .settling) ∧
      (inMode .running).judge .drain 3 = .refuse .refusedRole ∧
      frameOf (.commitMap (head 5)) = some ⟨head 5, .commitMap, []⟩ ∧
      servicing.hearsFrame ⟨head 5, .commitMap, []⟩ = true ∧
      servicing.control.mode = .service ∧ servicing.decoder.service ≠ some 5 := by decide

theorem witness_IdentifyAndLinePattern :
    (inMode .unmapped).Hears (.identify (head 15)) ∧ (inMode .running).Hears (.linePattern (head 0)) ∧
      (after .lineBusy (inMode .running)).Hears (.linePattern (head 0)) :=
  ⟨hears_iff.mp (by decide), hears_iff.mp (by decide), hears_iff.mp (by decide)⟩

def withLatches (s : State) : State :=
  { s with decoder := { s.decoder with latches := s.decoder.latches.set 14 (some (s.snapshot 14)) } }

theorem witness_SnapshotInTwoParts :
    ((inMode .running).map.enrolment[(1 : MasterSlot)].inUse = true ∧
      (inMode .running).map.enrolment[(1 : MasterSlot)].node = 5 ∧
      (∀ j : MasterSlot, j < 1 → (inMode .running).map.enrolment[j].inUse = true →
        (inMode .running).map.enrolment[j].node ≠ 5) ∧
      ∀ k : MasterSlot, (inMode .running).map.enrolment[k].inUse = true →
        (inMode .running).map.enrolment[k].node ≠ 7) ∧
    ((inMode .unmapped).Takes (.queryJunctionPart1 (head 14) 1) ∧
      (inMode .running).Takes (.queryJunctionPart1 (head 3) 1) ∧
      (inMode .unmapped).Takes (.queryJunctionPart1 (head 15) 1) ∧
      (inMode .unmapped).Takes (.queryJunctionPart1 (head 14) 3)) ∧
    (withLatches (inMode .unmapped)).Takes (.queryJunctionPart2 (head 14)) ∧
      (head 14).src.val = (14 : Fin 15).val ∧
      (withLatches (inMode .unmapped)).decoder.latches[(14 : Fin 15)] = some ((inMode .unmapped).snapshot 14) ∧
      (inMode .unmapped).Takes (.queryJunctionPart2 (head 15)) ∧ (head 15).src = 15 ∧
      (inMode .unmapped).Takes (.queryJunctionPart2 (head 0)) ∧
      (inMode .unmapped).decoder.latches[(0 : Fin 15)] = none ∧ (0 : Byte) ≠ 1 ∧ (3 : Byte) ≠ 2 :=
  ⟨⟨by decide, by decide, by decide, by decide⟩,
    ⟨takes_iff.mp (by decide), takes_iff.mp (by decide), takes_iff.mp (by decide), takes_iff.mp (by decide)⟩,
    takes_iff.mp (by decide), rfl, by decide, takes_iff.mp (by decide), rfl, takes_iff.mp (by decide), by decide,
    by decide, by decide⟩

theorem test_attention_takes_the_highest_condition :
    (inMode .running).attention = .none ∧ lockedState.attention = .lockPending ∧ (inMode .halted).attention = .halted ∧
      (withLine (lockedState.setCell 2 { CellRec.reset with intruded := true }) .stuck).attention = .lineStuck ∧
      (after (.noiseRun 24) (inMode .running)).attention = .lineError := by decide

theorem witness_QueriesReportRecords :
    runningEntered.Takes (.queryPassage (head 3) 24) ∧ 23 < (24 : Byte).toNat ∧
      runningEntered.Takes (.queryPassage (head 3) 23) ∧ runningEntered.passage 23 = none ∧
      runningEntered.Takes (.queryPassage (head 5) 0) ∧ runningEntered.passage 0 = some entered ∧
      entered.deadline.run = some { kind := .dwell, window := 663, clock := .armed 350 } ∧
      runningQueued.Takes (.queryPassage (head 3) 0) ∧ (passage .queued).deadline.run = none ∧
      runningEntered.Takes (.queryCell (head 3) 32) ∧ 31 < (32 : Byte).toNat ∧
      runningEntered.Takes (.queryCell (head 3) 31) ∧ (31 : Byte).toNat = (31 : CellId).val :=
  ⟨takes_iff.mp (by decide), by decide, takes_iff.mp (by decide), by decide, takes_iff.mp (by decide), by decide, rfl,
    takes_iff.mp (by decide), rfl, takes_iff.mp (by decide), by decide, takes_iff.mp (by decide), by decide⟩

theorem witness_QueryLineEmptiesTheRecord :
    (after (.noiseRun 24) (inMode .running)).Takes (.queryLine (head 3)) ∧
      (inMode .running).Takes (.queryLine (head 3)) ∧
      (inMode .running).liu.error = { kind := .none, stamp := 0, overrun := false } :=
  ⟨takes_iff.mp (by decide), takes_iff.mp (by decide), by decide⟩

/-! #### The Reservation Book -/

def fullPool : State :=
  let s := inMode .running
  { s with book := { s.book with
      pool := Vector.ofFn fun p => some { passage .queued with carrier := BitVec.ofNat 16 (100 + p.val) } } }

theorem namesUnique_of_carriers {s : State}
    (h : ∀ p q, s.passage p = some q → q.carrier.toNat = 100 + p.val) : s.NamesUnique := by
  intro p x q r hq hr _ hc
  have h1 := h p q hq
  have h2 := h x r hr
  rw [hc] at h1
  exact Fin.ext (by omega)

def request (length : BitVec 16) (route : Byte) : Instr := .requestPassage (head 3) 7 route 0x41 120 length

def fullQueue : State := (inMode .running).setQueue 0 [1, 2, 3]

theorem witness_RequestChecksInOrder :
    ((inMode .running).Takes (request 400 48) ∧ (inMode .running).enrolledSlot 3 = some 0 ∧
      (inMode .running).NamesUnique ∧ 47 < (48 : Byte).toNat) ∧
    ((47 : Byte).toNat = (47 : RouteId).val ∧ (inMode .running).map.working.routes[(47 : RouteId)].inUse = false) ∧
    ((0 : Byte).toNat = (0 : RouteId).val ∧ (inMode .running).map.working.routes[(0 : RouteId)].inUse = true ∧
      400 < (401 : BitVec 16).toNat ∧ (400 : BitVec 16).toNat ≤ 400) ∧
    (runningQueued.Takes (request 400 0) ∧ runningQueued.NamesUnique ∧
      runningQueued.passage 0 = some (passage .queued) ∧ (passage .queued).carrier = 7) ∧
    (fullPool.Takes (request 400 0) ∧ fullPool.NamesUnique ∧ (∀ p, fullPool.passage p ≠ none) ∧
      ∀ p, ∀ q ∈ fullPool.passage p, q.carrier ≠ 7) ∧
    fullQueue.Takes (request 400 0) ∧ fullQueue.NamesUnique ∧ fullQueue.passage 0 = none ∧
      fullQueue.map.working.approaches[(0 : ApproachId)].limit ≤ (fullQueue.queue 0).length :=
  ⟨⟨takes_iff.mp (by decide), by decide, namesUnique_of_onlyP0 (by decide), by decide⟩, ⟨by decide, by decide⟩,
    ⟨by decide, by decide, by decide, by decide⟩,
    ⟨takes_iff.mp (by decide), namesUnique_of_onlyP0 (by decide), by decide, rfl⟩,
    ⟨takes_iff.mp (by decide),
      namesUnique_of_carriers (by
        have h : ∀ p, ∀ q ∈ fullPool.passage p, q.carrier.toNat = 100 + p.val := by decide +kernel
        exact fun p q => h p q),
      by decide +kernel, by decide +kernel⟩,
    takes_iff.mp (by decide), namesUnique_of_onlyP0 (by decide), by decide, by decide⟩

theorem witness_RequestAdmitted :
    (∀ s ∈ [inMode .running, inMode .settling],
      s.Takes (request 400 0) ∧ s.enrolledSlot 3 = some 0 ∧ (0 : Byte).toNat = (0 : RouteId).val ∧
      s.map.working.routes[(0 : RouteId)].inUse = true ∧ (400 : BitVec 16).toNat ≤ 400 ∧
      (∀ x, s.passage x = none) ∧ s.ListLaw ∧ s.queue 0 = []) ∧
    runningQueued.Takes (.requestPassage (head 3) 8 0 0x41 120 400) ∧ runningQueued.passage 1 = none ∧
      (∀ x, x < 1 → runningQueued.passage x ≠ none) ∧ runningQueued.ListLaw ∧
      (runningQueued.queue 0).length < runningQueued.map.working.approaches[(0 : ApproachId)].limit ∧
      ∀ x, ∀ q ∈ runningQueued.passage x, q.carrier ≠ 8 := by
  refine ⟨?_, takes_iff.mp (by decide), by decide, by decide, listLaw_of_lists (by decide), by decide, by decide⟩
  intro s hs
  rcases List.mem_pair.mp hs with rfl | rfl <;>
    exact ⟨takes_iff.mp (by decide), by decide, by decide, by decide, by decide, by decide,
      listLaw_of_lists (by decide), by decide⟩

theorem witness_WithdrawChecks :
    (∀ s ∈ [inMode .unmapped, inMode .service, inMode .running, runningEntered], ∀ n ∈ [(3 : Node), 5, 7],
        hears s (.withdraw (head n) 0 7) = true) ∧
      (inMode .running).enrolledSlot 7 = none ∧
      runningEntered.enrolledSlot 3 = some 0 ∧ 23 < (24 : Byte).toNat ∧
      (∀ q ∈ runningEntered.passage 0, q.carrier ≠ 8) ∧ runningEntered.passage 0 = some entered ∧
      entered.carrier = 7 ∧ entered.master = 0 ∧ entered.state = .entered ∧
      runningEntered.enrolledSlot 5 = some 1 ∧ entered.master ≠ 1 := by decide

theorem witness_WithdrawAndForceRemove :
    (runningGranted.Takes (.withdraw (head 3) 0 7) ∧ (0 : Byte).toNat = (0 : Slot).val ∧
      runningGranted.passage 0 = some granted ∧ granted.carrier = 7 ∧
      runningGranted.enrolledSlot 3 = some granted.master ∧ granted.state ≠ .entered ∧ runningGranted.SingleGrant ∧
      (runningGranted.cellsOf granted).Nodup) ∧
    (runningQueued.Takes (.withdraw (head 3) 0 7) ∧ runningQueued.passage 0 = some (passage .queued) ∧
      runningQueued.SingleGrant) ∧
    (runningEntered.Takes (.forceRelease (head 5) 24 7) ∧ 23 < (24 : Byte).toNat ∧
      ∀ q ∈ runningEntered.passage 0, q.carrier ≠ 8) ∧
    runningEntered.Takes (.forceRelease (head 5) 0 7) ∧ runningEntered.passage 0 = some entered ∧
      runningEntered.SingleGrant :=
  ⟨⟨takes_iff.mp (by decide), rfl, by decide, rfl, by decide, by decide, singleGrant_of_onlyP0 (by decide),
      by decide⟩,
    ⟨takes_iff.mp (by decide), by decide, singleGrant_of_onlyP0 (by decide)⟩,
    ⟨takes_iff.mp (by decide), by decide, by decide⟩,
    takes_iff.mp (by decide), by decide, singleGrant_of_onlyP0 (by decide)⟩

theorem witness_LockCells :
    lockedState.Takes (.lockCells (head 5) 0) ∧ lockedState.Takes (.lockCells (head 5) 0x80000004) ∧
      (0x80000004 : BitVec 32).getLsbD (31 : CellId).val = true ∧
      lockedState.map.working.cells[(31 : CellId)].inUse = false ∧
      (∀ d : CellId, d < 31 → (0x80000004 : BitVec 32).getLsbD d.val = true →
        lockedState.map.working.cells[d].inUse = true) ∧
      lockedState.Takes (.lockCells (head 5) 7) ∧ (7 : BitVec 32) ≠ 0 ∧
      ∀ c : CellId, (7 : BitVec 32).getLsbD c.val = true → lockedState.map.working.cells[c].inUse = true :=
  ⟨takes_iff.mp (by decide), takes_iff.mp (by decide), by decide, by decide, by decide, takes_iff.mp (by decide),
    by decide, by decide⟩

theorem witness_UnlockCells :
    lockedState.Takes (.unlockCells (head 5) 0) ∧ lockedState.Takes (.unlockCells (head 5) 0x80000004) ∧
      lockedState.Takes (.unlockCells (head 5) 7) ∧ lockedState.Takes (.unlockCells (head 5) 1) ∧
      (lockedState.cell 1).lock ≠ .none ∧ (lockedState.cell 0).lock = .none ∧
      ∀ c : CellId, (7 : BitVec 32).getLsbD c.val = true → lockedState.map.working.cells[c].inUse = true :=
  ⟨takes_iff.mp (by decide), takes_iff.mp (by decide), takes_iff.mp (by decide), takes_iff.mp (by decide), by decide,
    by decide, by decide⟩

/-! #### The Grant Arbiter, windows, notices -/

def younger : Passage := { passage .queued with carrier := 8, priority := 2 }

theorem witness_GrantOrderIsStrict :
    ([((0 : Slot), passage .queued), (1, younger)].map Prod.fst).Nodup ∧
      ∀ x ∈ [((0 : Slot), passage .queued), (1, younger)], x.1 ∈ [(0 : Slot), 1] := by decide

theorem witness_GrantEffect :
    (passage .queued).deadline = { run := none, halt := false, extStop := false } ∧
      (runningQueued.signal (runningQueued.approachOf (passage .queued))).extStop = false ∧
      runningQueued.passage 0 = some (passage .queued) := by decide

def blindRoute : State :=
  let blind : CellRec := { CellRec.reset with occupancy := .blind, heard := .blind }
  ((runningQueued.setCell 0 blind).setCell 1 blind).setCell 2 blind

theorem witness_CandidatesAndEligibleCells :
    (inMode .running).queue 0 = [] ∧ (runningQueued.queue 0).head? = some 0 ∧
      runningQueued.passage 0 = some (passage .queued) ∧
      (∃ c ∈ runningQueued.cellsOf (passage .queued), (runningQueued.cell c).occupancy ≠ .blind) ∧
      (∀ c ∈ blindRoute.cellsOf (passage .queued), (blindRoute.cell c).occupancy = .blind) ∧
      blindRoute.marks[(0 : ApproachId)] ≠ some 0 ∧
      (∀ c ∈ runningQueued.cellsOf (passage .queued), (runningQueued.cell c).holder = none ∧
        (runningQueued.cell c).lock = .none ∧ (runningQueued.cell c).intruded = false ∧
        (runningQueued.cell c).reservation = none) ∧
      ((runningQueued.grantPass none).cell 0).holder ≠ (runningQueued.cell 0).holder := by decide

theorem witness_SkipsAndReservations :
    (inMode .draining).control.mode ≠ .running ∧ runningQueued.control.mode = .running ∧
      ([((0 : Slot), passage .queued)].map Prod.fst).Nodup ∧ runningQueued.passage 0 = some (passage .queued) ∧
      ([0, 1] : List Slot).idxOf 0 < ([0, 1] : List Slot).idxOf 1 ∧
      (0 : CellId) ∈ runningQueued.cellsOf younger ∧ (0 : CellId) ∈ runningQueued.cellsOf (passage .queued) ∧
      (passage .queued).skips < runningQueued.map.working.options.skipLimit ∧
      (let q := { passage .queued with skips := 4, blocking := true }
       runningQueued.map.working.options.skipLimit ≤ q.skips ∧
         (withPassage (inMode .running) q).passage 0 = some q ∧ q.state = .queued ∧ q.blocking = true ∧
         (∀ c, ((withPassage (inMode .running) q).cell c).reservation ≠ some 0) ∧
         ∀ c ∈ (withPassage (inMode .running) q).cellsOf q,
           ((withPassage (inMode .running) q).cell c).reservation = none) := by decide

theorem witness_WindowsAndFreezing :
    0 < guideOptions.tick ∧ 8 ≤ guideOptions.dwell ∧ 0 < 1 ∧ (0, 50) ∈ [(0, 50), (1, 40), (2, 25), (3, 15)] ∧
      ({ run := none, halt := false, extStop := false } : Deadline).run = none ∧
      granted.deadline.run = some { kind := .arrival, window := 663, clock := .armed 663 } ∧
      granted.deadline.halt = false ∧ granted.deadline.extStop = false ∧
      (running .dwell (.frozen 1) true).run = some { kind := .dwell, window := 663, clock := .frozen 1 } ∧
      (running .dwell (.frozen 1) true).halt = true ∧ (running .dwell (.frozen 1) true).extStop = false := by decide

theorem witness_PostingRule :
    (inMode .running).map.enrolment[(2 : MasterSlot)].inUse = false ∧
      (inMode .running).map.enrolment[(0 : MasterSlot)].inUse = true ∧
      ((withNotices (inMode .running) 15).notices.fifos[(0 : MasterSlot)].queue.length = 15) ∧
      ((withNotices (inMode .running) 16).notices.fifos[(0 : MasterSlot)].queue.length = 16) ∧
      (inMode .running).map.enrolment[(0 : MasterSlot)].option = .keepNewest ∧
      (withNotices (inMode .running) 16).liu.shifter.map TxFrame.slot = some 0 ∧
      (inMode .running).map.enrolment[(1 : MasterSlot)].option = .keepOldest := by decide

/-- One notice each for M1 and M3, and the pointer at M4. -/
def twoWaiting (shifter : Option TxFrame) : State :=
  let s := ((inMode .running).setFifo 1 { queue := [flushedNote], lost := false }).setFifo 3
    { queue := [flushedNote], lost := false }
  { s with notices := { s.notices with pointer := 4 }, liu := { s.liu with shifter := shifter } }

/-- From M4 on the search comes to M1 before M3, and to M3 when the head of M1 is in the shifter. -/
theorem witness_Selects :
    ((twoWaiting none).NextSlot 1 ∧ (twoWaiting none).liu.shifter = none ∧
      (twoWaiting none).notices.fifos[(1 : MasterSlot)].queue.head? = some flushedNote) ∧
    let sent := twoWaiting (some { slot := 1, notice := flushedNote })
    sent.NextSlot 3 ∧ sent.liu.staged = none ∧ sent.notices.fifos[(3 : MasterSlot)].queue.head? = some flushedNote := by
  refine ⟨⟨⟨⟨by decide, by intro f hf; cases hf⟩, fun x hx => ?_⟩, by decide, by decide⟩,
    ⟨⟨by decide, by intro f hf; cases hf; decide⟩, fun x hx => ?_⟩, by decide, by decide⟩
  · have h := hx.1
    clear hx; revert x; decide
  · have h := hx.1
    have h1 := hx.2 _ rfl
    clear hx; revert x; decide

theorem test_selection_takes_the_first_from_the_pointer :
    (twoWaiting none).select.liu.shifter = some { slot := 1, notice := flushedNote } ∧
      (twoWaiting none).select.notices.pointer = 2 ∧
      (twoWaiting none).select.select.liu.staged = some { slot := 3, notice := flushedNote } ∧
      (twoWaiting none).select.select.notices.pointer = 4 := by decide

/-- The notice frame of `attempting`, as worked out outside the model. -/
def sentFrame : List Byte := [0xBF, 0x39, 0x40, 0, 0, 7, 0, 0, 0, 0, 0x49]

theorem witness_NoticeAttempt :
    (inMode .running).power.phase = .running ∧
      (withNotices (inMode .running) 2).liu.shifter = some { slot := 0, notice := flushedNote } ∧
      (withNotices (inMode .running) 2).liu.line = .idle ∧ (withNotices (inMode .running) 2).liu.pulse = none ∧
      (withNotices (inMode .running) 2).control.mode ≠ .unmapped ∧ (inMode .running).liu.shifter = none ∧
      (attempting (inMode .running) 0).liu.attempt = some { lost := false, bytes := sentFrame } ∧
      (attempting (inMode .running) 0).liu.line = .busy ∧ (attempting (inMode .running) 0).liu.pulse = none ∧
      ((0xBF : Byte) ++ (0x39 : Byte)).getMsbD (0 : Fin 16).val = true ∧
      ((0xBF : Byte) ++ (0x39 : Byte)).getMsbD (15 : Fin 16).val = true ∧
      ((0xBF : Byte) ++ (0x39 : Byte)).getMsbD (1 : Fin 16).val = false ∧
      frameOf (.linePattern (head 3)) = some ⟨head 3, .linePattern, []⟩ ∧
      Frame.bytes 9 ⟨head 3, .linePattern, []⟩ = [0x61, 0x93, crc8 [0x61, 0x93]] := by decide +kernel

theorem witness_NoticeOutcomes :
    (attempting (inMode .running) 1).power.phase = .running ∧
      (attempting (inMode .running) 1).liu.attempt = some { lost := false, bytes := sentFrame } ∧
      (attempting (inMode .running) 1).liu.shifter = some { slot := 0, notice := flushedNote } ∧
      (attempting (inMode .running) 1).notices.attempts < 2 ∧ 2 ≤ (attempting (inMode .running) 2).notices.attempts := by
  decide +kernel

/-! #### The floor line -/

/-- The bytes of IDENTIFY with every stop bit recessive. -/
def identifyRead : List (Byte × Bool) := [(0x60, true), (0x93, true), (0x5A, true)]

theorem witness_LineStatesAndErrors :
    (inMode .running).power.phase = .running ∧ (inMode .running).liu.line = .idle ∧
      (withLine (inMode .running) .busy).liu.line = .busy ∧ (inMode .running).liu.attempt = none ∧
      (inMode .running).liu.pulse = none ∧ (24 ≤ 24 ∧ 24 < 80 ∧ 79 < 80 ∧ 80 ≤ 80 ∧ 23 < 24) ∧
      (after (.identify (head 3)) (inMode .running)).liu.tail.any Tail.sending = true ∧
      (inMode .running).hears foreign = true ∧ (withLine (inMode .running) .stuck).liu.line ≠ .idle ∧
      (0 : BitVec 4) ≠ 1 ∧
      ((0xA3 : Byte).extractLsb' 4 4).toNat ≠ (inMode .running).liu.own.val ∧
      (0x7F : Byte).extractLsb' 0 5 = 31 ∧ ((0x7E : Byte).extractLsb' 0 5).toNat = 30 ∧
      foreign.tail = ((0x20 : Byte), true) :: [] ∧
      ([] : List (Byte × Bool)).length ≤ ((0x20 : Byte).extractLsb' 5 3).toNat + 1 ∧
      ([] : List (Byte × Bool)).length ≤ Kind.identify.payloadLength + 1 ∧
      ((0x93 : Byte).extractLsb' 4 4).toNat = (inMode .running).liu.own.val ∧
      23 ≤ ((0x77 : Byte).extractLsb' 0 5).toNat ∧ (0x60 : Byte).extractLsb' 0 5 = Kind.identify.code ∧
      [((0x5A : Byte), true)].length = Kind.identify.payloadLength + 1 ∧
      (∃ b ∈ [((0x5A : Byte), false)], b.2 = false) ∧
      some (crc8 [0x60, 0x93]) ≠ [((0x5B : Byte), true)].getLast?.map Prod.fst ∧
      some (crc8 [0x60, 0x93]) = [((0x5A : Byte), true)].getLast?.map Prod.fst := by decide +kernel

theorem witness_HaltPulse :
    ([Mode.unmapped, .service, .settling, .running, .draining, .halted].all fun m =>
      (inMode m).power.phase = .running && (inMode m).liu.line = .idle && !(inMode m).control.causes.haltPulse &&
        (inMode m).control.mode = m) = true ∧
      (after .haltPulseStart (inMode .running)).liu.line = .haltPulse ∧
      (after .haltPulseStart (inMode .running)).liu.pulse = none ∧
      (after .haltPulseStart (inMode .running)).control.mode = .halted ∧
      (after .haltPulseStart (inMode .running)).control.causes.haltPulse = true := by decide

/-- A GRANTED passage whose approach is externally stopped, its ARRIVAL frozen with 100 ticks left. -/
def stoppedPassage : Passage :=
  { granted with deadline := { running .arrival (.frozen 100) false with extStop := true } }

def externallyStopped : State :=
  (withPassage (inMode .running) stoppedPassage).setSignal 0
    { SignalRec.reset with latch := .go, raw := .low, filtered := .low, extStop := true }

/-- An ENTERED passage whose DWELL floor time has just reached. -/
def justReached : State := withPassage (inMode .running) { entered with deadline := running .dwell (.armed 0) false }

theorem witness_HaltPulse_deadlines :
    externallyStopped.HeldExternally stoppedPassage ∧ externallyStopped.SingleGrant ∧
      externallyStopped.passage 0 = some stoppedPassage ∧ stoppedPassage.live = true ∧
      (after .haltPulseStart externallyStopped).passage 0 =
        some { granted with deadline := running .arrival (.frozen 100) true } ∧
      justReached.timer.floor = 0 ∧
      (after .haltPulseStart justReached).passage 0 =
        some { entered with deadline := running .dwell (.frozen 1) true } ∧
      (let q := { entered with deadline := { run := none, halt := false, extStop := false } }
       (after .haltPulseStart (withPassage (inMode .running) q)).passage 0 =
         some { q with deadline := { run := none, halt := true, extStop := false } }) :=
  ⟨⟨rfl, by decide, by decide⟩, singleGrant_of_onlyP0 (by decide), by decide, rfl, by decide +kernel, rfl,
    by decide +kernel, by decide +kernel⟩

theorem witness_StuckLine :
    (after .haltPulseStart (inMode .running)).liu.line = .haltPulse ∧
      (withLine (inMode .running) .haltPulse).control.mode = .running ∧
      (after .lineStuck (withLine (inMode .running) .haltPulse)).liu.line = .stuck ∧
      (after .lineStuck (withLine (inMode .running) .haltPulse)).liu.pulse = none ∧
      (after .lineStuck (withLine (inMode .running) .haltPulse)).control.causes.lineStuck = true := by decide

/-! #### Sensors, inputs and the Tracker -/

def standby : State :=
  let s := changed runningEntered 2 .blind .blind
  s.setSensor 2 { s.sensor 2 with mode := .standby }

theorem witness_SetSensor :
    (inMode .running).Takes (.setSensor (head 5) 32 0) ∧ 31 < (32 : Byte).toNat ∧
      (inMode .running).Takes (.setSensor (head 5) 31 0) ∧
      (inMode .running).map.working.cells[(31 : CellId)].inUse = false ∧
      (inMode .running).Takes (.setSensor (head 5) 2 2) ∧ 1 < (2 : Byte).toNat ∧
      (inMode .running).map.working.cells[(2 : CellId)].inUse = true ∧
      (inMode .running).Takes (.setSensor (head 5) 2 1) ∧ (1 : Byte) = SensorMode.standby.code ∧
      ((inMode .running).sensor 2).mode ≠ .standby ∧ ((inMode .running).sensor 2).mode = .active ∧
      (runningEntered.Takes (.setSensor (head 5) 2 1) ∧ runningEntered.HolderLaw) ∧
      standby.Takes (.setSensor (head 5) 2 0) ∧ standby.HolderLaw ∧ (standby.sensor 2).mode ≠ .active ∧
      (standby.cell 2).heard ≠ .free ∧ (standby.cell 2).occupancy = .blind :=
  ⟨takes_iff.mp (by decide), by decide, takes_iff.mp (by decide), by decide, takes_iff.mp (by decide), by decide,
    by decide, takes_iff.mp (by decide), by decide, by decide, by decide,
    ⟨takes_iff.mp (by decide), holderLaw_of_checks (by decide) (by decide) (by decide)⟩,
    takes_iff.mp (by decide), holderLaw_of_checks (by decide) (by decide) (by decide), by decide, by decide, by decide⟩

theorem witness_ScanFiltersInputs :
    (inMode .running).power.phase = .running ∧ (inMode .running).control.mode.operating = true ∧
      (inMode .running).map.working.cells[(2 : CellId)].inUse = true ∧ ((inMode .running).sensor 2).mode = .active ∧
      (inMode .running).map.working.cells[(3 : CellId)].inUse = false ∧
      ((inMode .running).sensor 2).count + 1 < (inMode .running).map.working.options.depth ∧
      (let s := (inMode .running).setSensor 2 { SensorRec.reset with count := 2 }
       s.map.working.options.depth ≤ (s.sensor 2).count + 1) ∧ (inMode .settling).control.mode = .settling := by decide

theorem witness_EntryMovesThePassage :
    let s := changed runningGranted 0 .occupied .free
    s.power.phase = .running ∧ s.control.mode.operating = true ∧ (s.cell 0).occupancy = .occupied ∧
      (s.cell 0).heard ≠ .occupied ∧ (s.cell 0).holder = some 0 ∧ s.passage 0 = some granted ∧
      granted.state = .granted ∧ granted.deadline.kind = .arrival ∧ (s.cellsOf granted)[0]? = some 0 ∧
      (∀ d ∈ (s.cellsOf granted).take 0, (s.cell d).heard = .blind) ∧ (s.cellsOf granted).Nodup ∧ s.SingleGrant ∧
      (s.signal (s.approachOf granted)).latch = .go := by
  refine ⟨by decide, by decide, by decide, by decide, by decide, by decide, rfl, rfl, by decide, by decide, by decide,
    singleGrant_of_onlyP0 (by decide), by decide⟩

theorem witness_AdvanceMovesThePosition :
    let s := changed runningEntered 2 .occupied .free
    s.power.phase = .running ∧ s.HolderLaw ∧ s.control.mode.operating = true ∧ (s.cell 2).occupancy = .occupied ∧
      (s.cell 2).heard ≠ .occupied ∧ (s.cell 2).holder = some 0 ∧ s.passage 0 = some entered ∧
      entered.state = .entered ∧ entered.position = some 1 ∧ (s.cellsOf entered)[2]? = some 2 ∧
      entered.deadline.kind ≠ .arrival :=
  ⟨by decide, holderLaw_of_checks (by decide) (by decide) (by decide), by decide, by decide, by decide, by decide,
    by decide, rfl, rfl, by decide, by decide⟩

/-- `MeetsRelease`, as a check. -/
def meetsRelease (heard : CellId → Occupancy) (pos : Nat) (cells : List CellId) (i : Nat) : Bool :=
  (List.range cells.length).any fun j => (cells[j]?).any fun c =>
    decide (i ≤ j) && decide (heard c = .free) &&
      ((List.range cells.length).all fun x => (cells[x]?).all fun d =>
        decide (i ≤ x → x < j → heard d = .blind)) &&
      (decide (j < pos) || decide (j = pos) &&
        (List.range cells.length).all fun x => (cells[x]?).all fun d => decide (j < x → heard d = .blind))

theorem meetsRelease_iff {heard : CellId → Occupancy} {pos : Nat} {cells : List CellId} {i : Nat} :
    MeetsRelease heard pos cells i ↔ meetsRelease heard pos cells i = true := by
  have all : ∀ f : Nat → CellId → Prop, (∀ x, x < cells.length → ∀ d, cells[x]? = some d → f x d) ↔
      ∀ x d, cells[x]? = some d → f x d :=
    fun f => ⟨fun h x d hd => h x (List.getElem?_eq_some_iff.mp hd).1 d hd, fun h x _ d hd => h x d hd⟩
  simp only [meetsRelease, MeetsRelease, List.any_eq_true, List.all_eq_true, List.mem_range, Option.any_eq_true,
    Option.all_eq_true, Bool.and_eq_true, Bool.or_eq_true, decide_eq_true_eq, all]
  constructor
  · rintro ⟨j, c, hij, hj, hc, hb, ha⟩
    exact ⟨j, (List.getElem?_eq_some_iff.mp hj).1, c, hj, ⟨⟨hij, hc⟩, fun x d hd h1 h2 => hb x d h1 h2 hd⟩,
      ha.imp_right fun h => ⟨h.1, fun x d hd h1 => h.2 x d h1 hd⟩⟩
  · rintro ⟨j, -, c, hj, ⟨⟨hij, hc⟩, hb⟩, ha⟩
    exact ⟨j, c, hij, hj, hc, fun x d h1 h2 hd => hb x d hd h1 h2,
      ha.imp_right fun h => ⟨h.1, fun x d h1 hd => h.2 x d hd h1⟩⟩

theorem releaseCount_of_check {s : State} {q : Passage} {pos : Nat} {heard : CellId → Occupancy} {n : Nat}
    (h : ((List.range n).all (fun x => meetsRelease heard pos (s.cellsOf q) (q.firstHeld + x)) &&
      !meetsRelease heard pos (s.cellsOf q) (q.firstHeld + n)) = true) : ReleaseCount s q pos heard n := by
  simp only [Bool.and_eq_true, List.all_eq_true, List.mem_range, Bool.not_eq_true'] at h
  exact ⟨fun x hx => meetsRelease_iff.mpr (h.1 x hx), fun hm => by rw [meetsRelease_iff, h.2] at hm; cases hm⟩

theorem witness_IntrusionMarksTheCell :
    (let s := changed (inMode .running) 31 .occupied .free
     s.power.phase = .running ∧ s.control.mode.operating = true ∧ (s.cell 31).occupancy = .occupied ∧
       (s.cell 31).heard ≠ .occupied ∧ (s.cell 31).holder = none) ∧
    (let s := changed runningGranted 2 .occupied .free
     (s.cell 2).holder = some 0 ∧ s.passage 0 = some granted ∧ granted.state = .granted ∧
       (s.cellsOf granted)[0]? = some 0 ∧ (s.cell 0).heard ≠ .blind) ∧
    (let q := { entered with position := some 0 }
     let s := changed (withPassage (inMode .running) q) 2 .occupied .free
     (s.cell 2).holder = some 0 ∧ s.passage 0 = some q ∧ q.state = .entered ∧ s.HolderLaw ∧
       (s.cellsOf q)[2]? = some 2 ∧ (s.cellsOf q)[1]? = some 1 ∧ (s.cell 1).heard ≠ .blind ∧
       ¬ MeetsRelease (fun e => if e = 2 then .occupied else (s.cell e).heard) 0 (s.cellsOf q) q.firstHeld) ∧
    (let s := changed runningEntered 0 .occupied .free
     (s.cell 0).holder = some 0 ∧ s.passage 0 = some entered ∧ s.HolderLaw ∧ entered.position = some 1 ∧
       (s.cellsOf entered)[0]? = some 0 ∧
       ¬ MeetsRelease (fun e => if e = 0 then .occupied else (s.cell e).heard) 1 (s.cellsOf entered) 0) :=
  ⟨by decide, by decide, ⟨by decide, by decide, rfl, holderLaw_of_checks (by decide) (by decide) (by decide), by decide,
      by decide, by decide, by rw [meetsRelease_iff]; decide⟩,
    by decide, by decide, holderLaw_of_checks (by decide) (by decide) (by decide), rfl, by decide,
    by rw [meetsRelease_iff]; decide⟩

theorem witness_ReleaseBehindTheCarrier :
    (let s := (changed (inMode .running) 2 .free .occupied).setCell 2
      { (changed (inMode .running) 2 .free .occupied).cell 2 with intruded := true }
     s.HolderLaw ∧ (s.cell 2).occupancy ≠ .occupied ∧ (s.cell 2).heard ≠ (s.cell 2).occupancy ∧
       (s.cell 2).intruded = true ∧ (s.cell 2).holder = none) ∧
    (let q := { entered with position := some 2, firstHeld := 2 }
     let s := changed (withPassage (inMode .draining) q) 2 .free .occupied
     s.HolderLaw ∧ s.passage 0 = some q ∧ (s.cell 2).holder = some 0 ∧ s.heldRun q = [2] ∧
       ReleaseCount s q 2 (fun d => if d = 2 then .free else (s.cell d).heard) 1) ∧
    (let s := changed (changed runningEntered 2 .blind .blind) 1 .blind .occupied
     s.HolderLaw ∧ (s.cell 1).occupancy = .blind ∧ (s.cell 1).heard ≠ .blind ∧ (s.cell 1).holder = some 0 ∧
       s.passage 0 = some entered ∧ (s.cellsOf entered).getLast? = some 2 ∧ entered.deadline.kind ≠ .arrival ∧
       ReleaseCount s entered 1 (fun d => if d = 1 then .blind else (s.cell d).heard) 1 ∧
       ∀ d ∈ (s.heldRun entered).drop 1, (if d = 1 then Occupancy.blind else (s.cell d).heard) = .blind) ∧
    let s := changed runningEntered 0 .free .occupied
    s.power.phase = .running ∧ s.HolderLaw ∧ s.control.mode.operating = true ∧
      (s.cell 0).occupancy = .free ∧ (s.cell 0).heard ≠ .free ∧ (s.cell 0).holder = some 0 ∧
      s.passage 0 = some entered ∧ entered.state = .entered ∧ entered.position = some 1 ∧
      (s.cellsOf entered)[entered.firstHeld]? = some 0 ∧ entered.firstHeld < 1 :=
  ⟨⟨holderLaw_of_checks (by decide) (by decide) (by decide), by decide, by decide, by decide, by decide⟩,
    ⟨holderLaw_of_checks (by decide) (by decide) (by decide), by decide, by decide, by decide,
      releaseCount_of_check (by decide)⟩,
    ⟨holderLaw_of_checks (by decide) (by decide) (by decide), by decide, by decide, by decide, by decide, by decide,
      by decide, releaseCount_of_check (by decide), by decide⟩,
    by decide, holderLaw_of_checks (by decide) (by decide) (by decide), by decide, by decide, by decide, by decide,
    by decide, rfl, rfl, by decide, by decide⟩

/-! #### Signals, the emergency input, settling and the timer -/

theorem witness_ReadbackIsJudged :
    ((inMode .running).signal 0).due = false ∧
      (let s := readbackDue runningGranted .go .low
       s.power.phase = .running ∧ (s.signal 0).due = true ∧ (s.signal 0).latch = .go ∧ (s.signal 0).raw = .low ∧
         s.SingleGrant ∧ s.GrantedAt 0 0 ∧ s.passage 0 = some granted) ∧
      (let s := readbackDue (inMode .running) .stop .high
       (s.signal 0).due = true ∧ (s.signal 0).latch = .stop ∧ (s.signal 0).raw = .high ∧ s.control.mode = .running) ∧
      (let s := readbackDue (haltedFrom .running) .stop .low
       (s.signal 0).due = true ∧ (s.signal 0).latch = .stop ∧ (s.signal 0).raw = .low ∧ s.control.mode = .halted ∧
         ∀ b, b ≠ 0 → (s.signal b).fault = false) :=
  ⟨by decide, ⟨by decide, by decide, by decide, by decide, singleGrant_of_onlyP0 (by decide),
      ⟨granted, by decide, rfl, by decide⟩, by decide⟩, by decide, by decide⟩

theorem witness_EmergencyInput :
    ([Mode.unmapped, .service, .settling, .running, .draining, .halted].all fun m =>
      (emergencyDue m true).power.phase = .running && (emergencyDue m true).control.emergency.due &&
        (emergencyDue m true).control.emergency.rawAsserted && (emergencyDue m true).control.mode = m) = true ∧
      (emergencyDue .halted false).control.emergency.due = true ∧
      (emergencyDue .halted false).control.emergency.rawAsserted = false ∧
      (inMode .running).control.emergency.due = false := by decide

theorem witness_SettlingCompletes :
    settlingDone.power.phase = .running ∧ settlingDone.control.risesDue = 0 + 1 ∧
      settlingDone.control.mode = .settling ∧
      2 * settlingDone.map.working.options.depth ≤ settlingDone.control.settleCount + 1 ∧
      (inMode .settling).control.settleCount + 1 < 2 * (inMode .settling).map.working.options.depth ∧
      (inMode .running).control.risesDue = 0 ∧ (inMode .running).control.mode ≠ .settling := by decide

theorem witness_TickAdvancesFloorTime :
    runningEntered.power.phase = .running ∧
      ∀ p, ∀ q ∈ runningEntered.passage p, ∀ r ∈ q.deadline.run, r.clock ≠ .armed runningEntered.timer.floor := by decide

theorem witness_ExpiryRemovesThePassage :
    (let q := { granted with deadline := running .arrival (.armed 0) false }
     let s := withLatch (withPassage (inMode .running) q)
     s.power.phase = .running ∧ s.passage 0 = some q ∧
       q.deadline.run = some { kind := .arrival, window := 663, clock := .armed s.timer.floor } ∧ s.SingleGrant) ∧
    (let q := { entered with deadline := running .blindClear (.armed 0) false }
     let s := withPassage (inMode .running) q
     s.passage 0 = some q ∧
       q.deadline.run = some { kind := .blindClear, window := 663, clock := .armed s.timer.floor } ∧ s.SingleGrant) ∧
    ∀ p, ∀ q ∈ runningEntered.passage p, ∀ r ∈ q.deadline.run, r.clock ≠ .armed runningEntered.timer.floor :=
  ⟨⟨by decide, by decide, by decide, singleGrant_of_onlyP0 (by decide)⟩,
    ⟨by decide, by decide, singleGrant_of_onlyP0 (by decide)⟩, by decide⟩

theorem witness_DwellExpiry :
    [Overdue.normal, .overdue].all (fun level =>
      let q := { entered with deadline := running .dwell (.armed 0) false, overdue := level }
      let s := withPassage (inMode .running) q
      s.power.phase = .running && s.passage 0 = some q &&
        q.deadline.run = some { kind := .dwell, window := 663, clock := .armed s.timer.floor } &&
        !q.deadline.halt && !q.deadline.extStop && q.overdue ≠ .stalled) = true := by decide

/-! #### Junction modes -/

theorem witness_DrainStopsGranting :
    (∀ m ∈ [Mode.unmapped, .service, .settling, .running, .draining, .halted], ∀ n ∈ [(3 : Node), 5, 7],
        hears (inMode m) (.drain (head n)) = true) ∧
      (inMode .running).enrolledSlot 7 = none ∧ (inMode .settling).enrolledSlot 5 = some 1 ∧
      (inMode .running).enrolledSlot 3 = some 0 ∧ (inMode .running).map.enrolment[(0 : MasterSlot)].role ≠ .safety ∧
      (inMode .running).map.enrolment[(1 : MasterSlot)].role = .safety ∧
      (inMode .draining).map.enrolment[(1 : MasterSlot)].role = .safety := by decide

def haltedGranted : State :=
  withPassage (haltedFrom .running) { granted with deadline := running .arrival (.frozen 400) true }

theorem witness_ResumeLeavesHalted :
    ((inMode .running).Takes (.resume (head 5)) ∧ (inMode .draining).Takes (.resume (head 5))) ∧
    (after .haltPulseEnd (after .haltPulseStart (emergencyDue .running true))).control.causes = .empty ∧
    (let s := (inMode .halted).setControl { (haltedFrom .running).control with causes := { HaltCauses.empty with estop := true } }
     s.Takes (.resume (head 5)) ∧ s.control.causes ≠ .empty) ∧
    ((haltedFrom .settling).Takes (.resume (head 5)) ∧ (haltedFrom .settling).control.causes = .empty ∧
      (haltedFrom .settling).control.emergency.asserted = false ∧
      (∀ a, ((haltedFrom .settling).signal a).fault = false) ∧ ∀ c, ((haltedFrom .settling).cell c).holder = none) ∧
    (haltedFrom .draining).Takes (.resume (head 5)) ∧ haltedGranted.Takes (.resume (head 5)) ∧
      haltedGranted.control.causes = .empty ∧ haltedGranted.control.prior = .running ∧ haltedGranted.GrantedAt 0 0 :=
  ⟨⟨takes_iff.mp (by decide), takes_iff.mp (by decide)⟩, by decide, ⟨takes_iff.mp (by decide), by decide⟩,
    ⟨takes_iff.mp (by decide), by decide, by decide, by decide, by decide⟩, takes_iff.mp (by decide),
    takes_iff.mp (by decide), by decide, by decide, ⟨_, rfl, rfl, by decide⟩⟩

/-- HALTED from SETTLING, with an intruded cell that reads OCCUPIED and one in STANDBY. -/
def unsettled : State :=
  let s := haltedFrom .settling
  let s := s.setCell 0 { s.cell 0 with occupancy := .occupied, heard := .occupied, intruded := true }
  s.setSensor 2 { s.sensor 2 with mode := .standby }

theorem witness_ResumeLeavesHalted_settling :
    unsettled.Takes (.resume (head 5)) ∧ (∀ c, (unsettled.cell c).holder = none) ∧
      unsettled.map.working.cells[(0 : CellId)].inUse = true ∧ (unsettled.sensor 0).mode = .active ∧
      ((after (.resume (head 5)) unsettled).cell 0).intruded = false ∧
      unsettled.map.working.cells[(2 : CellId)].inUse = true ∧ (unsettled.sensor 2).mode ≠ .active :=
  ⟨takes_iff.mp (by decide), by decide, by decide, by decide, by decide +kernel, by decide, by decide⟩

/-- A passage waits, reported blind once; of its cells the map puts 1 and 2 in STANDBY, and 2 is there already. -/
def toRestart : State :=
  let standby : CellEntry := { inUse := true, length := 200, sensor := .standby }
  let s := runningQueued.setWorking { tinyMap with cells := (tinyMap.cells.set 1 standby).set 2 standby }
  (s.setSensor 2 { SensorRec.reset with mode := .standby }).setMark 0 (some 0)

theorem witness_RestartClearsTheBook_cells :
    toRestart.Takes (.restart (head 5)) ∧ toRestart.HolderLaw ∧ toRestart.CausesLaw ∧ toRestart.LatchLaw ∧
      toRestart.map.working.cells[(31 : CellId)].inUse = false ∧
      toRestart.map.working.cells[(2 : CellId)].sensor = .standby ∧ (toRestart.sensor 2).mode = .standby ∧
      toRestart.map.working.cells[(1 : CellId)].sensor = .standby ∧ (toRestart.sensor 1).mode = .active ∧
      toRestart.map.working.cells[(0 : CellId)].sensor = .active ∧
      toRestart.marks[(0 : ApproachId)] = some 0 ∧ toRestart.marks[(1 : ApproachId)] = none ∧
      toRestart.passage 0 = some (passage .queued) ∧ toRestart.approachOf (passage .queued) = 0 :=
  ⟨takes_iff.mp (by decide), holderLaw_of_checks (by decide) (by decide) (by decide),
    by unfold State.CausesLaw; decide, fun a ha => absurd ha (by revert a; decide), by decide⟩

theorem witness_RestartClearsTheBook :
    (runningGranted.Takes (.restart (head 5)) ∧ runningGranted.HolderLaw ∧ runningGranted.CausesLaw ∧
      runningGranted.LatchLaw) ∧
    (reserved.Takes (.restart (head 5)) ∧ reserved.HolderLaw ∧ (reserved.cell 1).reservation = some 0) ∧
    haltedGranted.Takes (.restart (head 5)) ∧ haltedGranted.HolderLaw ∧ haltedGranted.CausesLaw ∧
      haltedGranted.control.mode = .halted :=
  ⟨⟨takes_iff.mp (by decide), holderLaw_of_checks (by decide) (by decide) (by decide),
      by unfold State.CausesLaw; decide, latchLaw_runningGranted⟩,
    ⟨takes_iff.mp (by decide), holderLaw_of_checks (by decide) (by decide) (by decide), by decide⟩,
    takes_iff.mp (by decide), holderLaw_of_checks (by decide) (by decide) (by decide),
    by unfold State.CausesLaw; decide, by decide⟩

theorem witness_OpenServiceByMode :
    (inMode .unmapped).Takes (.openService (head 15)) ∧ (∀ p, (inMode .unmapped).passage p = none) ∧
      (inMode .service).Takes (.openService (head 4)) ∧
      (withPassage (inMode .draining) entered).Takes (.openService (head 5)) ∧
      0 < (withPassage (inMode .draining) entered).liveCount ∧
      (withPassage (haltedFrom .running) (passage .queued)).Takes (.openService (head 5)) ∧
      (withPassage (haltedFrom .running) (passage .queued)).liveCount = 0 ∧
      (withPassage (haltedFrom .running) (passage .queued)).HolderLaw :=
  ⟨takes_iff.mp (by decide), by decide, takes_iff.mp (by decide), takes_iff.mp (by decide), by decide,
    takes_iff.mp (by decide), by decide, holderLaw_of_checks (by decide) (by decide) (by decide)⟩

/-! #### The junction map and hardware reset -/

theorem witness_LoadReplacesOneEntry :
    (hears servicing (.loadOptions (head 3) 40 15 8 32 15 0) && hears servicing (.loadCell (head 3) 31 1 1000 1) &&
      hears servicing (.loadApproach (head 3) 7 0 2000 6) && hears servicing (.loadMaster (head 3) 5 1 15 1 1)) = true ∧
      servicing.control.mode = .service ∧ servicing.decoder.service = some (head 3).src ∧
      (40 : Byte).toNat ∈ [5, 10, 20, 40] ∧ (15 : Byte).toNat ≤ 15 ∧ 8 ≤ (32 : Byte).toNat ∧ (32 : Byte).toNat ≤ 32 ∧
      (31 : Byte).toNat = (31 : CellId).val ∧ 50 ≤ (1000 : BitVec 16).toNat ∧ (1000 : BitVec 16).toNat ≤ 1000 ∧
      (7 : Byte).toNat = (7 : ApproachId).val ∧ (2000 : BitVec 16).toNat ≤ 2000 ∧ (6 : Byte).toNat ≤ 6 ∧
      (5 : Byte).toNat = (5 : MasterSlot).val ∧ (15 : Byte).toNat = (15 : Node).val := by decide

theorem witness_LoadRoutes :
    (hears servicing (.loadRoute (head 3) 47 1 7 250 15) &&
      hears servicing (.loadRouteCells (head 3) 47 0x71 32 0 0 0 0 0)) = true ∧
      servicing.control.mode = .service ∧ servicing.decoder.service = some (head 3).src ∧
      (47 : Byte).toNat = (47 : RouteId).val ∧ (10 ≤ (250 : Byte).toNat ∧ (250 : Byte).toNat ≤ 250) ∧
      47 < (48 : Byte).toNat ∧ 7 < ((0x81 : Byte).extractLsb' 4 4).toNat ∧
      (((0x76 : Byte).extractLsb' 4 4).toNat ≤ 7 ∧
        8 < ((0x76 : Byte).extractLsb' 4 4).toNat + ((0x76 : Byte).extractLsb' 0 4).toNat) ∧
      (((0x71 : Byte).extractLsb' 4 4).toNat ≤ 7 ∧ 1 ≤ ((0x71 : Byte).extractLsb' 0 4).toNat) ∧
      (31 < (32 : Byte).toNat ∧ (32 : Byte) ≠ 0xFF ∧ [(32 : Byte), 0, 0, 0, 0, 0][0]? = some 32) := by decide

theorem witness_LoadNamesFirstBadField :
    (hears servicing (.loadOptions (head 3) 10 16 9 7 16 0) && hears servicing (.loadCell (head 3) 31 2 1001 2) &&
      hears servicing (.loadApproach (head 3) 7 2 2001 7) && hears servicing (.loadRoute (head 3) 47 2 8 251 16) &&
      hears servicing (.loadMaster (head 3) 5 2 16 2 2)) = true ∧
      servicing.control.mode = .service ∧ servicing.decoder.service = some (head 3).src ∧
      [true, false, false][1]? = some false ∧ (∀ j, j < 1 → [true, false, false][j]? = some true) := by decide

/-- The tiny map with its route's entry changed. -/
def withRoute (f : RouteEntry → RouteEntry) : WorkingMap :=
  { tinyMap with routes := tinyMap.routes.set 0 (f tinyMap.routes[0]) }

/-- The tiny map with one more master in use. -/
def withMaster (node : Node) (role : Role) : WorkingMap :=
  { tinyMap with masters := tinyMap.masters.set 2 { inUse := true, node := node, role := role, option := .keepOldest } }

theorem witness_CommitAcceptsExactlyValidMaps :
    tinyMap.fault 9 = none ∧ WorkingMap.reset.fault 9 = some (.mapInvalid .noRoute none none) ∧
      (withRoute fun e => { e with count := 0 }).fault 9 = some (.mapInvalid .cellCount (some 0) (some 0)) ∧
      (withRoute fun e => { e with count := 9 }).fault 9 = some (.mapInvalid .cellCount (some 0) (some 9)) ∧
      (withRoute fun e => { e with approach := 7 }).fault 9 = some (.mapInvalid .approachUnused (some 0) (some 7)) ∧
      (withRoute fun e => { e with count := 4 }).fault 9 = some (.mapInvalid .cellUnused (some 0) (some 3)) ∧
      (withRoute fun e => { e with list := e.list.set 2 (some 0) }).fault 9 =
        some (.mapInvalid .cellRepeated (some 0) (some 2)) ∧
      (withMaster 6 .safety).fault 9 = some (.mapInvalid .safetyCount none (some 2)) ∧
      (withMaster 15 .fleet).fault 9 = some (.mapInvalid .nodeReserved (some 2) (some 15)) ∧
      tinyMap.fault 5 = some (.mapInvalid .nodeOwn (some 1) (some 5)) ∧
      (withMaster 3 .fleet).fault 9 = some (.mapInvalid .nodeDuplicate (some 2) (some 0)) := by decide +kernel

theorem witness_CommitTakesEffect :
    hears servicing (.commitMap (head 3)) = true ∧
      servicing.control.mode = .service ∧ servicing.decoder.service = some (head 3).src ∧
      (servicing.setWorking .reset).map.working.fault servicing.liu.own = some (.mapInvalid .noRoute none none) ∧
      servicing.map.working.fault servicing.liu.own = none ∧ servicing.CausesLaw ∧
      (∀ a, (servicing.signal a).latch = .stop) ∧ servicing.ClosedEmpty :=
  ⟨by decide, by decide, by decide, by decide +kernel, by decide +kernel, by unfold State.CausesLaw; decide, by decide,
    fun _ => by decide⟩

/-- In SERVICE with notices of M0 and M1 in the shifter and the staged buffer, one of the two slots newly assigned. -/
def reassigned (k : MasterSlot) : State :=
  let s := (withNotices servicing 2).setFifo 1 { queue := [flushedNote], lost := false }
  { s with
    liu := { s.liu with staged := some { slot := 1, notice := flushedNote } }
    map := { s.map with enrolment := s.map.enrolment.set k { s.map.enrolment[k] with node := 12 } } }

theorem witness_CommitTakesEffect_drops :
    ([0, 1].all fun k => hears (reassigned k) (.commitMap (head 3)) && (reassigned k).control.mode = .service &&
      (reassigned k).decoder.service = some 3 && (reassigned k).map.working.fault (reassigned k).liu.own = none &&
      (reassigned k).liu.shifter = some { slot := 0, notice := flushedNote } &&
      (reassigned k).liu.staged = some { slot := 1, notice := flushedNote }) = true ∧
    (reassigned 0).map.working.masters[(0 : MasterSlot)].node ≠ (reassigned 0).map.enrolment[(0 : MasterSlot)].node ∧
      (reassigned 1).map.working.masters[(1 : MasterSlot)].node ≠
        (reassigned 1).map.enrolment[(1 : MasterSlot)].node := by decide +kernel

theorem witness_HardwareReset :
    16 ≤ 16 ∧ 15 < 16 ∧ (after (.hardwareReset (.pin 16)) (inMode .running)).power.phase = .applied ∧
      (after .resetRelease (after (.hardwareReset (.pin 16)) (inMode .running))).power.phase = .counting := by decide

end Sys2Proof.Tests
end

namespace Sys2Proof.Machine

/-! ### Deadlines and windows -/

/-- A sound deadline that is not due as any kind whose expiry has been taken (R80, R87). -/
def Deadline.Timely (d : Deadline) (now : Time) (taken : ArmedKind → Prop) : Prop :=
  d.Sound now ∧ ∀ kind, taken kind → d.dueAs kind now = false

/-- The ranges of a passage record that every window is computed from (R81, R82, R83). -/
def Passage.InRange (q : Passage) : Prop :=
  10 ≤ q.speed ∧ q.speed ≤ 250 ∧ 50 ≤ q.length ∧ q.length ≤ 400 ∧ q.load ≤ 3 ∧ q.priority ≤ 3

/-- What the law of deadlines says of one passage record. -/
def Passage.Timely (q : Passage) (now : Time) (taken : ArmedKind → Prop) : Prop :=
  q.InRange ∧ q.deadline.Timely now taken

/-- The law of deadlines, strengthened by the expiries that have been taken at the present floor time. -/
def State.TimelyLaw (s : State) (taken : Slot → ArmedKind → Prop) : Prop :=
  s.map.working.InRange ∧ ∀ p q, s.passage p = some q → q.Timely s.timer.floor (taken p)

theorem State.timelyLaw_nothing_iff (s : State) : s.TimelyLaw (fun _ _ => False) ↔ s.TimerLaw := by
  simp [State.TimelyLaw, State.TimerLaw, Passage.Timely, Passage.InRange, Deadline.Timely, and_assoc]

/-- A law with more expiries taken is a law with fewer. -/
theorem State.TimelyLaw.timerLaw {s : State} {taken : Slot → ArmedKind → Prop} (h : s.TimelyLaw taken) :
    s.TimerLaw := by
  refine s.timelyLaw_nothing_iff.1 ⟨h.1, fun p q hq => ?_⟩
  obtain ⟨range, sound, -⟩ := h.2 p q hq
  exact ⟨range, sound, fun _ => False.elim⟩

theorem Deadline.timely_of_idle {d : Deadline} {now : Time} {taken : ArmedKind → Prop} (h : d.run = none) :
    d.Timely now taken := by
  simp [Deadline.Timely, Deadline.Sound, Deadline.dueAs, h]

/-- A deadline armed for `w` ticks from now lies `w` ticks ahead (R80). -/
theorem ticks_ahead (now w : Time) : now + w - now = w := by
  rw [BitVec.add_comm, BitVec.add_sub_cancel]

/-- A frozen deadline with 1 to 32767 ticks left is timely, whatever has been taken (R92). -/
theorem Deadline.frozen_timely {kind : ArmedKind} {window remainder : Time} {halt extStop : Bool} (now : Time)
    (taken : ArmedKind → Prop) (hw : 1 ≤ window.toNat ∧ window.toNat ≤ 32767)
    (hr : 1 ≤ remainder.toNat ∧ remainder.toNat ≤ 32767) (hc : (halt || extStop) = true) :
    Deadline.Timely
      { run := some { kind := kind, window := window, clock := .frozen remainder }, halt := halt, extStop := extStop }
      now taken := by
  refine ⟨fun r h => ?_, fun _ _ => by simp [Deadline.dueAs]⟩
  cases h
  exact ⟨hw.1, hw.2, hr.1, hr.2, by simpa using hc⟩

/-- A deadline armed 1 to 32767 ticks ahead is timely, whatever has been taken (R80). -/
theorem Deadline.armed_timely {kind : ArmedKind} {window ahead : Time} (now : Time) (taken : ArmedKind → Prop)
    (hw : 1 ≤ window.toNat ∧ window.toNat ≤ 32767) (ha : 1 ≤ ahead.toNat ∧ ahead.toNat ≤ 32767) :
    Deadline.Timely
      { run := some { kind := kind, window := window, clock := .armed (now + ahead) }, halt := false
        extStop := false }
      now taken := by
  have notNow : now + ahead ≠ now := by
    intro e
    have := ticks_ahead now ahead
    simp only [e, BitVec.sub_self] at this
    simp [← this] at ha
  refine ⟨fun r h => ?_, fun _ _ => by simp [Deadline.dueAs, notNow]⟩
  cases h
  exact ⟨hw.1, hw.2, by rw [ticks_ahead]; exact ha.2, rfl, rfl⟩

/-- An arming with a window of R84 is timely, whatever has been taken (R86). -/
theorem Deadline.arm_timely (d : Deadline) (kind : ArmedKind) {window : Time} (now : Time)
    (taken : ArmedKind → Prop) (hw : 1 ≤ window.toNat ∧ window.toNat ≤ 32767) :
    (d.arm kind window now).Timely now taken := by
  unfold Deadline.arm
  by_cases h : (d.halt || (d.extStop && decide (d.kind ≠ .arrival))) = true
  · simp only [h, if_true]
    exact Deadline.frozen_timely now taken hw hw h
  · obtain ⟨hh, he⟩ : d.halt = false ∧ (d.extStop && decide (d.kind ≠ .arrival)) = false := by
      simpa only [Bool.or_eq_true, not_or, Bool.not_eq_true] using h
    simp only [hh, he]
    exact Deadline.armed_timely now taken hw hw

/-- Freezing and restoring keep a timely deadline timely: freezing leaves 1 tick at least (log entry 9), and a restored
deadline lies its remainder ahead (R91, R92). -/
theorem Deadline.setCauses_timely {d : Deadline} {now : Time} {taken : ArmedKind → Prop} (halt extStop : Bool)
    (h : d.Timely now taken) : (d.setCauses halt extStop now).Timely now taken := by
  obtain ⟨_ | ⟨kind, window, clock⟩, dhalt, dext⟩ := d
  · exact Deadline.timely_of_idle rfl
  obtain ⟨wpos, wle, hclock⟩ := h.1 _ rfl
  cases clock with
  | armed deadline =>
    obtain ⟨hle, hh, he⟩ := hclock
    subst hh he
    by_cases after : (halt || extStop) = true
    · have left : 1 ≤ (if deadline = now then 1 else deadline - now).toNat ∧
          (if deadline = now then 1 else deadline - now).toNat ≤ 32767 := by
        split
        · decide
        · bv_omega
      simpa [Deadline.setCauses, after, Clock.freeze] using Deadline.frozen_timely now taken ⟨wpos, wle⟩ left after
    · obtain ⟨rfl, rfl⟩ : halt = false ∧ extStop = false := by simpa using after
      exact h
  | frozen remainder =>
    obtain ⟨hpos, hle, before⟩ := hclock
    have hb : (dhalt || dext) = true := by simpa using before
    by_cases after : (halt || extStop) = true
    · simpa [Deadline.setCauses, after, hb] using Deadline.frozen_timely now taken ⟨wpos, wle⟩ ⟨hpos, hle⟩ after
    · obtain ⟨rfl, rfl⟩ : halt = false ∧ extStop = false := by simpa using after
      simpa [Deadline.setCauses, hb, Clock.restore] using Deadline.armed_timely now taken ⟨wpos, wle⟩ ⟨hpos, hle⟩

theorem ceilDiv_pos {a b : Nat} (ha : 0 < a) (hb : 0 < b) : 0 < ceilDiv a b :=
  Nat.div_pos (by omega) hb

theorem windowOf_le (o : Options) (ms : Nat) : (windowOf o ms).1 ≤ 32767 := by
  unfold windowOf Config.windowLimit
  split
  · exact le_rfl
  · simp only; omega

theorem WorkingMap.InRange.windowOf_pos {m : WorkingMap} (hm : m.InRange) {ms : Nat} (h : 0 < ms) :
    1 ≤ (windowOf m.options ms).1 := by
  obtain ⟨htick, -, -, -, hdwell, -⟩ := hm
  have tick_pos : 0 < m.options.tick := by
    simp only [List.mem_cons, List.not_mem_nil, or_false] at htick; omega
  have : 0 < ticksOf m.options ms := ceilDiv_pos (Nat.mul_pos h (by omega)) (by omega)
  unfold windowOf Config.windowLimit
  split
  · exact by decide
  · exact this

/-- A record armed by a map in range is timely, whatever has been taken (R84 to R86). -/
theorem Passage.armFor_timely {m : WorkingMap} (hm : m.InRange) {q : Passage} (h : q.InRange) (now : Time)
    (taken : ArmedKind → Prop) (kind : ArmedKind) {ms : Nat} (hms : 0 < ms) :
    (q.armFor kind m.options ms now).Timely now taken := by
  have hle := windowOf_le m.options ms
  have hpos := hm.windowOf_pos hms
  have toNat : (BitVec.ofNat 16 (windowOf m.options ms).1).toNat = (windowOf m.options ms).1 := by
    rw [BitVec.toNat_ofNat, Nat.mod_eq_of_lt (by omega)]
  exact ⟨h, Deadline.arm_timely _ _ _ _ (by rw [toNat]; exact ⟨hpos, hle⟩)⟩

theorem Passage.InRange.traverse_pos {q : Passage} (h : q.InRange) (length : Nat) :
    0 < traverseTime length q.length q.speed := by
  obtain ⟨hs, -, hl, -⟩ := h
  exact ceilDiv_pos (by omega) (by omega)

theorem Passage.InRange.arrival_pos {q : Passage} (h : q.InRange) {distance : Nat} (hd : 50 ≤ distance) :
    0 < arrivalTime distance q.speed q.load := by
  obtain ⟨hs, -⟩ := h
  exact Nat.add_pos_left (ceilDiv_pos (by omega) (by omega)) _

/-- The deadline after a DWELL expiry is timely, whatever has been taken (R85, R89). -/
theorem Deadline.Timely.afterDwell {d : Deadline} {now : Time} {taken : ArmedKind → Prop} (other : ArmedKind → Prop)
    (h : d.Timely now taken) (level : Overdue) : (d.afterDwell level now).Timely now other := by
  unfold Deadline.afterDwell
  split
  · rename_i r hr
    obtain ⟨wpos, wle, -⟩ := h.1 r hr
    exact Deadline.arm_timely _ _ _ _ ⟨wpos, wle⟩
  · exact Deadline.timely_of_idle rfl

end Sys2Proof.Machine

namespace Sys2Proof.Machine

/-! ### Shifter, staged buffer and FIFOs -/

/-- The law of the transmit side but for the filling: the shifter and the staged buffer hold the heads of two FIFOs, the
staged buffer only behind the shifter. -/
def State.Placed (s : State) : Prop :=
  (∀ f, s.liu.shifter = some f → s.notices.fifos[f.slot].queue.head? = some f.notice) ∧
  (∀ f, s.liu.staged = some f → s.notices.fifos[f.slot].queue.head? = some f.notice ∧
    ∃ g, s.liu.shifter = some g ∧ g.slot ≠ f.slot) ∧
  (∀ a, s.liu.attempt = some a → ∃ f, s.liu.shifter = some f ∧ a.bytes = s.noticeFrame f a.lost) ∧
  s.notices.attempts ≤ 2

/-- As `State.Placed`, but the shifter may be empty before the staged frame has moved up. -/
def State.Loose (s : State) : Prop :=
  (∀ f, s.liu.shifter = some f → s.notices.fifos[f.slot].queue.head? = some f.notice) ∧
  (∀ f, s.liu.staged = some f → s.notices.fifos[f.slot].queue.head? = some f.notice ∧
    ∀ g, s.liu.shifter = some g → g.slot ≠ f.slot) ∧
  (∀ a, s.liu.attempt = some a → ∃ f, s.liu.shifter = some f ∧ a.bytes = s.noticeFrame f a.lost) ∧
  s.notices.attempts ≤ 2

theorem State.TransmitLaw.placed {s : State} (h : s.TransmitLaw) : s.Placed :=
  ⟨h.1, h.2.1, h.2.2.2.2.1, h.2.2.2.2.2⟩

theorem State.Placed.loose {s : State} (h : s.Placed) : s.Loose := by
  obtain ⟨hshift, hstaged, hatt, hcount⟩ := h
  refine ⟨hshift, fun f hf => ⟨(hstaged f hf).1, fun g hg => ?_⟩, hatt, hcount⟩
  obtain ⟨-, x, hx, hne⟩ := hstaged f hf
  cases hg.symm.trans hx
  exact hne

/-- A selection finds a head that is not in the shifter (R161). -/
theorem State.selected_some {s : State} {f : TxFrame} (h : s.selected = some f) :
    s.notices.fifos[f.slot].queue.head? = some f.notice ∧ ∀ g, s.liu.shifter = some g → g.slot ≠ f.slot := by
  obtain ⟨k, -, hk⟩ := List.exists_of_findSome?_eq_some h
  split at hk
  · cases hk
  · rename_i n rest hq
    split at hk
    · cases hk
    · rename_i hs
      cases hk
      refine ⟨by rw [hq]; rfl, fun g hg e => hs ?_⟩
      simp [State.shifterSlot, hg, e]

/-- Every slot has its turn in a selection (R161). -/
theorem State.mem_searchOrder (s : State) (k : MasterSlot) : k ∈ s.searchOrder :=
  List.mem_map.2 ⟨k - s.notices.pointer, List.mem_finRange _, add_sub_cancel _ _⟩

/-- A selection that finds nothing has nothing to take (R161). -/
theorem State.selected_none {s : State} (h : s.selected = none) (k : MasterSlot)
    (hk : ∀ g, s.liu.shifter = some g → g.slot ≠ k) : s.notices.fifos[k].queue = [] := by
  have := List.findSome?_eq_none_iff.1 h k (s.mem_searchOrder k)
  split at this
  · assumption
  · have hs : s.shifterSlot ≠ some k := by
      intro e
      obtain ⟨g, hg, rfl⟩ := Option.map_eq_some_iff.1 e
      exact hk g hg rfl
    simp [hs] at this

/-- A selection into the empty shifter (R161). -/
theorem State.select_shifter {s : State} {f : TxFrame} (hs : s.liu.shifter = none) (hf : s.selected = some f) :
    s.select =
      { s with
        liu := { s.liu with shifter := some f, attempt := none }
        notices := { s.notices with pointer := f.slot + 1, attempts := 0, lateLoss := false } } := by
  simp [State.select, hs, hf]

/-- A selection into the empty staged buffer (R161). -/
theorem State.select_staged {s : State} {f g : TxFrame} (hs : s.liu.shifter = some g) (ht : s.liu.staged = none)
    (hf : s.selected = some f) :
    s.select =
      { s with liu := { s.liu with staged := some f }, notices := { s.notices with pointer := f.slot + 1 } } := by
  simp [State.select, hs, ht, hf]

theorem State.select_full {s : State} {f g : TxFrame} (hs : s.liu.shifter = some g) (ht : s.liu.staged = some f) :
    s.select = s := by
  simp [State.select, hs, ht]

theorem State.select_nothing {s : State} (hf : s.selected = none) : s.select = s := by
  unfold State.select
  split <;> simp_all

/-- The shifter is filled if there is a notice. -/
def State.ShifterFilled (s : State) : Prop := s.liu.shifter = none → ∀ k : MasterSlot, s.notices.fifos[k].queue = []

/-- The staged buffer is filled if there is a notice for it. -/
def State.StagedFilled (s : State) : Prop :=
  s.liu.staged = none → ∀ f, s.liu.shifter = some f → ∀ k : MasterSlot, k ≠ f.slot → s.notices.fifos[k].queue = []

theorem State.Placed.transmitLaw {s : State} (h : s.Placed) (hs : s.ShifterFilled) (ht : s.StagedFilled) :
    s.TransmitLaw :=
  ⟨h.1, h.2.1, hs, ht, h.2.2⟩

theorem State.Placed.select {s : State} (h : s.Placed) : s.select.Placed ∧ s.select.ShifterFilled := by
  obtain ⟨hshift, hstaged, hatt, hcount⟩ := h
  cases hf : s.selected with
  | none =>
    rw [State.select_nothing hf]
    exact ⟨⟨hshift, hstaged, hatt, hcount⟩, fun hs k => State.selected_none hf k (by simp [hs])⟩
  | some f =>
    obtain ⟨hhead, hne⟩ := State.selected_some hf
    cases hs : s.liu.shifter with
    | none =>
      rw [State.select_shifter hs hf]
      refine ⟨⟨fun g hg => ?_, fun g hg => ?_, by simp, by simp⟩, by simp [State.ShifterFilled]⟩
      · cases hg; exact hhead
      · obtain ⟨-, x, hx, -⟩ := hstaged g hg
        cases hs.symm.trans hx
    | some g =>
      cases ht : s.liu.staged with
      | some x =>
        rw [State.select_full hs ht]
        exact ⟨⟨hshift, hstaged, hatt, hcount⟩, by simp [State.ShifterFilled, hs]⟩
      | none =>
        rw [State.select_staged hs ht hf]
        refine ⟨⟨hshift, fun x hx => ?_, hatt, hcount⟩, by simp [State.ShifterFilled, hs]⟩
        cases hx
        exact ⟨hhead, g, hs, hne g hs⟩

/-- With the shifter filled, a selection fills the staged buffer (R161). -/
theorem State.Placed.select_transmitLaw {s : State} (h : s.Placed) (hfill : s.ShifterFilled) :
    s.select.TransmitLaw := by
  refine h.select.1.transmitLaw h.select.2 ?_
  cases hf : s.selected with
  | none =>
    rw [State.select_nothing hf]
    exact fun _ g hg k hk => State.selected_none hf k fun x hx => by cases hg.symm.trans hx; exact hk.symm
  | some f =>
    cases hs : s.liu.shifter with
    | none =>
      obtain ⟨hhead, -⟩ := State.selected_some hf
      rw [hfill hs f.slot] at hhead
      cases hhead
    | some g =>
      cases ht : s.liu.staged with
      | none => rw [State.select_staged hs ht hf]; simp [State.StagedFilled]
      | some x => rw [State.select_full hs ht]; simp [State.StagedFilled, ht]

/-- The staged frame moves up (R138, R161). -/
theorem State.Loose.promote {s : State} (h : s.Loose) : s.promote.Placed := by
  obtain ⟨hshift, hstaged, hatt, hcount⟩ := h
  unfold State.promote
  split
  · rename_i f hs ht
    refine ⟨fun g hg => ?_, by simp, by simp, by simp⟩
    cases hg
    exact (hstaged f ht).1
  · rename_i hno
    refine ⟨hshift, fun f hf => ?_, hatt, hcount⟩
    cases hs : s.liu.shifter with
    | none => exact (hno f hs hf).elim
    | some g => exact ⟨(hstaged f hf).1, g, rfl, (hstaged f hf).2 g hs⟩

/-- Filling the places again brings the law of the transmit side about (R161). -/
theorem State.Loose.refill {s : State} (h : s.Loose) : s.refill.TransmitLaw :=
  h.promote.select.1.select_transmitLaw h.promote.select.2

/-- A FIFO may be written so long as a frame of it in the shifter or the staged buffer stays its head. -/
theorem State.Loose.setFifo {s : State} (h : s.Loose) (k : MasterSlot) (fifo : Fifo)
    (hhead : ∀ f, s.liu.shifter = some f ∨ s.liu.staged = some f → f.slot = k →
      fifo.queue.head? = some f.notice) : (s.setFifo k fifo).Loose := by
  have head : ∀ f, s.liu.shifter = some f ∨ s.liu.staged = some f →
      s.notices.fifos[f.slot].queue.head? = some f.notice →
      (s.setFifo k fifo).notices.fifos[f.slot].queue.head? = some f.notice := by
    intro f hf hq
    rw [State.fifo_setFifo]
    split
    · rename_i e; exact hhead f hf e.symm
    · exact hq
  obtain ⟨hshift, hstaged, hatt, hcount⟩ := h
  exact ⟨fun f hf => head f (.inl hf) (hshift f hf),
    fun f hf => ⟨head f (.inr hf) (hstaged f hf).1, (hstaged f hf).2⟩, hatt, hcount⟩

theorem State.Loose.unstage {s : State} (h : s.Loose) : (s.setLiu { s.liu with staged := none }).Loose :=
  ⟨h.1, by simp, h.2.2⟩

/-- The law of the transmit side reads the FIFOs' notices, the shifter, the staged buffer, the attempt and its count,
the own node and the committed enrolment. -/
theorem State.TransmitLaw.congr {s t : State} (h : s.TransmitLaw)
    (hq : ∀ k : MasterSlot, t.notices.fifos[k].queue = s.notices.fifos[k].queue)
    (hc : t.notices.attempts = s.notices.attempts) (hs : t.liu.shifter = s.liu.shifter)
    (hg : t.liu.staged = s.liu.staged) (ha : t.liu.attempt = s.liu.attempt) (ho : t.liu.own = s.liu.own)
    (he : t.map.enrolment = s.map.enrolment) : t.TransmitLaw := by
  simpa only [State.TransmitLaw, State.noticeFrame, hq, hc, hs, hg, ha, ho, he] using h

theorem head_append_of_head {q : List Notice} {n : Notice} (l : List Notice) (h : q.head? = some n) :
    (q ++ l).head? = some n := by
  simp [List.head?_append, h]

theorem State.TransmitLaw.setLost {s : State} (h : s.TransmitLaw) (k : MasterSlot) (lost : Bool) :
    (s.setFifo k { s.notices.fifos[k] with lost := lost }).TransmitLaw := by
  refine h.congr (fun j => ?_) rfl rfl rfl rfl rfl rfl
  rw [State.fifo_setFifo]
  split
  · rename_i e; rw [e]
  · rfl

/-- A posting keeps the law of the transmit side (R160, R161). -/
theorem State.TransmitLaw.enqueue {s : State} (h : s.TransmitLaw) (k : MasterSlot) (n : Notice) :
    (s.enqueue k n).TransmitLaw := by
  have loose := h.placed.loose
  have head : ∀ f, s.liu.shifter = some f ∨ s.liu.staged = some f → f.slot = k →
      s.notices.fifos[k].queue.head? = some f.notice := by
    rintro f (hf | hf) rfl
    · exact loose.1 f hf
    · exact (loose.2.1 f hf).1
  unfold State.enqueue
  simp only
  split
  · exact h
  split
  · exact (loose.setFifo k _ fun f hf e => head_append_of_head _ (head f hf e)).refill
  rename_i hfull
  have late : State.TransmitLaw { s with notices := { s.notices with lateLoss := true } } := h
  by_cases hin : s.shifterSlot = some k
  · simp only [hin, if_true]
    split
    · exact late.setLost k true
    · refine (late.placed.loose.setFifo k _ fun f hf e => ?_).refill
      have hq := head f hf e
      cases hl : s.notices.fifos[k].queue with
      | nil => rw [hl] at hq; cases hq
      | cons x rest => rw [hl] at hq; simpa [hl] using hq
  · have notShifter : ∀ f, s.liu.shifter = some f → f.slot ≠ k := fun f hf e =>
      hin (by simp [State.shifterSlot, hf, e])
    simp only [hin, if_false]
    split
    · exact h.setLost k true
    by_cases hst : s.liu.staged.map TxFrame.slot = some k
    · have unstaged : ∀ fifo : Fifo, (s.setFifo k fifo).setLiu { s.liu with staged := none } =
          (s.setLiu { s.liu with staged := none }).setFifo k fifo := fun _ => rfl
      simp only [hst, decide_false, decide_true, Bool.not_false, Bool.and_true, if_true, State.setFifo_liu, unstaged]
      refine (State.Loose.setFifo loose.unstage k _ ?_).refill
      rintro f (hf | hf) e
      · exact (notShifter f hf e).elim
      · cases hf
    · simp only [hst, decide_false, Bool.and_false, Bool.false_eq_true, if_false, State.setFifo_liu]
      refine (loose.setFifo k _ ?_).refill
      rintro f (hf | hf) e
      · exact (notShifter f hf e).elim
      · exact (hst (by simp [hf, e])).elim

end Sys2Proof.Machine

namespace Sys2Proof.Machine

/-! ### Work on the book, the latches and the notices upholds both laws -/

/-- The law of the transmit side and that of deadlines pass from `s` to `t`, whatever expiries have been taken. -/
def Upholds (s t : State) : Prop :=
  (s.TransmitLaw → t.TransmitLaw) ∧ ∀ taken, s.TimelyLaw taken → t.TimelyLaw taken

theorem Upholds.rfl {s : State} : Upholds s s := ⟨id, fun _ => id⟩

theorem Upholds.trans {s t u : State} (h : Upholds s t) (k : Upholds t u) : Upholds s u :=
  ⟨fun i => k.1 (h.1 i), fun taken i => k.2 taken (h.2 taken i)⟩

/-- A fold of steps that each uphold the laws upholds them. -/
theorem upholds_foldl {α : Type} {f : State → α → State} (h : ∀ s x, Upholds s (f s x)) (l : List α) (s : State) :
    Upholds s (l.foldl f s) := by
  induction l generalizing s with
  | nil => exact .rfl
  | cons x rest ih => exact (h s x).trans (ih _)

theorem State.TimelyLaw.congr {s t : State} {taken : Slot → ArmedKind → Prop} (h : s.TimelyLaw taken)
    (hm : t.map.working = s.map.working) (hf : t.timer.floor = s.timer.floor) (hp : t.book.pool = s.book.pool) :
    t.TimelyLaw taken := by
  simpa only [State.TimelyLaw, State.passage, hm, hf, hp] using h

/-- What writes none of the notices, of the LIU, of the map, of floor time and of the pool upholds both laws. -/
theorem Upholds.of_same {s t : State} (hn : t.notices = s.notices) (hl : t.liu = s.liu) (hm : t.map = s.map)
    (ht : t.timer = s.timer) (hp : t.book.pool = s.book.pool) : Upholds s t :=
  ⟨fun h => h.congr (by simp [hn]) (by rw [hn]) (by rw [hl]) (by rw [hl]) (by rw [hl]) (by rw [hl]) (by rw [hm]),
    fun _ h => h.congr (by rw [hm]) (by rw [ht]) hp⟩

/-- What leaves the book alone upholds both laws if it keeps that of the transmit side. -/
theorem KeepsBook.upholds {s t : State} (h : KeepsBook s t) (ht : s.TransmitLaw → t.TransmitLaw) : Upholds s t :=
  ⟨ht, fun _ i => i.congr (by rw [h.1.map]) (by rw [h.1.timer]) (by rw [h.2.1])⟩

theorem State.enqueue_upholds (s : State) (k : MasterSlot) (n : Notice) : Upholds s (s.enqueue k n) :=
  (s.enqueue_keepsBook k n).upholds fun h => h.enqueue k n

theorem State.postTo_upholds (s : State) (l : List MasterSlot) (n : Notice) : Upholds s (s.postTo l n) :=
  upholds_foldl (fun s k => s.enqueue_upholds k n) l s

theorem State.postSafety_upholds (s : State) (n : Notice) : Upholds s (s.postSafety n) := s.postTo_upholds _ n

theorem State.postOwner_upholds (s : State) (b : NoticeBody) (p : Slot) (q : Passage) :
    Upholds s (s.postOwner b p q) := s.postTo_upholds _ _

theorem State.postOwnerAndSafety_upholds (s : State) (b : NoticeBody) (p : Slot) (q : Passage) :
    Upholds s (s.postOwnerAndSafety b p q) := s.postTo_upholds _ _

theorem State.postMode_upholds (s : State) : Upholds s s.postMode := s.postTo_upholds _ _

/-! #### Records of the book, latches and marks -/

theorem State.setCell_upholds (s : State) (c : CellId) (r : CellRec) : Upholds s (s.setCell c r) :=
  .of_same rfl rfl rfl rfl rfl

theorem State.setSignal_upholds (s : State) (a : ApproachId) (r : SignalRec) : Upholds s (s.setSignal a r) :=
  .of_same rfl rfl rfl rfl rfl

theorem State.setMark_upholds (s : State) (a : ApproachId) (m : Option Slot) : Upholds s (s.setMark a m) :=
  .of_same rfl rfl rfl rfl rfl

theorem State.setSensor_upholds (s : State) (c : CellId) (r : SensorRec) : Upholds s (s.setSensor c r) :=
  .of_same rfl rfl rfl rfl rfl

theorem State.setControl_upholds (s : State) (c : Control) : Upholds s (s.setControl c) :=
  .of_same rfl rfl rfl rfl rfl

theorem State.clearReservations_upholds (s : State) (p : Slot) : Upholds s (s.clearReservations p) := by
  unfold State.clearReservations
  exact .of_same rfl rfl rfl rfl rfl

theorem State.leaveLists_upholds (s : State) (p : Slot) (a : ApproachId) : Upholds s (s.leaveLists p a) := by
  unfold State.leaveLists
  simp only
  split <;> exact .of_same rfl rfl rfl rfl rfl

/-- A slot may take a record that the law of deadlines allows there. -/
theorem State.TimelyLaw.setPassage {s : State} {taken : Slot → ArmedKind → Prop} (h : s.TimelyLaw taken) (p : Slot)
    (q : Option Passage) (hq : ∀ r, q = some r → r.Timely s.timer.floor (taken p)) :
    (s.setPassage p q).TimelyLaw taken := by
  refine ⟨h.1, fun x r hr => ?_⟩
  rw [State.passage_setPassage] at hr
  split at hr
  · rename_i e; exact e ▸ hq r hr
  · exact h.2 x r hr

/-- What upholds the laws up to `u` upholds them when it then writes such a record. -/
theorem Upholds.setPassage {s u : State} (h : Upholds s u) (p : Slot) (q : Option Passage)
    (hq : ∀ taken, s.TimelyLaw taken → u.TimelyLaw taken → ∀ r, q = some r → r.Timely u.timer.floor (taken p)) :
    Upholds s (u.setPassage p q) :=
  ⟨h.1, fun taken i => (h.2 taken i).setPassage p q (hq taken i (h.2 taken i))⟩

theorem State.setPassage_upholds (s : State) (p : Slot) (q : Option Passage)
    (hq : ∀ taken, s.TimelyLaw taken → ∀ r, q = some r → r.Timely s.timer.floor (taken p)) :
    Upholds s (s.setPassage p q) :=
  Upholds.rfl.setPassage p q fun taken h _ => hq taken h

theorem State.clearPassage_upholds (s : State) (p : Slot) : Upholds s (s.setPassage p none) :=
  s.setPassage_upholds p none fun _ _ _ h => by cases h

theorem State.modPassage_upholds (s : State) (p : Slot) (f : Passage → Passage)
    (hf : ∀ taken q, s.map.working.InRange → q.Timely s.timer.floor taken → (f q).Timely s.timer.floor taken) :
    Upholds s (s.modPassage p f) := by
  refine s.setPassage_upholds p _ fun taken h r hr => ?_
  obtain ⟨q, hq, rfl⟩ := Option.map_eq_some_iff.1 hr
  exact hf _ q h.1 (h.2 p q hq)

theorem State.modDeadline_upholds (s : State) (p : Slot) (f : Deadline → Deadline)
    (hf : ∀ taken d, d.Timely s.timer.floor taken → (f d).Timely s.timer.floor taken) :
    Upholds s (s.modDeadline p f) :=
  s.modPassage_upholds p _ fun taken _ _ hq => ⟨hq.1, hf taken _ hq.2⟩

theorem State.modLiveDeadlines_upholds (s : State) (f : Deadline → Deadline)
    (hf : ∀ taken d, d.Timely s.timer.floor taken → (f d).Timely s.timer.floor taken) :
    Upholds s (s.modLiveDeadlines f) := by
  refine ⟨fun h => h.congr (by simp) (by simp) (by simp) (by simp) (by simp) (by simp) (by simp), fun taken h =>
    ⟨by simpa using h.1, fun p q hq => ?_⟩⟩
  rw [State.passage_modLiveDeadlines] at hq
  obtain ⟨r, hr, rfl⟩ := Option.map_eq_some_iff.1 hq
  rw [State.modLiveDeadlines_timer]
  split
  · exact ⟨(h.2 p r hr).1, hf _ _ (h.2 p r hr).2⟩
  · exact h.2 p r hr

theorem State.setLatch_upholds (s : State) (a : ApproachId) (l : Latch) : Upholds s (s.setLatch a l) := by
  unfold State.setLatch
  simp only
  split
  · exact .rfl
  · split
    · split
      · exact s.setSignal_upholds _ _
      · exact (s.setSignal_upholds _ _).trans
          (State.modDeadline_upholds _ _ _ fun _ _ h => Deadline.setCauses_timely _ _ h)
    · exact s.setSignal_upholds _ _

/-! #### Releases, removals and flushes -/

theorem State.intrude_upholds (s : State) (c : CellId) (reason : IntrusionReason) (who : Option (Slot × Passage))
    (stamp : Time) : Upholds s (s.intrude c reason who stamp) :=
  (s.setCell_upholds _ _).trans (State.postSafety_upholds _ _)

theorem State.release_upholds (s : State) (p : Slot) (q : Passage) (c : CellId) : Upholds s (s.release p q c) := by
  unfold State.release
  simp only
  have second : ∀ u : State, Upholds u
      (if (s.cell c).lock = .pending then u.postSafety (u.note (.locked c) none) else u) := by
    intro u
    split
    · exact u.postSafety_upholds _
    · exact .rfl
  have first := s.setCell_upholds c
    { s.cell c with holder := none, lock := if (s.cell c).lock = .pending then .locked else (s.cell c).lock }
  split
  · exact (first.trans (second _)).trans (State.intrude_upholds _ _ _ _ _)
  · exact first.trans (second _)

theorem State.releaseRun_upholds (s : State) (p : Slot) (q : Passage) : Upholds s (s.releaseRun p q) :=
  upholds_foldl (fun s c => s.release_upholds p q c) _ s

theorem State.remove_upholds (s : State) (p : Slot) (o : Outcome) : Upholds s (s.remove p o) := by
  unfold State.remove
  split
  · exact .rfl
  · rename_i q _
    simp only
    have post : ∀ u : State, Upholds s u → Upholds s
        (match o.body with
          | none => u.setPassage p none
          | some body => (u.setPassage p none).postOwner body p q) := by
      intro u hu
      split
      · exact hu.trans (u.clearPassage_upholds _)
      · exact (hu.trans (u.clearPassage_upholds _)).trans (State.postOwner_upholds _ _ _ _)
    have idle : ∀ u : State, Upholds u (u.modDeadline p fun d => { d with run := none }) := fun u =>
      u.modDeadline_upholds p _ fun _ _ _ => Deadline.timely_of_idle rfl
    apply post
    split
    · split
      · exact ((s.releaseRun_upholds p q).trans (idle _)).trans (State.setLatch_upholds _ _ _)
      · exact (s.releaseRun_upholds p q).trans (idle _)
    · split
      · exact (s.leaveLists_upholds _ _).trans (State.clearReservations_upholds _ _)
      · exact s.leaveLists_upholds _ _

/-- A removal frees its slot (R24, step 4). -/
theorem State.remove_passage (s : State) (p : Slot) (o : Outcome) : (s.remove p o).passage p = none := by
  unfold State.remove
  split
  · assumption
  · simp only
    split
    · simp
    · rw [State.passage_congr (congrArg Book.pool (State.postOwner_keepsBook _ _ _ _).2.1)]
      simp

theorem State.flush_upholds (s : State) (which : Passage → Bool) : Upholds s (s.flush which) :=
  upholds_foldl (fun s p => s.remove_upholds p .flushed) _ s

/-! #### The grant pass -/

theorem State.considerHead_upholds (a : ApproachId) (sc : State × List Entrant) :
    Upholds sc.1 (State.considerHead a sc).1 := by
  unfold State.considerHead
  simp only
  split
  · exact State.setMark_upholds _ _ _
  · split
    · split
      · exact State.setMark_upholds _ _ _
      · split
        · exact .rfl
        · refine Upholds.trans ?_ (State.setMark_upholds _ _ _)
          split
          · exact .rfl
          · exact State.postSafety_upholds _ _
    · exact .rfl

/-- A head that joins the candidates is a record of the pool (R43). -/
theorem State.considerHead_mem {a : ApproachId} {sc : State × List Entrant} {x : Entrant}
    (hx : x ∈ (State.considerHead a sc).2) : x ∈ sc.2 ∨ sc.1.passage x.1 = some x.2 := by
  unfold State.considerHead at hx
  simp only at hx
  split at hx
  · exact .inl hx
  · split at hx
    · rename_i q _ hq
      split at hx
      · rcases List.mem_append.1 hx with h | h
        · exact .inl h
        · cases List.mem_singleton.1 h; exact .inr hq
      · split at hx <;> exact .inl hx
    · exact .inl hx

/-- Stage 1 upholds the laws, and its candidates are in range (R42). -/
theorem State.candidates_upholds (s : State) :
    Upholds s s.candidates.1 ∧ (s.TimerLaw → ∀ x ∈ s.candidates.2, x.2.InRange) := by
  have each : ∀ (l : List ApproachId) (sc : State × List Entrant),
      (Upholds s sc.1 ∧ (s.TimerLaw → ∀ x ∈ sc.2, x.2.InRange)) →
      let done := l.foldl (fun sc a => State.considerHead a sc) sc
      Upholds s done.1 ∧ (s.TimerLaw → ∀ x ∈ done.2, x.2.InRange) := by
    intro l
    induction l with
    | nil => exact fun _ h => h
    | cons a rest ih =>
      intro sc h
      refine ih _ ⟨h.1.trans (State.considerHead_upholds a sc), fun law x hx => ?_⟩
      rcases State.considerHead_mem hx with old | pool
      · exact h.2 law x old
      · exact ((h.1.2 _ (s.timelyLaw_nothing_iff.2 law)).2 _ _ pool).1
  exact each _ (s, []) ⟨.rfl, by simp⟩

theorem mem_insertCandidate {order : List Slot} {x y : Entrant} {l : List Entrant}
    (h : y ∈ insertCandidate order x l) : y = x ∨ y ∈ l := by
  induction l with
  | nil => exact .inl (List.mem_singleton.1 h)
  | cons z rest ih =>
    unfold insertCandidate at h
    split at h
    · simpa using h
    · rcases List.mem_cons.1 h with rfl | h
      · exact .inr (List.mem_cons_self ..)
      · exact (ih h).imp_right (List.mem_cons_of_mem _)

/-- Stage 2 brings in no candidate (R45). -/
theorem mem_of_mem_grantOrder {order : List Slot} {l : List Entrant} {y : Entrant} (h : y ∈ grantOrder order l) :
    y ∈ l := by
  induction l with
  | nil => cases h
  | cons x rest ih =>
    rcases mem_insertCandidate h with rfl | h
    · exact List.mem_cons_self ..
    · exact List.mem_cons_of_mem _ (ih h)

theorem State.takeCells_upholds (s : State) (p : Slot) (l : List CellId) : Upholds s (s.takeCells p l) :=
  upholds_foldl (fun s c => s.setCell_upholds c _) l s

/-- A grant of a record in range upholds the laws: its ARRIVAL is armed with a window of R84 (R47). -/
theorem Upholds.grant {s u : State} (h : Upholds s u) (quiet : Option Slot) (p : Slot) {q : Passage}
    (hq : s.TimerLaw → q.InRange) : Upholds s (u.grant quiet p q) := by
  unfold State.grant
  simp only
  have lists := ((h.trans (u.takeCells_upholds p (u.cellsOf q))).trans (State.clearReservations_upholds _ p)).trans
    (State.leaveLists_upholds _ p (u.approachOf q))
  generalize ((u.takeCells p (u.cellsOf q)).clearReservations p).leaveLists p (u.approachOf q) = v at lists ⊢
  have armed := (lists.setPassage p
    (some (({ q with state := .granted, firstHeld := 0, position := none, skips := 0, blocking := false } :
      Passage).armFor .arrival v.map.working.options
        (v.arrivalMs { q with state := .granted, firstHeld := 0, position := none, skips := 0, blocking := false })
        v.timer.floor)) fun taken i j r hr => by
      cases hr
      have range := hq i.timerLaw
      obtain ⟨-, -, -, -, -, -, -, -, approaches, -⟩ := j.1
      exact Passage.armFor_timely j.1 range _ _ _ (Passage.InRange.arrival_pos range (approaches _).1)).trans
      (State.setLatch_upholds _ (u.approachOf q) .go)
  split
  · exact armed
  · exact armed.trans (State.postOwner_upholds _ _ _ _)

/-- Stage 3 upholds the laws if its candidates are in range (R42). -/
theorem Upholds.examine {s u : State} (h : Upholds s u) (quiet : Option Slot) {l : List Entrant}
    (hl : s.TimerLaw → ∀ x ∈ l, x.2.InRange) : Upholds s (u.examine quiet l).1 := by
  have each : ∀ (l : List Entrant) (sg : State × List Entrant), Upholds s sg.1 →
      (s.TimerLaw → ∀ x ∈ l, x.2.InRange) → Upholds s (l.foldl (State.examineOne quiet) sg).1 := by
    intro l
    induction l with
    | nil => exact fun _ h _ => h
    | cons x rest ih =>
      intro sg h hl
      refine ih _ ?_ fun i y hy => hl i y (List.mem_cons_of_mem _ hy)
      unfold State.examineOne
      split
      · exact h.grant quiet x.1 fun i => hl i x (List.mem_cons_self ..)
      · exact h
  exact each l (u, []) h hl

theorem State.account_upholds (s : State) (order : List Slot) (ordered granted : List Entrant) :
    Upholds s (s.account order ordered granted) := by
  refine upholds_foldl (fun s h => ?_) ordered s
  split
  · refine s.modPassage_upholds _ _ fun taken q _ hq => ?_
    unfold Passage.gainSkip
    split <;> exact hq
  · exact .rfl

theorem State.reserveFor_upholds (s : State) (p : Slot) : Upholds s (s.reserveFor p) := by
  unfold State.reserveFor
  split
  · exact .rfl
  · simp only
    split
    · exact upholds_foldl (fun s c => s.setCell_upholds c _) _ s
    · exact .rfl

theorem State.runPass_upholds (s : State) (quiet : Option Slot) : Upholds s (s.runPass quiet) := by
  obtain ⟨formed, range⟩ := s.candidates_upholds
  exact ((formed.examine quiet fun i x hx => range i x (mem_of_mem_grantOrder hx)).trans
    (State.account_upholds _ _ _ _)).trans (upholds_foldl State.reserveFor_upholds _ _)

/-- A grant pass upholds both laws (R42). -/
theorem State.grantPass_upholds (s : State) (quiet : Option Slot) : Upholds s (s.grantPass quiet) := by
  unfold State.grantPass
  split
  · exact s.runPass_upholds quiet
  · exact .rfl

theorem State.afterEvent_upholds (before s : State) (b : Bool) : Upholds s (State.afterEvent before s b) := by
  unfold State.afterEvent
  simp only
  have h : Upholds s
      (if s.control.mode = .draining && 0 < before.liveCount && s.liveCount = 0 then s.postMode else s) := by
    split
    · exact s.postMode_upholds
    · exact .rfl
  split
  · exact h.trans (State.grantPass_upholds _ _)
  · exact h

/-! #### The Tracker -/

theorem State.releaseFront_upholds (p : Slot) (pos : Nat) (cells : List CellId) :
    ∀ (i : Nat) (s : State), Upholds s (State.releaseFront p pos i cells s).1 := by
  induction cells with
  | nil => intro i s; exact .rfl
  | cons c rest ih =>
    intro i s
    unfold State.releaseFront
    split
    · exact .rfl
    · rename_i q _
      have advanced := (s.release_upholds p q c).trans
        (State.modPassage_upholds _ p (fun q => { q with firstHeld := i + 1 }) fun _ _ _ h => h)
      split
      · exact advanced.trans (ih _ _)
      · exact .rfl

theorem State.armBlindClear_upholds (s : State) (p : Slot) : Upholds s (s.armBlindClear p) := by
  refine s.modPassage_upholds p _ fun taken q hm hq => ?_
  split
  · exact hq
  · exact Passage.armFor_timely hm hq.1 _ _ _ (hq.1.traverse_pos _)

theorem State.armDwell_upholds (s : State) (p : Slot) (c : CellId) : Upholds s (s.armDwell p c) :=
  s.modPassage_upholds p _ fun _ _ hm hq => Passage.armFor_timely hm hq.1 _ _ _ (hq.1.traverse_pos _)

theorem State.examination_upholds (s : State) (p : Slot) (b : Bool) : Upholds s (s.examination p b).1 := by
  unfold State.examination
  split
  · exact .rfl
  · simp only
    split
    · split
      · split
        · exact (State.releaseFront_upholds _ _ _ _ _).trans (State.remove_upholds _ _ _)
        · exact State.releaseFront_upholds _ _ _ _ _
      · split
        · exact (State.releaseFront_upholds _ _ _ _ _).trans (State.armBlindClear_upholds _ _)
        · exact State.releaseFront_upholds _ _ _ _ _
    · exact .rfl

theorem State.enter_upholds (s : State) (p : Slot) {q : Passage} (hq : s.passage p = some q) (k : Nat) (c : CellId) :
    Upholds s (s.enter p q k c) := by
  have entered := s.setPassage_upholds p (some { q with state := .entered, position := some k, firstHeld := 0 })
    fun taken h r hr => by cases hr; exact h.2 p q hq
  unfold State.enter
  exact ((entered.trans (State.setLatch_upholds _ _ _)).trans (State.armDwell_upholds _ _ _)).trans
    (State.examination_upholds _ _ _)

theorem State.occupiedAhead_upholds (s : State) (p : Slot) (q : Passage) (c : CellId) (stamp : Time) :
    Upholds s (s.occupiedAhead p q c stamp) := by
  unfold State.occupiedAhead
  simp only
  split
  · exact .rfl
  · split
    · exact (s.modPassage_upholds p (fun q => { q with position := some _, overdue := .normal })
        fun _ _ _ h => h).trans (State.armDwell_upholds _ p c)
    · exact s.intrude_upholds _ _ _ _

/-- A change report makes the Tracker uphold both laws (R59). -/
theorem State.takeChange_upholds (s : State) (c : CellId) (occ : Occupancy) (stamp : Time) :
    Upholds s (s.takeChange c occ stamp).1 := by
  unfold State.takeChange
  simp only
  refine Upholds.trans (s.setCell_upholds c
    { s.cell c with heard := occ, intruded := (s.cell c).intruded && !decide (occ ≠ .occupied) }) ?_
  generalize s.setCell c _ = u
  split
  · split
    · exact .rfl
    · exact u.intrude_upholds _ _ _ _
  · rename_i p q holder
    have hq : u.passage p = some q := by
      obtain ⟨x, -, hx⟩ := Option.bind_eq_some_iff.1 holder
      obtain ⟨r, hr, e⟩ := Option.map_eq_some_iff.1 hx
      cases e
      exact hr
    split
    · exact .rfl
    · split
      · exact .rfl
      · split
        · split
          · exact u.enter_upholds _ hq _ _
          · exact u.intrude_upholds _ _ _ _
        · exact u.intrude_upholds _ _ _ _
    · refine Upholds.trans ?_ (State.examination_upholds _ _ _)
      split
      · exact .rfl
      · exact u.occupiedAhead_upholds _ _ _ _

/-! #### Sensors, halts and SETTLING -/

theorem State.toStandby_upholds (s : State) (c : CellId) : Upholds s (s.toStandby c).1 :=
  ((s.setSensor_upholds c _).trans (State.setCell_upholds _ _ _)).trans (State.takeChange_upholds _ _ _ _)

theorem State.restartFilter_upholds (s : State) (c : CellId) : Upholds s (s.restartFilter c).1 := by
  unfold State.restartFilter
  simp only
  have written : ∀ n r, Upholds s ((s.setSensor c n).setCell c r) := fun n r =>
    (s.setSensor_upholds c n).trans (State.setCell_upholds _ _ r)
  split
  · exact written _ _
  · exact (written _ _).trans (State.takeChange_upholds _ _ _ _)

theorem State.toActive_upholds (s : State) (c : CellId) : Upholds s (s.toActive c).1 :=
  (s.setSensor_upholds c _).trans (State.restartFilter_upholds _ c)

theorem State.changeSensor_upholds (s : State) (c : CellId) (m : SensorMode) : Upholds s (s.changeSensor c m).1 := by
  cases m
  · exact s.toActive_upholds c
  · exact s.toStandby_upholds c

theorem State.restartFilters_upholds (s : State) : Upholds s s.restartFilters := by
  unfold State.restartFilters
  refine upholds_foldl (fun s c => ?_) _ s
  split
  · exact s.restartFilter_upholds c
  · exact .rfl

theorem State.returnSensor_upholds (s : State) (c : CellId) : Upholds s (s.returnSensor c) := by
  unfold State.returnSensor
  split
  · exact .rfl
  · split
    · exact s.restartFilter_upholds c
    · exact .rfl
    · exact s.toStandby_upholds c
    · exact s.toActive_upholds c

theorem State.goLatches_upholds (s : State) : Upholds s s.goLatches := by
  unfold State.goLatches
  refine upholds_foldl (fun s a => ?_) _ s
  split
  · exact s.setLatch_upholds a .go
  · exact .rfl

theorem State.halt_upholds (s : State) (prior : PriorMode) (causes : HaltCauses) : Upholds s (s.halt prior causes) := by
  unfold State.halt
  simp only
  exact ((s.setControl_upholds _).trans
    (State.modLiveDeadlines_upholds _ _ fun _ _ h => Deadline.setCauses_timely _ _ h)).trans
    (upholds_foldl (fun s a => s.setLatch_upholds a .stop) _ _)

theorem State.joinCause_upholds (s : State) (add : HaltCauses → HaltCauses) : Upholds s (s.joinCause add) := by
  unfold State.joinCause
  simp only
  split
  · exact (s.halt_upholds _ _).trans (State.postMode_upholds _)
  · exact (s.halt_upholds _ _).trans (State.postMode_upholds _)
  · exact (s.halt_upholds _ _).trans (State.postMode_upholds _)
  · split
    · exact .rfl
    · exact (s.setControl_upholds _).trans (State.postMode_upholds _)
  · exact .rfl
  · exact .rfl

theorem State.leaveCause_upholds (s : State) (f : HaltCauses → HaltCauses) : Upholds s (s.leaveCause f) := by
  unfold State.leaveCause
  simp only
  split
  · exact (s.setControl_upholds _).trans (State.postMode_upholds _)
  · exact .rfl

theorem State.enterSettling_upholds (s : State) : Upholds s s.enterSettling := by
  unfold State.enterSettling
  simp only
  refine Upholds.trans ?_ (State.postMode_upholds _)
  split
  · exact s.restartFilters_upholds.trans (State.setControl_upholds _ _)
  · exact (s.restartFilters_upholds.trans (State.setControl_upholds _ _)).trans (State.halt_upholds _ _ _)

theorem State.leaveHalted_upholds (s : State) (m : Mode) : Upholds s (s.leaveHalted m) := by
  unfold State.leaveHalted
  simp only
  exact ((((s.setControl_upholds _).trans
    (State.modLiveDeadlines_upholds _ _ fun _ _ h => Deadline.setCauses_timely _ _ h)).trans
    (State.goLatches_upholds _)).trans (State.postMode_upholds _)).trans (State.grantPass_upholds _ _)

end Sys2Proof.Machine

namespace Sys2Proof.Machine

/-! ### Fields of a LOAD_* frame -/

@[simp] theorem field_some_bind {α β : Type} (number : Nat) (x : α) (f : α → Except Verdict β) :
    (field number (some x) >>= f) = f x := rfl

/-- A load that reads a field and stores a map has read the field. -/
theorem field_bind_ok {α β : Type} {number : Nat} {v : Option α} {f : α → Except Verdict β} {r : β}
    (h : (field number v >>= f) = .ok r) : ∃ x, v = some x ∧ f x = .ok r := by
  cases v with
  | none => cases h
  | some x => exact ⟨x, rfl, h⟩

theorem inRange_eq_some {low high w : Nat} {b : BitVec w} {n : Nat} :
    inRange low high b = some n ↔ (low ≤ b.toNat ∧ b.toNat ≤ high) ∧ b.toNat = n := by
  simp [inRange]

theorem tickOf_eq_some {b : Byte} {n : Nat} : tickOf b = some n ↔ b.toNat ∈ [5, 10, 20, 40] ∧ b.toNat = n := by
  simp only [tickOf, Option.ite_none_right_eq_some, Option.some.injEq]

/-- Every LOAD_OPTIONS that is stored leaves the map in range (R2, R8). -/
theorem WorkingMap.InRange.withOptions {m n : WorkingMap} (hm : m.InRange) {tick divider depth dwell skip : Byte}
    {tag : BitVec 16} (h : m.withOptions tick divider depth dwell skip tag = .ok n) : n.InRange := by
  obtain ⟨t, ht, h⟩ := field_bind_ok h
  obtain ⟨i, hi, h⟩ := field_bind_ok h
  obtain ⟨d, hd, h⟩ := field_bind_ok h
  obtain ⟨w, hw, h⟩ := field_bind_ok h
  obtain ⟨k, hk, h⟩ := field_bind_ok h
  cases h
  obtain ⟨tickIn, rfl⟩ := tickOf_eq_some.1 ht
  obtain ⟨⟨-, dividerLe⟩, rfl⟩ := inRange_eq_some.1 hi
  obtain ⟨⟨depthGe, depthLe⟩, rfl⟩ := inRange_eq_some.1 hd
  obtain ⟨⟨dwellGe, dwellLe⟩, rfl⟩ := inRange_eq_some.1 hw
  obtain ⟨⟨-, skipLe⟩, rfl⟩ := inRange_eq_some.1 hk
  obtain ⟨-, -, -, -, -, -, -, tables⟩ := hm
  exact ⟨tickIn, dividerLe, depthGe, depthLe, dwellGe, dwellLe, skipLe, tables⟩

/-- Every LOAD_CELL that is stored leaves the map in range (R3, R8). -/
theorem WorkingMap.InRange.withCell {m n : WorkingMap} (hm : m.InRange) {cell inUse : Byte} {length : BitVec 16}
    {sensor : Byte} (h : m.withCell cell inUse length sensor = .ok n) : n.InRange := by
  obtain ⟨c, -, h⟩ := field_bind_ok h
  obtain ⟨u, -, h⟩ := field_bind_ok h
  obtain ⟨l, hl, h⟩ := field_bind_ok h
  obtain ⟨k, -, h⟩ := field_bind_ok h
  cases h
  obtain ⟨inBounds, rfl⟩ := inRange_eq_some.1 hl
  obtain ⟨ht, hi, hd, hd', hw, hw', hk, cells, tables⟩ := hm
  refine ⟨ht, hi, hd, hd', hw, hw', hk, fun x => ?_, tables⟩
  simp only [Fin.getElem_fin, Vector.getElem_set]
  split
  · exact inBounds
  · exact cells x

/-- Every LOAD_APPROACH that is stored leaves the map in range (R4, R8). -/
theorem WorkingMap.InRange.withApproach {m n : WorkingMap} (hm : m.InRange) {approach inUse : Byte}
    {distance : BitVec 16} {limit : Byte} (h : m.withApproach approach inUse distance limit = .ok n) : n.InRange := by
  obtain ⟨a, -, h⟩ := field_bind_ok h
  obtain ⟨u, -, h⟩ := field_bind_ok h
  obtain ⟨d, hdist, h⟩ := field_bind_ok h
  obtain ⟨l, hl, h⟩ := field_bind_ok h
  cases h
  obtain ⟨⟨near, far⟩, rfl⟩ := inRange_eq_some.1 hdist
  obtain ⟨limitIn, rfl⟩ := inRange_eq_some.1 hl
  obtain ⟨ht, hi, hd, hd', hw, hw', hk, cells, approaches, routes⟩ := hm
  refine ⟨ht, hi, hd, hd', hw, hw', hk, cells, fun x => ?_, routes⟩
  simp only [Fin.getElem_fin, Vector.getElem_set]
  split
  · exact ⟨near, far, limitIn⟩
  · exact approaches x

/-- The map stays in range when one route's entry is replaced by one in range (R5). -/
theorem WorkingMap.InRange.setRoute {m : WorkingMap} (hm : m.InRange) (r : RouteId) {e : RouteEntry}
    (he : 10 ≤ e.speed ∧ e.speed ≤ 250 ∧ e.count ≤ 15) : { m with routes := m.routes.set r e }.InRange := by
  obtain ⟨ht, hi, hd, hd', hw, hw', hk, cells, approaches, routes⟩ := hm
  refine ⟨ht, hi, hd, hd', hw, hw', hk, cells, approaches, fun x => ?_⟩
  simp only [Fin.getElem_fin, Vector.getElem_set]
  split
  · exact he
  · exact routes x

/-- Every LOAD_ROUTE that is stored leaves the map in range (R5, R8). -/
theorem WorkingMap.InRange.withRoute {m n : WorkingMap} (hm : m.InRange) {route inUse approach speed count : Byte}
    (h : m.withRoute route inUse approach speed count = .ok n) : n.InRange := by
  obtain ⟨r, -, h⟩ := field_bind_ok h
  obtain ⟨u, -, h⟩ := field_bind_ok h
  obtain ⟨a, -, h⟩ := field_bind_ok h
  obtain ⟨v, hv, h⟩ := field_bind_ok h
  obtain ⟨k, hk, h⟩ := field_bind_ok h
  cases h
  obtain ⟨⟨slow, fast⟩, rfl⟩ := inRange_eq_some.1 hv
  obtain ⟨⟨-, countLe⟩, rfl⟩ := inRange_eq_some.1 hk
  exact hm.setRoute r ⟨slow, fast, countLe⟩

/-- Every LOAD_ROUTE_CELLS that is stored leaves the map in range (R5, R10). -/
theorem WorkingMap.InRange.withRouteCells {m n : WorkingMap} (hm : m.InRange) {route span : Byte} {bytes : List Byte}
    (h : m.withRouteCells route span bytes = .ok n) : n.InRange := by
  obtain ⟨r, -, h⟩ := field_bind_ok h
  obtain ⟨o, -, h⟩ := field_bind_ok h
  obtain ⟨c, -, h⟩ := field_bind_ok h
  obtain ⟨d, -, h⟩ := field_bind_ok h
  obtain ⟨-, -, -, -, -, -, -, -, -, routes⟩ := id hm
  cases he : readEntries 4 (bytes.take d) with
  | error v => rw [he] at h; cases h
  | ok entries =>
    rw [he] at h
    cases h
    exact hm.setRoute r (routes r)

/-- Every LOAD_MASTER that is stored leaves the map in range: the ranges of R6 are those of its types. -/
theorem WorkingMap.InRange.withMaster {m n : WorkingMap} (hm : m.InRange) {slot inUse node role option : Byte}
    (h : m.withMaster slot inUse node role option = .ok n) : n.InRange := by
  obtain ⟨k, -, h⟩ := field_bind_ok h
  obtain ⟨u, -, h⟩ := field_bind_ok h
  obtain ⟨d, -, h⟩ := field_bind_ok h
  obtain ⟨r, -, h⟩ := field_bind_ok h
  obtain ⟨o, -, h⟩ := field_bind_ok h
  cases h
  exact hm

theorem WorkingMap.reset_inRange : WorkingMap.reset.InRange := by
  refine ⟨by decide, by decide, by decide, by decide, by decide, by decide, by decide, fun c => ?_, fun a => ?_,
    fun r => ?_⟩ <;> simp [WorkingMap.reset, CellEntry.reset, ApproachEntry.reset, RouteEntry.reset]

end Sys2Proof.Machine

namespace Sys2Proof.Machine

/-! ### Every command upholds both laws -/

/-! #### Owners of frames -/

/-- What writes the line, ends an attempt or starts none, and leaves notices, map, floor time and pool alone, upholds
both laws. -/
theorem Upholds.of_line {s t : State} (hn : t.notices = s.notices) (hs : t.liu.shifter = s.liu.shifter)
    (hg : t.liu.staged = s.liu.staged) (ho : t.liu.own = s.liu.own)
    (ha : t.liu.attempt = s.liu.attempt ∨ t.liu.attempt = none) (hm : t.map = s.map)
    (hf : t.timer.floor = s.timer.floor) (hp : t.book.pool = s.book.pool) : Upholds s t := by
  refine ⟨fun h => ?_, fun _ h => h.congr (by rw [hm]) hf hp⟩
  rcases ha with ha | ha
  · exact h.congr (by simp [hn]) (by rw [hn]) hs hg ha ho (by rw [hm])
  · obtain ⟨hshift, hstaged, hfill, hfill', -, hcount⟩ := h
    refine ⟨?_, ?_, ?_, ?_, by simp [ha], by rwa [hn]⟩ <;> simpa only [hn, hs, hg]

theorem State.readFrame_upholds (s : State) (f : Frame) : Upholds s (s.readFrame f) :=
  .of_line rfl rfl rfl rfl (.inl rfl) rfl rfl rfl

theorem State.giveTail_upholds (s : State) (v : Verdict) : Upholds s (s.giveTail v) :=
  .of_line rfl rfl rfl rfl (.inl rfl) rfl rfl rfl

theorem State.recordError_upholds (s : State) (k : LineError) : Upholds s (s.recordError k) :=
  .of_line rfl rfl rfl rfl (.inl rfl) rfl rfl rfl

/-- A frame command upholds the laws if its owner does (R135). -/
theorem onFrame_upholds {c : Instr} {s t : State} {owner : State → State × Verdict}
    (ho : ∀ u, Upholds u (owner u).1) (h : onFrame c s owner = .next t) : Upholds s t := by
  rcases onFrame_cases h with rfl | ⟨f, -, -, ⟨-, rfl⟩ | ⟨v, -, rfl⟩ | ⟨-, rfl⟩⟩
  · exact .rfl
  · exact s.readFrame_upholds f
  · exact (s.readFrame_upholds f).trans (State.giveTail_upholds _ _)
  · exact ((s.readFrame_upholds f).trans (ho _)).trans (State.giveTail_upholds _ _)

theorem onServiceFrame_upholds {c : Instr} {n : Node} {s t : State} {owner : State → State × Verdict}
    (ho : ∀ u, Upholds u (owner u).1) (h : onServiceFrame c n s owner = .next t) : Upholds s t :=
  onFrame_upholds (fun u => by split; exacts [ho u, .rfl]) h

/-- An event upholds the laws if its work does. -/
theorem whenRunning_upholds {s t : State} {f : State → State} (hf : ∀ u, Upholds u (f u))
    (h : s.whenRunning f = .next t) : Upholds s t := by
  rcases whenRunning_eq h with rfl | ⟨-, rfl⟩
  · exact .rfl
  · exact hf s

theorem State.checkRequest_ok {s : State} {m : MasterSlot} {carrier : CarrierId} {route : Byte} {length : BitVec 16}
    {r : RouteId} {p : Slot} (h : s.checkRequest m carrier route length = .ok (r, p)) : length.toNat ≤ 400 := by
  unfold State.checkRequest at h
  split at h
  · cases h
  · simp only at h
    split at h
    · cases h
    · split at h
      · cases h
      · omega

/-- A request's values are clamped into their ranges (R28). -/
theorem State.newPassage_inRange {s : State} (hm : s.map.working.InRange) (m : MasterSlot) (carrier : CarrierId)
    (r : RouteId) (cls speed : Byte) {length : BitVec 16} (hl : length.toNat ≤ 400) :
    (s.newPassage m carrier r cls speed length).InRange := by
  obtain ⟨-, -, -, -, -, -, -, -, -, routes⟩ := hm
  obtain ⟨slow, fast, -⟩ := routes r
  have priority : priorityOf cls ≤ 3 := Nat.le_of_lt_succ (cls.extractLsb' 6 2).isLt
  refine ⟨?_, ?_, le_max_left .., max_le (by omega) hl, min_le_left .., ?_⟩
  · simp only [State.newPassage, clampSpeed]; split_ifs <;> omega
  · simp only [State.newPassage, clampSpeed]; split_ifs <;> omega
  · simp only [State.newPassage, clampPriority]; split_ifs <;> omega

theorem State.request_upholds (s : State) (m : MasterSlot) (carrier : CarrierId) (route cls speed : Byte)
    (length : BitVec 16) : Upholds s (s.request m carrier route cls speed length).1 := by
  unfold State.request
  split
  · exact .rfl
  · rename_i r p hok
    have admitted : Upholds s (s.admission p (s.newPassage m carrier r cls speed length)) := by
      refine (s.setPassage_upholds p (some (s.newPassage m carrier r cls speed length)) fun taken h q hq => ?_).trans
        (.of_same rfl rfl rfl rfl rfl)
      cases hq
      exact ⟨State.newPassage_inRange h.1 _ _ _ _ _ (State.checkRequest_ok hok), Deadline.timely_of_idle rfl⟩
    exact admitted.trans (State.grantPass_upholds _ _)

theorem State.withdraw_upholds (s : State) (src : Node) (slot : Byte) (carrier : CarrierId) :
    Upholds s (s.withdraw src slot carrier).1 := by
  unfold State.withdraw
  split
  · exact .rfl
  · split
    · exact .rfl
    · split
      · exact .rfl
      · exact (s.remove_upholds _ _).trans (State.afterEvent_upholds _ _ _)

theorem State.forceRelease_upholds (s : State) (slot : Byte) (carrier : CarrierId) :
    Upholds s (s.forceRelease slot carrier).1 := by
  unfold State.forceRelease
  split
  · exact .rfl
  · exact (s.remove_upholds _ _).trans (State.afterEvent_upholds _ _ _)

theorem State.lockCell_upholds (s : State) (c : CellId) : Upholds s (s.lockCell c) := by
  unfold State.lockCell
  simp only
  split
  · exact .rfl
  · split
    · exact s.setCell_upholds _ _
    · exact (s.setCell_upholds _ _).trans (State.postSafety_upholds _ _)

theorem State.lockCells_upholds (s : State) (set : BitVec 32) : Upholds s (s.lockCells set).1 := by
  unfold State.lockCells
  split
  · exact .rfl
  · exact upholds_foldl State.lockCell_upholds _ _

theorem State.unlockCells_upholds (s : State) (set : BitVec 32) : Upholds s (s.unlockCells set).1 := by
  unfold State.unlockCells
  split
  · exact .rfl
  · have unlocked : Upholds s ((cellsIn set).foldl State.unlockCell s) :=
      upholds_foldl (fun s c => s.setCell_upholds c _) _ _
    simp only
    split
    · exact unlocked.trans (State.grantPass_upholds _ _)
    · exact unlocked

theorem State.setSensorMode_upholds (s : State) (cell mode : Byte) : Upholds s (s.setSensorMode cell mode).1 := by
  unfold State.setSensorMode
  split
  · exact .rfl
  · simp only
    split
    · exact .rfl
    · exact (s.changeSensor_upholds _ _).trans (State.afterEvent_upholds _ _ _)

/-- A LOAD_* frame upholds the laws if what it stores is in range (R8). -/
theorem State.load_upholds (s : State) {map : Except Verdict WorkingMap}
    (h : s.map.working.InRange → ∀ m, map = .ok m → m.InRange) : Upholds s (s.load map).1 := by
  unfold State.load
  split
  · exact .rfl
  · exact ⟨fun i => i.congr (fun _ => .refl _) rfl rfl rfl rfl rfl rfl, fun taken i => ⟨h i.1 _ rfl, i.2⟩⟩

theorem State.nameServiceNode_upholds (s : State) (n : Node) : Upholds s (s.nameServiceNode n) :=
  .of_same rfl rfl rfl rfl rfl

theorem State.restCells_upholds (s : State) : Upholds s s.restCells := by
  unfold State.restCells
  exact .of_same rfl rfl rfl rfl rfl

theorem State.emptyLatches_upholds (s : State) :
    Upholds s { s with decoder := { s.decoder with latches := Vector.replicate 15 none } } :=
  .of_same rfl rfl rfl rfl rfl

theorem State.enterService_upholds (s : State) (n : Node) : Upholds s (s.enterService n) := by
  unfold State.enterService
  dsimp only
  refine Upholds.trans ?_ (State.postMode_upholds _)
  refine Upholds.trans ?_ (State.restCells_upholds _)
  exact ((s.setControl_upholds _).trans (State.nameServiceNode_upholds _ n)).trans
    (State.emptyLatches_upholds _)

theorem State.openService_upholds (s : State) (src : Node) : Upholds s (s.openService src).1 := by
  unfold State.openService
  split
  case h_1 => dsimp only; exact s.enterService_upholds _
  case h_2 => dsimp only; exact s.nameServiceNode_upholds _
  case h_3 | h_4 =>
    split
    · exact .rfl
    · dsimp only; exact (s.flush_upholds _).trans (State.enterService_upholds _ _)
  all_goals exact .rfl

theorem State.setMode_upholds (s : State) (m : Mode) : Upholds s (s.setMode m) := s.setControl_upholds _

theorem State.drain_upholds (s : State) : Upholds s s.drain.1 := by
  unfold State.drain
  dsimp only
  split
  · exact (s.setMode_upholds _).trans (State.postMode_upholds _)
  · exact .rfl

theorem State.resume_upholds (s : State) : Upholds s s.resume.1 := by
  unfold State.resume
  split
  · split
    · exact .rfl
    · dsimp only
      split
      · exact s.leaveHalted_upholds _
      · exact s.leaveHalted_upholds _
      · exact s.enterSettling_upholds
      · exact s.enterSettling_upholds
  · dsimp only
    exact ((s.setMode_upholds .running).trans (State.postMode_upholds _)).trans (State.grantPass_upholds _ none)
  all_goals exact .rfl

theorem State.restart_upholds (s : State) : Upholds s s.restart.1 := by
  unfold State.restart
  dsimp only
  have rested := (s.flush_upholds fun _ => true).trans (upholds_foldl State.returnSensor_upholds (List.finRange 32) _)
  split
  · exact (rested.trans (State.setControl_upholds _ _)).trans (State.postMode_upholds _)
  · exact rested.trans (State.enterSettling_upholds _)

theorem State.junctionPart_upholds (s : State) (src : Node) (part : Byte) : Upholds s (s.junctionPart src part).1 := by
  unfold State.junctionPart
  split
  · unfold State.junctionPart1 State.storeSnapshot
    dsimp only
    split
    · exact .rfl
    · exact .of_same rfl rfl rfl rfl rfl
  · split
    · unfold State.junctionPart2; split <;> exact .rfl
    · exact .rfl

theorem State.junctionPart2_upholds (s : State) (src : Node) : Upholds s (s.junctionPart2 src).1 := by
  unfold State.junctionPart2; split <;> exact .rfl

/-! #### COMMIT_MAP -/

/-- The state before the places are filled again at a commit (R15, step 4): no changed slot has a notice, a frame in the
shifter or the staged buffer, or an attempt. -/
def State.withoutChangedSlots (s : State) : State :=
  let dropped := s.liu.shifter.any fun f => s.slotChanged f.slot
  { s with
    notices := { s.notices with
      fifos := Vector.ofFn fun k => if s.slotChanged k then { queue := [], lost := false } else s.notices.fifos[k]
      attempts := if dropped then 0 else s.notices.attempts
      lateLoss := if dropped then false else s.notices.lateLoss }
    liu := { s.liu with
      shifter := s.liu.shifter.filter fun f => !s.slotChanged f.slot
      attempt := if dropped then none else s.liu.attempt
      staged := s.liu.staged.filter fun f => !s.slotChanged f.slot } }

theorem State.clearChangedSlots_eq (s : State) : s.clearChangedSlots = s.withoutChangedSlots.refill := by
  unfold State.clearChangedSlots State.withoutChangedSlots
  have keep : ∀ f : Option TxFrame, f.filter (fun f => !s.slotChanged f.slot) =
      if (f.any fun f => s.slotChanged f.slot) = true then none else f := by
    rintro (_ | f)
    · simp
    · cases h : s.slotChanged f.slot <;> simp [h]
  simp only [keep]
  by_cases h1 : (s.liu.shifter.any fun f => s.slotChanged f.slot) = true <;>
    by_cases h2 : (s.liu.staged.any fun f => s.slotChanged f.slot) = true <;>
    simp [h1, h2, State.setLiu]

end Sys2Proof.Machine

namespace Sys2Proof.Machine

/-- Replaces the Map Store. -/
def State.withMap (s : State) (m : MapStore) : State := { s with map := m }

@[simp] theorem State.withMap_map (s : State) (m : MapStore) : (s.withMap m).map = m := rfl
@[simp] theorem State.withMap_liu (s : State) (m : MapStore) : (s.withMap m).liu = s.liu := rfl
@[simp] theorem State.withMap_notices (s : State) (m : MapStore) : (s.withMap m).notices = s.notices := rfl

/-- A selection reads no map, so the map may be written before or after it. -/
theorem State.select_withMap (s : State) (m : MapStore) : (s.withMap m).select = s.select.withMap m := by
  have same : (s.withMap m).selected = s.selected := rfl
  unfold State.select
  rw [same]
  unfold State.withMap
  dsimp only
  split <;> rfl

theorem State.promote_withMap (s : State) (m : MapStore) : (s.withMap m).promote = s.promote.withMap m := by
  unfold State.promote State.withMap
  dsimp only
  split <;> rfl

theorem State.refill_withMap (s : State) (m : MapStore) : (s.withMap m).refill = s.refill.withMap m := by
  unfold State.refill
  rw [State.promote_withMap, State.select_withMap, State.select_withMap]

theorem State.withoutChangedSlots_fifo (s : State) (k : MasterSlot) :
    s.withoutChangedSlots.notices.fifos[k] =
      if s.slotChanged k then { queue := [], lost := false } else s.notices.fifos[k] := by
  simp [State.withoutChangedSlots]

theorem State.withoutChangedSlots_attempt (s : State) :
    s.withoutChangedSlots.liu.attempt =
      if (s.liu.shifter.any fun f => s.slotChanged f.slot) = true then none else s.liu.attempt := rfl

theorem State.withoutChangedSlots_attempts (s : State) :
    s.withoutChangedSlots.notices.attempts =
      if (s.liu.shifter.any fun f => s.slotChanged f.slot) = true then 0 else s.notices.attempts := rfl

/-- With the changed slots cleared, what is left in the shifter and the staged buffer still heads its FIFO, and the
attempt still goes to the node that the new enrolment gives its slot (R15, R161). -/
theorem State.TransmitLaw.withoutChangedSlots {s : State} (h : s.TransmitLaw) (m : MapStore)
    (hm : m.enrolment = s.map.working.masters) : (s.withoutChangedSlots.withMap m).Loose := by
  obtain ⟨hshift, hstaged, hatt, hcount⟩ := h.placed
  have head : ∀ f : TxFrame, s.slotChanged f.slot = false → s.notices.fifos[f.slot].queue.head? = some f.notice →
      s.withoutChangedSlots.notices.fifos[f.slot].queue.head? = some f.notice := by
    intro f hc hq
    rw [State.withoutChangedSlots_fifo, hc]
    exact hq
  refine ⟨fun f hf => ?_, fun f hf => ?_, fun a ha => ?_, ?_⟩
  · obtain ⟨hf, hc⟩ := Option.filter_eq_some_iff.1 hf
    exact head f (by simpa using hc) (hshift f hf)
  · obtain ⟨hf, hc⟩ := Option.filter_eq_some_iff.1 hf
    refine ⟨head f (by simpa using hc) (hstaged f hf).1, fun g hg => ?_⟩
    exact (h.placed.loose.2.1 f hf).2 g (Option.filter_eq_some_iff.1 hg).1
  · have kept : (s.liu.shifter.any fun f => s.slotChanged f.slot) = false ∧ s.liu.attempt = some a := by
      simpa [State.withoutChangedSlots_attempt] using ha
    obtain ⟨f, hf, hb⟩ := hatt a kept.2
    have hc : s.slotChanged f.slot = false := by simpa [hf] using kept.1
    have node : m.enrolment[f.slot].node = s.map.enrolment[f.slot].node := by
      simp only [State.slotChanged, Bool.or_eq_false_iff, decide_eq_false_iff_not, not_not] at hc
      rw [hm]
      exact hc.1.2
    refine ⟨f, Option.filter_eq_some_iff.2 ⟨hf, by simp [hc]⟩, ?_⟩
    rw [hb, State.noticeFrame, State.noticeFrame, State.withMap_map, node]
    rfl
  · rw [State.withMap_notices, State.withoutChangedSlots_attempts]
    split
    · exact Nat.zero_le 2
    · exact hcount

/-- The first two effects of a commit: the identity is taken from the working map, and locks and intruded flags clear
(R15, steps 1 to 3). -/
def State.identified (s : State) : State :=
  { s with
    map := { s.map with tag := s.map.working.options.tag, crc := s.map.working.crc }
    book := { s.book with cells := Vector.ofFn fun c => { s.cell c with lock := .none, intruded := false } } }

/-- What a commit leaves before the sensors are set up: the changed slots cleared, the master table enrolled, and the
service node forgotten (R15, steps 4 to 6). -/
def State.enrolled (s : State) : State :=
  let u := s.clearChangedSlots.withMap { s.map with enrolment := s.map.working.masters }
  { u with decoder := { u.decoder with service := none } }

theorem State.clearChangedSlots_keepsBook (s : State) : KeepsBook s s.clearChangedSlots := by
  rw [State.clearChangedSlots_eq]
  have cleared : KeepsBook s s.withoutChangedSlots := by
    refine ⟨⟨rfl, rfl, rfl, fun h k => ?_⟩, rfl, rfl, rfl⟩
    rw [State.withoutChangedSlots_fifo]
    split
    · exact Nat.zero_le _
    · exact h k
  exact cleared.trans (State.refill_keepsBook _)

theorem State.commit_eq (s : State) : s.commit = s.identified.enrolled.setUpSensors.enterSettling := by
  unfold State.commit State.enrolled State.withMap
  rw [← s.identified.clearChangedSlots_keepsBook.1.map]
  rfl

theorem State.identified_upholds (s : State) : Upholds s s.identified := by
  unfold State.identified
  exact ⟨fun h => h.congr (fun _ => rfl) rfl rfl rfl rfl rfl rfl, fun _ h => h.congr rfl rfl rfl⟩

theorem State.enrolled_upholds (s : State) : Upholds s s.enrolled := by
  refine ⟨fun h => ?_, fun taken h => ?_⟩
  · have law := (h.withoutChangedSlots { s.map with enrolment := s.map.working.masters } rfl).refill
    rw [State.refill_withMap, ← State.clearChangedSlots_eq] at law
    exact law
  · have keeps := s.clearChangedSlots_keepsBook
    exact h.congr rfl (congrArg Timer.floor keeps.1.timer) (congrArg Book.pool keeps.2.1)

theorem State.setUpSensors_upholds (s : State) : Upholds s s.setUpSensors := by
  unfold State.setUpSensors
  exact .of_same rfl rfl rfl rfl rfl

theorem State.commitMap_upholds (s : State) : Upholds s s.commitMap.1 := by
  unfold State.commitMap
  split
  · exact .rfl
  · dsimp only
    rw [State.commit_eq]
    exact ((s.identified_upholds.trans (State.enrolled_upholds _)).trans (State.setUpSensors_upholds _)).trans
      (State.enterSettling_upholds _)

/-! #### Events -/

theorem State.setLine_upholds (s : State) (line : LineState) : Upholds s (s.setLiu { s.liu with line := line }) :=
  .of_line rfl rfl rfl rfl (.inl rfl) rfl rfl rfl

/-- The frame in the shifter is done with: its notice leaves its FIFO and the places are filled again (R138, R162). -/
theorem State.TransmitLaw.retireNotice {s : State} (h : s.TransmitLaw) {f : TxFrame} (hf : s.liu.shifter = some f)
    (lost : Bool) (rx : Option Receive) : (s.retireNotice f.slot lost rx).TransmitLaw := by
  obtain ⟨-, hstaged, -, -⟩ := h.placed
  refine State.Loose.refill ⟨by simp [State.setAttempt, State.setLiu], fun g hg => ?_,
    by simp [State.setAttempt, State.setLiu], by simp [State.setAttempt]⟩
  obtain ⟨hhead, x, hx, hne⟩ := hstaged g hg
  cases hf.symm.trans hx
  refine ⟨?_, by simp [State.setAttempt, State.setLiu]⟩
  have same : (s.setFifo f.slot { queue := s.notices.fifos[f.slot].queue.drop 1, lost := lost }).notices.fifos[g.slot] =
      s.notices.fifos[g.slot] := by
    rw [State.fifo_setFifo, if_neg hne]
  exact (congrArg (fun fifo => fifo.queue.head?) same).trans hhead

theorem State.retireNotice_upholds (s : State) {f : TxFrame} (hf : s.liu.shifter = some f) (lost : Bool)
    (rx : Option Receive) : Upholds s (s.retireNotice f.slot lost rx) := by
  refine ⟨fun h => h.retireNotice hf lost rx, fun taken h => ?_⟩
  have keeps := State.refill_keepsBook (((s.setFifo f.slot
    { queue := s.notices.fifos[f.slot].queue.drop 1, lost := lost }).setLiu
      { s.liu with shifter := none, attempt := none, rx := rx }).setAttempt 0 false)
  exact h.congr (congrArg MapStore.working keeps.1.map) (congrArg Timer.floor keeps.1.timer)
    (congrArg Book.pool keeps.2.1)

theorem State.startNotice_upholds (s : State) {f : TxFrame} (hf : s.liu.shifter = some f) :
    Upholds s (s.startNotice f) := by
  refine ⟨fun h => ?_, fun taken h => h.congr rfl rfl rfl⟩
  obtain ⟨hshift, hstaged, hfill, hfill', -, hcount⟩ := h
  refine ⟨hshift, hstaged, hfill, hfill', fun a ha => ⟨f, hf, ?_⟩, hcount⟩
  cases ha
  rfl

/-- A BIT error of one of the first two attempts ends the attempt and counts it (R138). -/
theorem State.TransmitLaw.countAttempt {s : State} (h : s.TransmitLaw) (hc : s.notices.attempts < 2) (b : Bool) :
    ((s.setLiu { s.liu with attempt := none, rx := none }).setAttempt (s.notices.attempts + 1) b).TransmitLaw := by
  obtain ⟨hshift, hstaged, hfill, hfill', -, -⟩ := h
  exact ⟨hshift, hstaged, hfill, hfill', by simp [State.setAttempt, State.setLiu], hc⟩

theorem execNoticeBitError_upholds {s t : State} (h : execNoticeBitError s = .next t) : Upholds s t := by
  refine whenRunning_upholds (fun u => ?_) h
  split
  · rename_i f _ hf
    dsimp only
    split
    · rename_i hc
      exact (u.recordError_upholds .bit).trans
        ⟨fun i => i.countAttempt hc _, fun taken i => i.congr rfl rfl rfl⟩
    · exact ((u.recordError_upholds .bit).trans (State.recordError_upholds _ .txAbandoned)).trans
        (State.retireNotice_upholds ((u.recordError .bit).recordError .txAbandoned) hf true none)
  · exact .rfl

theorem State.judgeReadback_upholds (s : State) (a : ApproachId) : Upholds s (s.judgeReadback a) := by
  have granted : ∀ (u : State) (f : Deadline → Deadline),
      (∀ taken d, d.Timely u.timer.floor taken → (f d).Timely u.timer.floor taken) → Upholds u (u.modGranted a f) := by
    intro u f hf
    unfold State.modGranted
    split
    · exact .rfl
    · exact u.modDeadline_upholds _ f hf
  unfold State.judgeReadback
  dsimp only
  split
  · exact (s.setSignal_upholds _ _).trans (granted _ _ fun _ _ h => Deadline.setCauses_timely _ _ h)
  · exact (s.setSignal_upholds _ _).trans (granted _ _ fun _ _ h => Deadline.setCauses_timely _ _ h)
  · exact (s.setSignal_upholds _ _).trans (State.joinCause_upholds _ _)
  · split
    · exact s.setSignal_upholds _ _
    · exact (s.setSignal_upholds _ _).trans (State.leaveCause_upholds _ _)

theorem State.sendHaltPulse_upholds (s : State) : Upholds s s.sendHaltPulse :=
  .of_line rfl rfl rfl rfl (.inr rfl) rfl rfl rfl

theorem State.emergencyStop_upholds (s : State) : Upholds s s.emergencyStop := by
  unfold State.emergencyStop
  dsimp only
  split
  case h_1 | h_2 | h_3 => exact (s.joinCause_upholds _).trans (State.sendHaltPulse_upholds _)
  all_goals exact s.joinCause_upholds _

theorem State.riseSettleCount_upholds (s : State) : Upholds s s.riseSettleCount := by
  unfold State.riseSettleCount
  split
  · dsimp only
    split
    · exact (((s.setControl_upholds _).trans (State.setControl_upholds _ _)).trans (State.postMode_upholds _)).trans
        (State.grantPass_upholds _ _)
    · exact s.setControl_upholds _
  · exact .rfl

theorem State.scan_upholds (s : State) (cells : BitVec 32) (signals : BitVec 8) (emergency : Bool) :
    Upholds s (s.scan cells signals emergency) := by
  unfold State.scan
  exact .of_same rfl rfl rfl rfl rfl

theorem State.occupancyChange_upholds (s : State) (c : CellId) : Upholds s (s.occupancyChange c) := by
  unfold State.occupancyChange
  split
  · exact (s.takeChange_upholds _ _ _).trans (State.afterEvent_upholds _ _ _)
  · exact .rfl

/-! #### Expiries and the tick -/

/-- The expiries `taken`, and that of this kind in slot `p`. -/
def alsoTaken (taken : Slot → ArmedKind → Prop) (p : Slot) (kind : ArmedKind) : Slot → ArmedKind → Prop :=
  fun x k => taken x k ∨ x = p ∧ k = kind

/-- An expiry that is not due counts as taken. -/
theorem State.TimelyLaw.also {s : State} {taken : Slot → ArmedKind → Prop} (h : s.TimelyLaw taken) {p : Slot}
    {kind : ArmedKind} (hp : s.expiryDue p kind = false) : s.TimelyLaw (alsoTaken taken p kind) := by
  refine ⟨h.1, fun x q hq => ?_⟩
  obtain ⟨range, sound, notDue⟩ := h.2 x q hq
  refine ⟨range, sound, fun k hk => ?_⟩
  rcases hk with old | ⟨rfl, rfl⟩
  · exact notDue k old
  · simpa [State.expiryDue, hq] using hp

/-- A removal takes every expiry of its slot. -/
theorem State.TimelyLaw.remove {s : State} {taken : Slot → ArmedKind → Prop} (h : s.TimelyLaw taken) (p : Slot)
    (o : Outcome) (kind : ArmedKind) : (s.remove p o).TimelyLaw (alsoTaken taken p kind) :=
  ((s.remove_upholds p o).2 taken h).also (by simp [State.expiryDue, State.remove_passage])

theorem State.TimelyLaw.arrivalExpiry {s : State} {taken : Slot → ArmedKind → Prop} (h : s.TimelyLaw taken)
    (p : Slot) : (s.arrivalExpiry p).TimelyLaw (alsoTaken taken p .arrival) := by
  unfold State.arrivalExpiry
  split
  · exact (State.afterEvent_upholds _ _ _).2 _ (h.remove p _ _)
  · rename_i hno
    exact h.also (by simpa using hno)

theorem State.TimelyLaw.blindClearExpiry {s : State} {taken : Slot → ArmedKind → Prop} (h : s.TimelyLaw taken)
    (p : Slot) : (s.blindClearExpiry p).TimelyLaw (alsoTaken taken p .blindClear) := by
  unfold State.blindClearExpiry
  split
  · exact (State.afterEvent_upholds _ _ _).2 _ (h.remove p _ _)
  · rename_i hno
    exact h.also (by simpa using hno)

theorem State.TimelyLaw.dwellExpiry {s : State} {taken : Slot → ArmedKind → Prop} (h : s.TimelyLaw taken)
    (p : Slot) : (s.dwellExpiry p).TimelyLaw (alsoTaken taken p .dwell) := by
  unfold State.dwellExpiry
  split
  · rename_i hnone
    exact h.also (by simp [State.expiryDue, hnone])
  · rename_i q hq
    split
    · refine (State.postOwnerAndSafety_upholds _ _ _ _).2 _ ⟨h.1, fun x r hr => ?_⟩
      rw [State.passage_setPassage] at hr
      obtain ⟨range, deadline⟩ := h.2 p q hq
      split at hr
      · cases hr
        exact ⟨range, deadline.afterDwell _ _⟩
      · rename_i hne
        obtain ⟨range, sound, notDue⟩ := h.2 x r hr
        refine ⟨range, sound, fun k hk => ?_⟩
        rcases hk with old | ⟨rfl, -⟩
        · exact notDue k old
        · exact (hne rfl).elim
    · rename_i hno
      exact h.also (by simpa [State.expiryDue, hq] using hno)

end Sys2Proof.Machine

namespace Sys2Proof.Machine

theorem State.arrivalExpiry_upholds (s : State) (p : Slot) : Upholds s (s.arrivalExpiry p) := by
  unfold State.arrivalExpiry
  split
  · exact (s.remove_upholds _ _).trans (State.afterEvent_upholds _ _ _)
  · exact .rfl

theorem State.blindClearExpiry_upholds (s : State) (p : Slot) : Upholds s (s.blindClearExpiry p) := by
  unfold State.blindClearExpiry
  split
  · exact (s.remove_upholds _ _).trans (State.afterEvent_upholds _ _ _)
  · exact .rfl

theorem State.dwellExpiry_upholds (s : State) (p : Slot) : Upholds s (s.dwellExpiry p) := by
  unfold State.dwellExpiry
  split
  · exact .rfl
  · rename_i q hq
    split
    · refine (s.setPassage_upholds p (some (q.afterDwell s.timer.floor)) fun taken h r hr => ?_).trans
        (State.postOwnerAndSafety_upholds _ _ _ _)
      cases hr
      exact ⟨(h.2 p q hq).1, (h.2 p q hq).2.afterDwell _ _⟩
    · exact .rfl

theorem State.expire_upholds (s : State) (p : Slot) : Upholds s (s.expire p) :=
  ((s.arrivalExpiry_upholds p).trans (State.dwellExpiry_upholds _ p)).trans (State.blindClearExpiry_upholds _ p)

/-- With each expiry of a slot taken, none of its deadlines is due, of whatever kind. -/
theorem State.TimelyLaw.expire {s : State} {taken : Slot → ArmedKind → Prop} (h : s.TimelyLaw taken) (p : Slot) :
    (s.expire p).TimelyLaw fun x kind => taken x kind ∨ x = p := by
  have all := ((h.arrivalExpiry p).dwellExpiry p).blindClearExpiry p
  refine ⟨all.1, fun x q hq => ?_⟩
  obtain ⟨range, sound, notDue⟩ := all.2 x q hq
  refine ⟨range, sound, fun kind hk => notDue kind ?_⟩
  rcases hk with old | rfl
  · exact .inl (.inl (.inl old))
  · cases kind with
    | arrival => exact .inl (.inl (.inr ⟨rfl, rfl⟩))
    | dwell => exact .inl (.inr ⟨rfl, rfl⟩)
    | blindClear => exact .inr ⟨rfl, rfl⟩

theorem State.TimelyLaw.expireAll {s : State} {taken : Slot → ArmedKind → Prop} (h : s.TimelyLaw taken)
    (l : List Slot) : (l.foldl State.expire s).TimelyLaw fun x kind => taken x kind ∨ x ∈ l := by
  induction l generalizing s taken with
  | nil => simpa using h
  | cons p rest ih => simpa [or_assoc] using ih (h.expire p)

/-- A sound deadline that is not due is sound a tick later (R78, R80). -/
theorem Deadline.Timely.sound_next {d : Deadline} {now : Time} (h : d.Timely now fun _ => True) :
    d.Sound (now + 1) := by
  intro r hr
  obtain ⟨hw, hw', hclock⟩ := h.1 r hr
  refine ⟨hw, hw', ?_⟩
  have notDue := h.2 r.kind trivial
  cases hc : r.clock with
  | frozen remainder => simpa [hc] using hclock
  | armed deadline =>
    simp only [hc] at hclock ⊢
    obtain ⟨hle, hcauses⟩ := hclock
    have hne : deadline ≠ now := by simpa [Deadline.dueAs, hr, hc] using notDue
    exact ⟨by bv_omega, hcauses⟩

/-- Floor time passes no deadline by when every expiry has been taken (R78, log entry 8). -/
theorem State.TimelyLaw.increment {s : State} {taken : Slot → ArmedKind → Prop} (h : s.TimelyLaw taken)
    (all : ∀ p kind, taken p kind) : s.increment.TimerLaw := by
  refine (State.timelyLaw_nothing_iff _).1 ⟨h.1, fun p q hq => ?_⟩
  obtain ⟨range, sound, notDue⟩ := h.2 p q hq
  exact ⟨range, Deadline.Timely.sound_next ⟨sound, fun kind _ => notDue kind (all p kind)⟩, fun _ => False.elim⟩

theorem State.TransmitLaw.increment {s : State} (h : s.TransmitLaw) : s.increment.TransmitLaw :=
  h.congr (fun _ => rfl) rfl rfl rfl rfl rfl rfl

/-! #### Steps -/

/-- The two laws of O9 and O12 pass from `s` to `t`. -/
def KeepsLaws (s t : State) : Prop := (s.TransmitLaw → t.TransmitLaw) ∧ (s.TimerLaw → t.TimerLaw)

theorem Upholds.keepsLaws {s t : State} (h : Upholds s t) : KeepsLaws s t :=
  ⟨h.1, fun i => (h.2 _ (s.timelyLaw_nothing_iff.2 i)).timerLaw⟩

/-- A tick takes every expiry before floor time goes on (R78). -/
theorem State.tick_keepsLaws (s : State) {l : List Slot} (hl : ∀ p, p ∈ l) :
    KeepsLaws s (l.foldl State.expire s).increment :=
  ⟨fun h => ((upholds_foldl State.expire_upholds l s).1 h).increment,
    fun h => ((s.timelyLaw_nothing_iff.2 h).expireAll l).increment fun p _ => .inr (hl p)⟩

theorem State.afterReset_transmitLaw (straps : BitVec 4) (l : List Instr) :
    { State.afterReset straps with pending := l }.TransmitLaw := by
  simp [State.TransmitLaw, State.afterReset]

theorem State.afterReset_timerLaw (straps : BitVec 4) (l : List Instr) :
    { State.afterReset straps with pending := l }.TimerLaw :=
  ⟨WorkingMap.reset_inRange, fun p q hq => by simp [State.passage, State.afterReset] at hq⟩

theorem State.applyReset_upholds (s : State) : Upholds s s.applyReset :=
  .of_line rfl rfl rfl rfl (.inr rfl) rfl rfl rfl

theorem State.crystalCycle_upholds (s : State) : Upholds s s.crystalCycle := by
  unfold State.crystalCycle
  split
  · exact .rfl
  · exact .of_same rfl rfl rfl rfl rfl
  · exact .of_line rfl rfl rfl rfl (.inl rfl) rfl rfl rfl

/-! #### Events of the line and of the pins -/

theorem execNoticeFrameStart_upholds {s t : State} (h : execNoticeFrameStart s = .next t) : Upholds s t := by
  refine whenRunning_upholds (fun u => ?_) h
  split
  · exact .rfl
  · rename_i f hf
    split
    · exact u.startNotice_upholds hf
    · exact .rfl

theorem execNoticeSentClean_upholds {s t : State} (h : execNoticeSentClean s = .next t) : Upholds s t := by
  refine whenRunning_upholds (fun u => ?_) h
  split
  · rename_i hf
    exact u.retireNotice_upholds hf _ _
  · exact .rfl

theorem execArbitrationLost_upholds {loss : Loss} {s t : State}
    (h : execArbitrationLost loss s = .next t) : Upholds s t := by
  refine whenRunning_upholds (fun u => ?_) h
  split
  · exact .rfl
  · exact .of_line rfl rfl rfl rfl (.inr rfl) rfl rfl rfl
  · split
    · exact .of_line rfl rfl rfl rfl (.inr rfl) rfl rfl rfl
    · exact .rfl

theorem execFrameError_upholds {raw : RawFrame} {s t : State} (h : execFrameError raw s = .next t) : Upholds s t := by
  refine whenRunning_upholds (fun u => ?_) h
  split
  · exact .rfl
  · split
    · exact .of_line rfl rfl rfl rfl (.inl rfl) rfl rfl rfl
    · exact .of_line rfl rfl rfl rfl (.inl rfl) rfl rfl rfl
    · exact .rfl

theorem execTailBitError_upholds {s t : State} (h : execTailBitError s = .next t) : Upholds s t := by
  refine whenRunning_upholds (fun u => ?_) h
  split
  · exact .rfl
  · split
    · exact .of_line rfl rfl rfl rfl (.inl rfl) rfl rfl rfl
    · exact .rfl

theorem execNoiseRun_upholds {cycles : Nat} {s t : State} (h : execNoiseRun cycles s = .next t) : Upholds s t := by
  refine whenRunning_upholds (fun u => ?_) h
  split
  · exact u.recordError_upholds _
  · exact .rfl

theorem execLineIdle_upholds {s t : State} (h : execLineIdle s = .next t) : Upholds s t := by
  refine whenRunning_upholds (fun u => ?_) h
  split
  · exact .of_line rfl rfl rfl rfl (.inr rfl) rfl rfl rfl
  · exact .rfl

theorem execLineBusy_upholds {s t : State} (h : execLineBusy s = .next t) : Upholds s t := by
  refine whenRunning_upholds (fun u => ?_) h
  split
  · exact .of_line rfl rfl rfl rfl (.inl rfl) rfl rfl rfl
  · exact .rfl

theorem execHaltPulseStart_upholds {s t : State} (h : execHaltPulseStart s = .next t) : Upholds s t := by
  refine whenRunning_upholds (fun u => ?_) h
  split
  · refine Upholds.trans ?_ (State.joinCause_upholds _ _)
    exact .of_line rfl rfl rfl rfl (.inr rfl) rfl rfl rfl
  · exact .rfl

theorem execHaltPulseEnd_upholds {s t : State} (h : execHaltPulseEnd s = .next t) : Upholds s t := by
  refine whenRunning_upholds (fun u => ?_) h
  split
  · exact (u.setLine_upholds _).trans (State.leaveCause_upholds _ _)
  · exact .rfl

theorem execLineStuck_upholds {s t : State} (h : execLineStuck s = .next t) : Upholds s t := by
  refine whenRunning_upholds (fun u => ?_) h
  split
  · exact ((u.setLine_upholds _).trans (State.recordError_upholds _ _)).trans (State.joinCause_upholds _ _)
  · exact .rfl

theorem execLineStuckRecovery_upholds {s t : State} (h : execLineStuckRecovery s = .next t) : Upholds s t := by
  refine whenRunning_upholds (fun u => ?_) h
  split
  · exact (u.setLine_upholds _).trans (State.leaveCause_upholds _ _)
  · exact .rfl

theorem execHaltPulseRelease_upholds {s t : State} (h : execHaltPulseRelease s = .next t) : Upholds s t := by
  refine whenRunning_upholds (fun u => ?_) h
  exact .of_line rfl rfl rfl rfl (.inl rfl) rfl rfl rfl

theorem execReadbackChange_upholds {approach : ApproachId} {s t : State}
    (h : execReadbackChange approach s = .next t) : Upholds s t := by
  refine whenRunning_upholds (fun u => ?_) h
  split
  · exact u.judgeReadback_upholds _
  · exact .rfl

theorem execEmergencyAsserted_upholds {s t : State} (h : execEmergencyAsserted s = .next t) : Upholds s t := by
  refine whenRunning_upholds (fun u => ?_) h
  split
  · exact (u.setControl_upholds _).trans (State.emergencyStop_upholds _)
  · exact .rfl

theorem execEmergencyClear_upholds {s t : State} (h : execEmergencyClear s = .next t) : Upholds s t := by
  refine whenRunning_upholds (fun u => ?_) h
  split
  · exact (u.setControl_upholds _).trans (State.leaveCause_upholds _ _)
  · exact .rfl

theorem execSettleCountRise_upholds {s t : State} (h : execSettleCountRise s = .next t) : Upholds s t := by
  refine whenRunning_upholds (fun u => ?_) h
  split
  · exact (u.setControl_upholds _).trans (State.riseSettleCount_upholds _)
  · exact .rfl

/-- Every command keeps both laws. -/
theorem exec_keepsLaws {c : Instr} {s t : State} (h : exec c s = .next t) : KeepsLaws s t := by
  cases c
  all_goals simp only [exec, execIdentify, execLinePattern, execQueryJunctionPart1, execQueryJunctionPart2,
    execQueryPassage, execQueryCell, execQueryLine, execRequestPassage, execWithdraw, execLockCells, execUnlockCells,
    execSetSensor, execForceRelease, execDrain, execResume, execRestart, execOpenService, execLoadOptions, execLoadCell,
    execLoadApproach, execLoadRoute, execLoadRouteCells, execLoadMaster, execCommitMap, execScan,
    execOccupancyChange, execTick, execArrivalExpiry, execDwellExpiry, execBlindClearExpiry, execHardwareReset,
    execOscillatorReady, execResetRelease] at h
  case tick =>
    rcases whenRunning_eq h with rfl | ⟨-, rfl⟩
    · exact Upholds.rfl.keepsLaws
    · exact s.tick_keepsLaws List.mem_finRange
  case oscillatorReady straps =>
    rw [Host.Outcome.next.injEq] at h
    split at h
    · subst h
      exact ⟨fun _ => State.afterReset_transmitLaw straps _, fun _ => State.afterReset_timerLaw straps _⟩
    · subst h
      exact Upholds.rfl.keepsLaws
  case identify | linePattern | queryPassage | queryCell =>
    exact (onFrame_upholds (fun u => .rfl) h).keepsLaws
  case queryJunctionPart1 => exact (onFrame_upholds (fun u => u.junctionPart_upholds _ _) h).keepsLaws
  case queryJunctionPart2 => exact (onFrame_upholds (fun u => u.junctionPart2_upholds _) h).keepsLaws
  case queryLine =>
    exact (onFrame_upholds (fun u => .of_line rfl rfl rfl rfl (.inl rfl) rfl rfl rfl) h).keepsLaws
  case requestPassage =>
    refine (onFrame_upholds (fun u => ?_) h).keepsLaws
    split
    · exact .rfl
    · exact u.request_upholds _ _ _ _ _ _
  case withdraw => exact (onFrame_upholds (fun u => u.withdraw_upholds _ _ _) h).keepsLaws
  case forceRelease => exact (onFrame_upholds (fun u => u.forceRelease_upholds _ _) h).keepsLaws
  case lockCells => exact (onFrame_upholds (fun u => u.lockCells_upholds _) h).keepsLaws
  case unlockCells => exact (onFrame_upholds (fun u => u.unlockCells_upholds _) h).keepsLaws
  case setSensor => exact (onFrame_upholds (fun u => u.setSensorMode_upholds _ _) h).keepsLaws
  case drain => exact (onFrame_upholds State.drain_upholds h).keepsLaws
  case resume => exact (onFrame_upholds State.resume_upholds h).keepsLaws
  case restart => exact (onFrame_upholds State.restart_upholds h).keepsLaws
  case openService => exact (onFrame_upholds (fun u => u.openService_upholds _) h).keepsLaws
  case loadOptions =>
    exact (onServiceFrame_upholds (fun u => u.load_upholds fun i _ hm => i.withOptions hm) h).keepsLaws
  case loadCell => exact (onServiceFrame_upholds (fun u => u.load_upholds fun i _ hm => i.withCell hm) h).keepsLaws
  case loadApproach =>
    exact (onServiceFrame_upholds (fun u => u.load_upholds fun i _ hm => i.withApproach hm) h).keepsLaws
  case loadRoute => exact (onServiceFrame_upholds (fun u => u.load_upholds fun i _ hm => i.withRoute hm) h).keepsLaws
  case loadRouteCells =>
    exact (onServiceFrame_upholds (fun u => u.load_upholds fun i _ hm => i.withRouteCells hm) h).keepsLaws
  case loadMaster => exact (onServiceFrame_upholds (fun u => u.load_upholds fun i _ hm => i.withMaster hm) h).keepsLaws
  case commitMap => exact (onServiceFrame_upholds State.commitMap_upholds h).keepsLaws
  case noticeFrameStart => exact (execNoticeFrameStart_upholds h).keepsLaws
  case noticeSentClean => exact (execNoticeSentClean_upholds h).keepsLaws
  case noticeBitError => exact (execNoticeBitError_upholds h).keepsLaws
  case arbitrationLost => exact (execArbitrationLost_upholds h).keepsLaws
  case frameError => exact (execFrameError_upholds h).keepsLaws
  case tailBitError => exact (execTailBitError_upholds h).keepsLaws
  case noiseRun => exact (execNoiseRun_upholds h).keepsLaws
  case lineIdle => exact (execLineIdle_upholds h).keepsLaws
  case lineBusy => exact (execLineBusy_upholds h).keepsLaws
  case haltPulseStart => exact (execHaltPulseStart_upholds h).keepsLaws
  case haltPulseEnd => exact (execHaltPulseEnd_upholds h).keepsLaws
  case lineStuck => exact (execLineStuck_upholds h).keepsLaws
  case lineStuckRecovery => exact (execLineStuckRecovery_upholds h).keepsLaws
  case haltPulseRelease => exact (execHaltPulseRelease_upholds h).keepsLaws
  case scan => exact (whenRunning_upholds (fun u => u.scan_upholds _ _ _) h).keepsLaws
  case occupancyChange => exact (whenRunning_upholds (fun u => u.occupancyChange_upholds _) h).keepsLaws
  case readbackChange => exact (execReadbackChange_upholds h).keepsLaws
  case emergencyAsserted => exact (execEmergencyAsserted_upholds h).keepsLaws
  case emergencyClear => exact (execEmergencyClear_upholds h).keepsLaws
  case settleCountRise => exact (execSettleCountRise_upholds h).keepsLaws
  case arrivalExpiry => exact (whenRunning_upholds (fun u => u.arrivalExpiry_upholds _) h).keepsLaws
  case dwellExpiry => exact (whenRunning_upholds (fun u => u.dwellExpiry_upholds _) h).keepsLaws
  case blindClearExpiry => exact (whenRunning_upholds (fun u => u.blindClearExpiry_upholds _) h).keepsLaws
  case hardwareReset =>
    rw [Host.Outcome.next.injEq] at h
    subst h
    split
    · exact s.applyReset_upholds.keepsLaws
    · exact Upholds.rfl.keepsLaws
  case resetRelease =>
    rw [Host.Outcome.next.injEq] at h
    subst h
    split
    · refine Upholds.keepsLaws ?_
      exact .of_same rfl rfl rfl rfl rfl
    · exact Upholds.rfl.keepsLaws

/-- Every step keeps both laws. -/
theorem step_keepsLaws {s t : State} (h : step s = .next t) : KeepsLaws s t := by
  unfold step at h
  split at h
  · cases h
    exact s.crystalCycle_upholds.keepsLaws
  · have popped := exec_keepsLaws h
    exact ⟨fun i => popped.1 (i.congr (fun _ => rfl) rfl rfl rfl rfl rfl rfl), fun i => popped.2 i⟩

/-- Settles O9: every command works on the transmit side by postings, by the outcome of an attempt or by the clearing of
a commit, and each of these leaves the places filled with heads. -/
theorem transmitLawKept : Obligations.TransmitLawKept :=
  fun _ _ law h => (step_keepsLaws h).1 law

/-- Settles O12: every deadline is written by an arming with a window of R84, a freezing or a restoring, and a tick comes
when no expiry is left to be taken. -/
theorem timerLawKept : Obligations.TimerLawKept :=
  fun _ _ law h => (step_keepsLaws h).2 law

end Sys2Proof.Machine

namespace Sys2Proof.Machine

/-! ### The LOAD_* frames -/

/-- The kinds that the Map Store owns, taken in SERVICE alone (R7, R129). -/
def Kind.mapStore : List Kind :=
  [.loadOptions, .loadCell, .loadApproach, .loadRoute, .loadRouteCells, .loadMaster, .commitMap]

/-- In SERVICE the Decoder hands the frames of the Map Store to their owner, whatever their source (R129, R143). -/
theorem State.judge_mapStore {s : State} {k : Kind} (src : Node) (hm : s.control.mode = .service)
    (hk : k ∈ Kind.mapStore) : s.judge k src = .take := by
  have taken : Kind.takenIn k .service s.control.prior = true := by
    simp only [Kind.mapStore, List.mem_cons, List.not_mem_nil, or_false] at hk
    rcases hk with rfl | rfl | rfl | rfl | rfl | rfl | rfl <;> rfl
  simp [State.judge, hm, Mode.operating, taken]

/-- Reading a frame and answering it leaves everything but the line and the tail. -/
theorem State.sameButTail_answer (s : State) (f : Frame) (v : Verdict) :
    SameButTail s ((s.readFrame f).giveTail v) ∧ ((s.readFrame f).giveTail v).Answers v := ⟨rfl, rfl⟩

/-- The command is a LOAD_* frame from this node, which stores the map that `map` makes of the working map. -/
def Loads (c : Instr) (src : Node) (map : WorkingMap → Except Verdict WorkingMap) : Prop :=
  (∀ s, exec c s = onServiceFrame c src s fun s => s.load (map s.map.working)) ∧
    ∃ f, frameOf c = some f ∧ f.kind ∈ Kind.mapStore

/-- From the service node in SERVICE, a LOAD_* frame in range is stored whole and answered DONE (R8). -/
theorem Loads.stores {c : Instr} {src : Node} {map : WorkingMap → Except Verdict WorkingMap} (hc : Loads c src map)
    {s : State} (hm : s.control.mode = .service) (hs : s.decoder.service = some src) {new : WorkingMap}
    (h : map s.map.working = .ok new) (heard : s.Hears c) :
    ∃ t, exec c s = .next t ∧ t.Answers (.done .load) ∧
      SameButTail { s with map := { s.map with working := new } } t := by
  obtain ⟨exec_eq, f, hf, hk⟩ := hc
  obtain ⟨g, hg, hears⟩ := heard
  cases hf.symm.trans hg
  refine ⟨((s.setWorking new).readFrame f).giveTail (.done .load), ?_, (State.sameButTail_answer _ f _).2,
    (State.sameButTail_answer _ f _).1⟩
  rw [exec_eq, onServiceFrame_take hf hears (State.judge_mapStore _ hm hk) hs]
  simp only [State.load, State.readFrame_map, h]
  rfl

/-- A LOAD_* frame out of range is refused and stores nothing (R8). -/
theorem Loads.refuses {c : Instr} {src : Node} {map : WorkingMap → Except Verdict WorkingMap} (hc : Loads c src map)
    {s : State} (hm : s.control.mode = .service) (hs : s.decoder.service = some src) {v : Verdict}
    (h : map s.map.working = .error v) (heard : s.Hears c) :
    ∃ t, exec c s = .next t ∧ t.Answers v ∧ SameButTail s t := by
  obtain ⟨exec_eq, f, hf, hk⟩ := hc
  obtain ⟨g, hg, hears⟩ := heard
  cases hf.symm.trans hg
  refine ⟨(s.readFrame f).giveTail v, ?_, (s.sameButTail_answer f v).2, (s.sameButTail_answer f v).1⟩
  rw [exec_eq, onServiceFrame_take hf hears (State.judge_mapStore _ hm hk) hs]
  simp only [State.load, State.readFrame_map, h]

theorem loads_loadOptions (hd : FrameHead) (tick divider depth dwell skip : Byte) (tag : BitVec 16) :
    Loads (.loadOptions hd tick divider depth dwell skip tag) hd.src
      fun m => m.withOptions tick divider depth dwell skip tag :=
  ⟨fun _ => rfl, _, rfl, by simp [Kind.mapStore]⟩

theorem loads_loadCell (hd : FrameHead) (cell inUse : Byte) (length : BitVec 16) (sensor : Byte) :
    Loads (.loadCell hd cell inUse length sensor) hd.src fun m => m.withCell cell inUse length sensor :=
  ⟨fun _ => rfl, _, rfl, by simp [Kind.mapStore]⟩

theorem loads_loadApproach (hd : FrameHead) (approach inUse : Byte) (distance : BitVec 16) (limit : Byte) :
    Loads (.loadApproach hd approach inUse distance limit) hd.src
      fun m => m.withApproach approach inUse distance limit :=
  ⟨fun _ => rfl, _, rfl, by simp [Kind.mapStore]⟩

theorem loads_loadRoute (hd : FrameHead) (route inUse approach speed count : Byte) :
    Loads (.loadRoute hd route inUse approach speed count) hd.src
      fun m => m.withRoute route inUse approach speed count :=
  ⟨fun _ => rfl, _, rfl, by simp [Kind.mapStore]⟩

theorem loads_loadRouteCells (hd : FrameHead) (route span e0 e1 e2 e3 e4 e5 : Byte) :
    Loads (.loadRouteCells hd route span e0 e1 e2 e3 e4 e5) hd.src
      fun m => m.withRouteCells route span [e0, e1, e2, e3, e4, e5] :=
  ⟨fun _ => rfl, _, rfl, by simp [Kind.mapStore]⟩

theorem loads_loadMaster (hd : FrameHead) (slot inUse node role option : Byte) :
    Loads (.loadMaster hd slot inUse node role option) hd.src fun m => m.withMaster slot inUse node role option :=
  ⟨fun _ => rfl, _, rfl, by simp [Kind.mapStore]⟩

/-! #### Fields in range -/

theorem indexOf_val {n v : Nat} {i : Fin n} (h : v = i.val) : indexOf n v = some i := by
  subst h
  simp [indexOf]

theorem cellOf_val {b : Byte} {c : CellId} (h : b.toNat = c.val) : cellOf b = some c := indexOf_val h

theorem inRange_of {low high w : Nat} {b : BitVec w} (hl : low ≤ b.toNat) (hh : b.toNat ≤ high) :
    inRange low high b = some b.toNat := by
  simp [inRange, hl, hh]

theorem flagOf_flag (b : Bool) : flagOf (if b then 1 else 0) = some b := by cases b <;> rfl

theorem sensorModeOf_code (m : SensorMode) : sensorModeOf m.code = some m := by cases m <;> rfl

theorem roleOf_code (r : Role) : roleOf r.code = some r := by cases r <;> rfl

theorem noticeOptionOf_code (o : NoticeOption) : noticeOptionOf o.code = some o := by cases o <;> rfl

/-- Settles O55: with every field in range each of the four loads reads to its end and writes the one entry. -/
theorem loadReplacesOneEntry : Obligations.LoadReplacesOneEntry := by
  intro hd s hm hs
  refine ⟨fun tick divider depth dwell skip tag ht hi hd1 hd2 hw1 hw2 hk => ?_,
    fun c cell used length mode hc hl1 hl2 => ?_, fun a approach used distance limit ha h1 h2 h3 h4 => ?_,
    fun k slot used n node role option hk hn => ?_⟩
  · refine (loads_loadOptions ..).stores hm hs ?_
    simp only [WorkingMap.withOptions, tickOf_eq_some.2 ⟨ht, rfl⟩, inRange_of (Nat.zero_le _) hi, inRange_of hd1 hd2,
      inRange_of hw1 hw2, inRange_of (Nat.zero_le _) hk, field_some_bind]
    rfl
  · refine (loads_loadCell ..).stores hm hs ?_
    simp only [WorkingMap.withCell, cellOf_val hc, flagOf_flag, inRange_of hl1 hl2, sensorModeOf_code, field_some_bind]
    rfl
  · refine (loads_loadApproach ..).stores hm hs ?_
    simp only [WorkingMap.withApproach, indexOf_val ha, flagOf_flag, inRange_of h1 h2, inRange_of h3 h4,
      field_some_bind]
    rfl
  · refine (loads_loadMaster ..).stores hm hs ?_
    simp only [WorkingMap.withMaster, indexOf_val hk, flagOf_flag, indexOf_val hn, roleOf_code, noticeOptionOf_code,
      field_some_bind]
    rfl

/-! #### The first field out of range -/

/-- A load names the first field out of range: `ranges` says of its fields, the first of them field `number`, whether
they are in range (R8). -/
def NamesFirstBad {α : Type} (load : Except Verdict α) (number : Nat) (ranges : List Bool) : Prop :=
  ∀ i, ranges[i]? = some false → (∀ j, j < i → ranges[j]? = some true) → load = .error (badField (number + i))

theorem namesFirstBad_nil {α : Type} (load : Except Verdict α) (number : Nat) : NamesFirstBad load number [] :=
  fun i h => by simp at h

/-- A load that begins with a field names it, or the first bad field of the rest. -/
theorem NamesFirstBad.field {α β : Type} {number : Nat} {v : Option α} {f : α → Except Verdict β} {b : Bool}
    {ranges : List Bool} (hb : v.isSome = b) (rest : ∀ x, NamesFirstBad (f x) (number + 1) ranges) :
    NamesFirstBad (field number v >>= f) number (b :: ranges) := by
  intro i hi before
  subst hb
  cases i with
  | zero =>
    cases v with
    | none => rfl
    | some x => simp at hi
  | succ i =>
    have first := before 0 (Nat.succ_pos i)
    cases v with
    | none => simp at first
    | some x =>
      rw [field_some_bind, rest x i (by simpa using hi) fun j hj => by simpa using before (j + 1) (by omega)]
      congr 2
      omega

theorem tickOf_isSome (b : Byte) : (tickOf b).isSome = decide (b.toNat ∈ [5, 10, 20, 40]) := by
  by_cases h : b.toNat ∈ [5, 10, 20, 40] <;> simp only [tickOf, h] <;> rfl

theorem inRange_isSome (low high : Nat) {w : Nat} (b : BitVec w) :
    (inRange low high b).isSome = decide (low ≤ b.toNat ∧ b.toNat ≤ high) := by
  by_cases h : low ≤ b.toNat ∧ b.toNat ≤ high <;> simp [inRange, h]

theorem indexOf_isSome (n v : Nat) : (indexOf (n + 1) v).isSome = decide (0 ≤ v ∧ v ≤ n) := by
  by_cases h : v ≤ n
  · simp [indexOf, h, Nat.lt_succ_of_le h]
  · simp [indexOf, h]

/-- A byte whose two values name two things is readable when it is 0 or 1 (R152, R157). -/
theorem pair_isSome {α : Type} (b : Byte) (x y : α) :
    (if b = 0 then some x else if b = 1 then some y else none).isSome = decide (0 ≤ b.toNat ∧ b.toNat ≤ 1) := by
  by_cases h0 : b = 0
  · simp [h0]
  · by_cases h1 : b = 1
    · simp [h1]
    · have : ¬ b.toNat ≤ 1 := by bv_omega
      rw [if_neg h0, if_neg h1]
      simp [this]

/-- A LOAD_* frame whose fields have these ranges is refused with the first field out of range. -/
theorem Loads.refusesFirstBad {c : Instr} {src : Node} {map : WorkingMap → Except Verdict WorkingMap}
    (hc : Loads c src map) {s : State} (hm : s.control.mode = .service) (hs : s.decoder.service = some src)
    {ranges : List Bool} (names : NamesFirstBad (map s.map.working) 1 ranges) (heard : s.Hears c) (i : Nat)
    (hi : ranges[i]? = some false) (before : ∀ j, j < i → ranges[j]? = some true) :
    ∃ t, exec c s = .next t ∧ t.Answers (.badValue (i + 1) none) ∧ SameButTail s t :=
  hc.refuses hm hs ((names i hi before).trans (by rw [Nat.add_comm]; rfl)) heard

/-- Settles O57: the fields are read in the payload's order, and the first that is out of range ends the load. -/
theorem loadNamesFirstBadField : Obligations.LoadNamesFirstBadField := by
  intro hd b1 b2 b3 b4 b5 tag s hm hs
  refine ⟨(loads_loadOptions ..).refusesFirstBad hm hs ?_, (loads_loadCell ..).refusesFirstBad hm hs ?_,
    (loads_loadApproach ..).refusesFirstBad hm hs ?_, (loads_loadRoute ..).refusesFirstBad hm hs ?_,
    (loads_loadMaster ..).refusesFirstBad hm hs ?_⟩
  · exact .field (tickOf_isSome b1) fun _ => .field (inRange_isSome 0 15 b2) fun _ =>
      .field (inRange_isSome 1 8 b3) fun _ => .field (inRange_isSome 8 32 b4) fun _ =>
        .field (inRange_isSome 0 15 b5) fun _ => namesFirstBad_nil _ _
  · exact .field (indexOf_isSome 31 b1.toNat) fun _ => .field (pair_isSome b2 false true) fun _ =>
      .field (inRange_isSome 50 1000 tag) fun _ => .field (pair_isSome b3 _ _) fun _ => namesFirstBad_nil _ _
  · exact .field (indexOf_isSome 7 b1.toNat) fun _ => .field (pair_isSome b2 false true) fun _ =>
      .field (inRange_isSome 50 2000 tag) fun _ => .field (inRange_isSome 1 6 b3) fun _ => namesFirstBad_nil _ _
  · exact .field (indexOf_isSome 47 b1.toNat) fun _ => .field (pair_isSome b2 false true) fun _ =>
      .field (indexOf_isSome 7 b3.toNat) fun _ => .field (inRange_isSome 10 250 b4) fun _ =>
        .field (inRange_isSome 0 15 b5) fun _ => namesFirstBad_nil _ _
  · exact .field (indexOf_isSome 5 b1.toNat) fun _ => .field (pair_isSome b2 false true) fun _ =>
      .field (indexOf_isSome 15 b3.toNat) fun _ => .field (pair_isSome b4 _ _) fun _ =>
        .field (pair_isSome b5 _ _) fun _ => namesFirstBad_nil _ _

/-! #### LOAD_ROUTE_CELLS -/

theorem listEntryOf_eq_none {b : Byte} : listEntryOf b = none ↔ 31 < b.toNat ∧ b ≠ 0xFF := by
  by_cases h : b = 0xFF
  · simp [listEntryOf, h]
  · rw [listEntryOf, if_neg h, Option.map_eq_none_iff, cellOf, indexOf]
    simp only [dite_eq_right_iff, reduceCtorEq, imp_false]
    exact ⟨fun hc => ⟨by omega, h⟩, fun hc => by omega⟩

theorem listEntryOf_ne_none {b : Byte} (h : b.toNat ≤ 31 ∨ b = 0xFF) : listEntryOf b ≠ none := by
  rw [Ne, listEntryOf_eq_none]
  rintro ⟨large, notNone⟩
  rcases h with small | rfl
  · omega
  · exact notNone rfl

theorem listEntryOf_cell {b : Byte} {c : CellId} (h : b.toNat = c.val) : listEntryOf b = some (some c) := by
  have hne : b ≠ 0xFF := by rintro rfl; have := c.isLt; simp at h; omega
  rw [listEntryOf, if_neg hne, cellOf_val h]
  rfl

/-- The entries are read up to the first that is out of range, which is named (R10). -/
theorem readEntries_firstBad (l : List Byte) (number i : Nat) {b : Byte} (hb : l[i]? = some b)
    (bad : listEntryOf b = none) (before : ∀ j d, j < i → l[j]? = some d → listEntryOf d ≠ none) :
    readEntries number l = .error (badField (number + i)) := by
  induction l generalizing number i with
  | nil => simp at hb
  | cons x rest ih =>
    cases i with
    | zero =>
      cases hb
      rw [readEntries, bad]
      rfl
    | succ i =>
      obtain ⟨entry, hx⟩ := Option.ne_none_iff_exists'.1 (before 0 x (Nat.succ_pos i) rfl)
      rw [readEntries, hx, field_some_bind,
        ih (number + 1) i hb fun j d hj hd => before (j + 1) d (by omega) hd, Nat.add_right_comm, Nat.add_assoc]
      rfl

/-- With every entry in range, the entries are read in order (R10). -/
theorem readEntries_ok (l : List Byte) (number : Nat) (good : ∀ b ∈ l, listEntryOf b ≠ none) :
    readEntries number l = .ok (l.filterMap listEntryOf) := by
  induction l generalizing number with
  | nil => rfl
  | cons x rest ih =>
    obtain ⟨entry, hx⟩ := Option.ne_none_iff_exists'.1 (good x (List.mem_cons_self ..))
    rw [readEntries, hx, field_some_bind, ih _ fun b hb => good b (List.mem_cons_of_mem _ hb),
      List.filterMap_cons_some hx]
    rfl

/-- What a cell list holds after entries have been written from a position on (R10). -/
theorem writeEntries_at (list : Vector (Option CellId) 8) (offset : Nat) (entries : List (Option CellId)) (i : Fin 8) :
    (writeEntries list offset entries)[i] =
      if offset ≤ i.val then (entries[i.val - offset]?).getD list[i] else list[i] := by
  simp [writeEntries]

/-- The position of a byte among readable ones is that of its entry. -/
theorem getElem?_filterMap_listEntryOf {l : List Byte} (good : ∀ b ∈ l, listEntryOf b ≠ none) (i : Nat) :
    (l.filterMap listEntryOf)[i]? = l[i]?.bind listEntryOf := by
  induction l generalizing i with
  | nil => simp
  | cons x rest ih =>
    obtain ⟨entry, hx⟩ := Option.ne_none_iff_exists'.1 (good x (List.mem_cons_self ..))
    rw [List.filterMap_cons_some hx]
    cases i with
    | zero => simp [hx]
    | succ i => simpa using ih (fun b hb => good b (List.mem_cons_of_mem _ hb)) i

/-- The map that LOAD_ROUTE_CELLS makes once offset and count are in range (R10). -/
theorem WorkingMap.withRouteCells_inRange {m : WorkingMap} {r : RouteId} {route span : Byte} {bytes : List Byte}
    (hr : route.toNat = r.val) (ho : (span.extractLsb' 4 4).toNat ≤ 7) (hc1 : 1 ≤ (span.extractLsb' 0 4).toNat)
    (hc6 : (span.extractLsb' 0 4).toNat ≤ 6) (h8 : (span.extractLsb' 4 4).toNat + (span.extractLsb' 0 4).toNat ≤ 8) :
    m.withRouteCells route span bytes = (do
      let entries ← readEntries 4 (bytes.take (span.extractLsb' 0 4).toNat)
      let list := writeEntries m.routes[r].list (span.extractLsb' 4 4).toNat entries
      return { m with routes := m.routes.set r { m.routes[r] with list := list } }) := by
  simp only [WorkingMap.withRouteCells, indexOf_val hr, inRange_of (Nat.zero_le _) ho, inRange_of hc1 hc6, if_pos h8,
    field_some_bind]

/-- Settles O56: offset and count are judged before the entries, the entries in order, and nothing is written before
they have all been read. -/
theorem loadRoutes : Obligations.LoadRoutes := by
  intro hd r route s hm hs hr
  refine ⟨fun used a approach speed count ha h1 h2 h3 => ?_, fun span e0 e1 e2 e3 e4 e5 => ?_⟩
  · refine (loads_loadRoute ..).stores hm hs ?_
    simp only [WorkingMap.withRoute, indexOf_val hr, flagOf_flag, indexOf_val ha, inRange_of h1 h2,
      inRange_of (Nat.zero_le _) h3, field_some_bind]
    rfl
  · intro entries offset count c
    have loads := loads_loadRouteCells hd route span e0 e1 e2 e3 e4 e5
    refine ⟨fun bad hbad => (loads_loadRouteCells hd bad ..).refuses hm hs ?_, fun ho => loads.refuses hm hs ?_,
      fun ho hc => loads.refuses hm hs ?_, fun ho hc1 hc6 h8 => ⟨fun i b hi hb hlarge hne before =>
        loads.refuses hm hs ?_, fun good => ?_⟩⟩
    · have : indexOf 48 bad.toNat = none := by simp [indexOf]; omega
      simp only [WorkingMap.withRouteCells, this]
      rfl
    · have : inRange 0 7 (span.extractLsb' 4 4) = none := by rw [inRange, if_neg (by omega)]
      simp only [WorkingMap.withRouteCells, indexOf_val hr, this, field_some_bind]
      rfl
    · simp only [WorkingMap.withRouteCells, indexOf_val hr, inRange_of (Nat.zero_le _) ho, field_some_bind]
      by_cases hcount : 1 ≤ count ∧ count ≤ 6
      · have : ¬ (span.extractLsb' 4 4).toNat + (span.extractLsb' 0 4).toNat ≤ 8 := by omega
        simp only [inRange_of hcount.1 hcount.2, if_neg this, field_some_bind]
        rfl
      · have : inRange 1 6 (span.extractLsb' 0 4) = none := by rw [inRange, if_neg hcount]
        rw [this]
        rfl
    · have taken : (entries.take count)[i]? = some b := by rw [List.getElem?_take_of_lt hi]; exact hb
      rw [WorkingMap.withRouteCells_inRange hr ho hc1 hc6 h8, readEntries_firstBad _ 4 i taken
        (listEntryOf_eq_none.2 ⟨hlarge, hne⟩) fun j d hj hd => listEntryOf_ne_none (before j d hj ?_)]
      · rfl
      · rwa [List.getElem?_take_of_lt (by omega)] at hd
    · have readable : ∀ b ∈ entries.take count, listEntryOf b ≠ none := by
        intro b hb
        obtain ⟨i, hi⟩ := List.mem_iff_getElem?.1 hb
        have lt : i < count := by
          by_contra hge
          rw [List.getElem?_take_eq_none (by omega)] at hi
          cases hi
        rw [List.getElem?_take_of_lt lt] at hi
        exact listEntryOf_ne_none (good i b lt hi)
      refine ⟨writeEntries s.map.working.routes[r].list offset ((entries.take count).filterMap listEntryOf),
        loads.stores hm hs ?_, fun i => ⟨fun outside => ?_, fun b hlo hhi hb => ?_⟩⟩
      · rw [WorkingMap.withRouteCells_inRange hr ho hc1 hc6 h8, readEntries_ok _ 4 readable]
        rfl
      · rw [writeEntries_at, getElem?_filterMap_listEntryOf readable]
        split
        · rw [List.getElem?_take_eq_none (by omega)]
          rfl
        · rfl
      · have entry : (writeEntries s.map.working.routes[r].list offset
            ((entries.take count).filterMap listEntryOf))[i] = (listEntryOf b).getD s.map.working.routes[r].list[i] := by
          rw [writeEntries_at, if_pos hlo, getElem?_filterMap_listEntryOf readable,
            List.getElem?_take_of_lt (by omega), hb]
          rfl
        refine ⟨fun h => ?_, fun x h => ?_⟩
        · rw [entry, h]
          rfl
        · rw [entry, listEntryOf_cell h]
          rfl

end Sys2Proof.Machine

namespace Sys2Proof.Machine

/-! ### The commit check -/

/-- In an ascending list the first value found is that of the element before which none is found. -/
theorem findSome?_eq_of_first {n : Nat} {α : Type} {f : Fin n → Option α} {r : Fin n} {v : α} (hr : f r = some v)
    (before : ∀ x, x < r → f x = none) : (List.finRange n).findSome? f = some v := by
  cases h : (List.finRange n).findSome? f with
  | none =>
    have := List.findSome?_eq_none_iff.1 h r (List.mem_finRange r)
    rw [hr] at this
    cases this
  | some w =>
    obtain ⟨front, a, back, hl, ha, hfront⟩ := List.findSome?_eq_some_iff.1 h
    have ascending := List.pairwise_lt_finRange n
    rw [hl, List.pairwise_append, List.pairwise_cons] at ascending
    obtain ⟨-, ⟨hback, -⟩, -⟩ := ascending
    have mem : r ∈ front ++ a :: back := hl ▸ List.mem_finRange r
    rcases List.mem_append.1 mem with hin | hin
    · rw [hfront r hin] at hr
      cases hr
    · rcases List.mem_cons.1 hin with rfl | hin
      · rw [← ha, hr]
      · rw [before a (hback r hin)] at ha
        cases ha

theorem findSome?_finRange_eq_none {n : Nat} {α : Type} {f : Fin n → Option α} :
    (List.finRange n).findSome? f = none ↔ ∀ r, f r = none := by
  simp [List.findSome?_eq_none_iff]

/-- A route not in use passes, and one in use passes with 1 to 8 cells, all in use and none repeated, from an approach
in use (R12, steps 1 to 4). -/
def WorkingMap.RouteGood (m : WorkingMap) (r : RouteId) : Prop :=
  m.routes[r].inUse = true →
    (1 ≤ m.routes[r].count ∧ m.routes[r].count ≤ 8) ∧ m.approaches[m.routes[r].approach].inUse = true ∧
    ∀ i, i < m.routes[r].count →
      (∃ c : CellId, m.routes[r].at? i = some c ∧ m.cells[c].inUse = true) ∧
        ¬ ∃ j, j < i ∧ m.routes[r].at? j = m.routes[r].at? i

theorem WorkingMap.unusedAt_eq_false {m : WorkingMap} {e : RouteEntry} {i : Nat} :
    m.unusedAt e i = false ↔ ∃ c : CellId, e.at? i = some c ∧ m.cells[c].inUse = true := by
  unfold WorkingMap.unusedAt
  split <;> simp_all

theorem RouteEntry.repeatedAt_eq_true {e : RouteEntry} {i : Nat} :
    e.repeatedAt i = true ↔ ∃ j, j < i ∧ e.at? j = e.at? i := by
  simp [RouteEntry.repeatedAt]

theorem find?_range_eq_some_of {n i : Nat} {p : Nat → Bool} (hi : i < n) (hp : p i = true)
    (before : ∀ j, j < i → p j = false) : (List.range n).find? p = some i := by
  rw [List.find?_range_eq_some]
  exact ⟨hp, List.mem_range.2 hi, fun j hj => by rw [before j hj]; rfl⟩

section
variable {m : WorkingMap} {r : RouteId}

theorem WorkingMap.routeFault_cellCount (hu : m.routes[r].inUse = true)
    (hc : ¬ (1 ≤ m.routes[r].count ∧ m.routes[r].count ≤ 8)) :
    m.routeFault r = some (.mapInvalid .cellCount (some r.val) (some m.routes[r].count)) := by
  have : m.routes[r].count = 0 ∨ 8 < m.routes[r].count := by omega
  simp only [WorkingMap.routeFault, hu, this]
  rfl

theorem WorkingMap.routeFault_approachUnused (hu : m.routes[r].inUse = true)
    (hc : 1 ≤ m.routes[r].count ∧ m.routes[r].count ≤ 8)
    (ha : m.approaches[m.routes[r].approach].inUse = false) :
    m.routeFault r = some (.mapInvalid .approachUnused (some r.val) (some m.routes[r].approach.val)) := by
  unfold WorkingMap.routeFault
  simp only [hu, ha, Bool.not_true, Bool.not_false, Bool.false_eq_true, if_false, if_true]
  rw [if_neg (by omega)]

theorem WorkingMap.routeFault_cellUnused (hu : m.routes[r].inUse = true)
    (hc : 1 ≤ m.routes[r].count ∧ m.routes[r].count ≤ 8)
    (ha : m.approaches[m.routes[r].approach].inUse = true) {i : Nat}
    (hi : (List.range m.routes[r].count).find? (m.unusedAt m.routes[r]) = some i) :
    m.routeFault r = some (.mapInvalid .cellUnused (some r.val) (some i)) := by
  unfold WorkingMap.routeFault
  simp only [hu, ha, Bool.not_true, Bool.false_eq_true, if_false]
  rw [if_neg (by omega), hi]

/-- Past step 3 the check of a route ends with the cells that are repeated. -/
theorem WorkingMap.routeFault_used (hu : m.routes[r].inUse = true)
    (hc : 1 ≤ m.routes[r].count ∧ m.routes[r].count ≤ 8)
    (ha : m.approaches[m.routes[r].approach].inUse = true)
    (hi : (List.range m.routes[r].count).find? (m.unusedAt m.routes[r]) = none) :
    m.routeFault r = ((List.range m.routes[r].count).find? m.routes[r].repeatedAt).map fun i =>
      .mapInvalid .cellRepeated (some r.val) (some i) := by
  unfold WorkingMap.routeFault
  simp only [hu, ha, Bool.not_true, Bool.false_eq_true, if_false]
  rw [if_neg (by omega), hi]

theorem WorkingMap.find?_unusedAt_eq_none :
    (List.range m.routes[r].count).find? (m.unusedAt m.routes[r]) = none ↔
      ∀ i, i < m.routes[r].count → ∃ c : CellId, m.routes[r].at? i = some c ∧ m.cells[c].inUse = true := by
  simp only [List.find?_eq_none, List.mem_range, Bool.not_eq_true, WorkingMap.unusedAt_eq_false]

theorem WorkingMap.find?_repeatedAt_eq_none :
    (List.range m.routes[r].count).find? m.routes[r].repeatedAt = none ↔
      ∀ i, i < m.routes[r].count → ¬ ∃ j, j < i ∧ m.routes[r].at? j = m.routes[r].at? i := by
  simp only [List.find?_eq_none, List.mem_range, RouteEntry.repeatedAt_eq_true]

/-- Steps 1 to 4 of R12 pass exactly the good routes. -/
theorem WorkingMap.routeFault_eq_none : m.routeFault r = none ↔ m.RouteGood r := by
  by_cases hu : m.routes[r].inUse = true
  case neg =>
    have unused : m.routes[r].inUse = false := by simpa only [Bool.not_eq_true] using hu
    refine iff_of_true ?_ fun used => (hu used).elim
    simp only [WorkingMap.routeFault, unused]
    rfl
  by_cases hc : 1 ≤ m.routes[r].count ∧ m.routes[r].count ≤ 8
  case neg =>
    rw [WorkingMap.routeFault_cellCount hu hc]
    exact ⟨fun h => (by cases h), fun good => (hc (good hu).1).elim⟩
  by_cases ha : m.approaches[m.routes[r].approach].inUse = true
  case neg =>
    rw [WorkingMap.routeFault_approachUnused hu hc (by simpa using ha)]
    exact ⟨fun h => (by cases h), fun good => (ha (good hu).2.1).elim⟩
  have good_iff : m.RouteGood r ↔
      (∀ i, i < m.routes[r].count → ∃ c : CellId, m.routes[r].at? i = some c ∧ m.cells[c].inUse = true) ∧
        ∀ i, i < m.routes[r].count → ¬ ∃ j, j < i ∧ m.routes[r].at? j = m.routes[r].at? i :=
    ⟨fun good => ⟨fun i hi => ((good hu).2.2 i hi).1, fun i hi => ((good hu).2.2 i hi).2⟩,
      fun h _ => ⟨hc, ha, fun i hi => ⟨h.1 i hi, h.2 i hi⟩⟩⟩
  rw [good_iff, ← WorkingMap.find?_unusedAt_eq_none, ← WorkingMap.find?_repeatedAt_eq_none]
  cases hf : (List.range m.routes[r].count).find? (m.unusedAt m.routes[r]) with
  | some i => simp [WorkingMap.routeFault_cellUnused hu hc ha hf]
  | none => simp only [WorkingMap.routeFault_used hu hc ha hf, Option.map_eq_none_iff, true_and]

end

/-- A table read in the order of its indices. -/
theorem toList_eq_map_finRange {α : Type} {n : Nat} (v : Vector α n) : v.toList = (List.finRange n).map fun i => v[i] :=
  List.ext_getElem (by simp) fun i h _ => by simp

theorem WorkingMap.anyRoute_iff (m : WorkingMap) :
    (m.routes.toList.any fun e => e.inUse) = true ↔ ∃ r : RouteId, m.routes[r].inUse = true := by
  rw [toList_eq_map_finRange]
  simp

theorem WorkingMap.safetyCount_eq (m : WorkingMap) :
    m.safetyCount = ((List.finRange 6).filter fun k =>
      m.masters[k].inUse && decide (m.masters[k].role = .safety)).length := by
  rw [WorkingMap.safetyCount, toList_eq_map_finRange, List.filter_map, List.length_map]
  rfl

theorem WorkingMap.wholeFault_noRoute {m : WorkingMap} (h : ∀ r : RouteId, m.routes[r].inUse = false) :
    m.wholeFault = some (.mapInvalid .noRoute none none) := by
  have : (m.routes.toList.any fun e => e.inUse) = false := by
    rw [← Bool.not_eq_true, WorkingMap.anyRoute_iff]
    rintro ⟨r, hr⟩
    rw [h r] at hr
    cases hr
  simp [WorkingMap.wholeFault, this]

theorem WorkingMap.wholeFault_of_route {m : WorkingMap} (h : ∃ r : RouteId, m.routes[r].inUse = true) :
    m.wholeFault =
      if m.safetyCount ≠ 1 then some (.mapInvalid .safetyCount none (some m.safetyCount)) else none := by
  simp [WorkingMap.wholeFault, m.anyRoute_iff.2 h]

/-- Steps 5 and 6 of R12. -/
theorem WorkingMap.wholeFault_eq_none {m : WorkingMap} :
    m.wholeFault = none ↔ (∃ r : RouteId, m.routes[r].inUse = true) ∧ m.safetyCount = 1 := by
  by_cases h : ∃ r : RouteId, m.routes[r].inUse = true
  · rw [WorkingMap.wholeFault_of_route h]
    simp only [ne_eq, ite_eq_right_iff, reduceCtorEq, imp_false, not_not, h, true_and]
  · rw [WorkingMap.wholeFault_noRoute fun r => by rw [← Bool.not_eq_true]; exact fun e => h ⟨r, e⟩]
    simp only [reduceCtorEq, h, false_and]

/-- A master slot shares its node with a lower one in use (R12, step 9). -/
def WorkingMap.Shares (m : WorkingMap) (k j : MasterSlot) : Prop :=
  j < k ∧ m.masters[j].inUse = true ∧ m.masters[j].node = m.masters[k].node

/-- A master slot not in use passes, and one in use passes with a node of its own (R12, steps 7 to 9). -/
def WorkingMap.MasterGood (m : WorkingMap) (own : Node) (k : MasterSlot) : Prop :=
  m.masters[k].inUse = true → m.masters[k].node ≠ 15 ∧ m.masters[k].node ≠ own ∧ ∀ j, ¬ m.Shares k j

section
variable {m : WorkingMap} {own : Node} {k : MasterSlot}

theorem WorkingMap.masterFault_nodeReserved (hu : m.masters[k].inUse = true) (hn : m.masters[k].node = 15) :
    m.masterFault own k = some (.mapInvalid .nodeReserved (some k.val) (some m.masters[k].node.val)) := by
  rw [WorkingMap.masterFault]
  simp only [hu, Bool.not_true, Bool.false_eq_true, if_false]
  rw [if_pos hn]

theorem WorkingMap.masterFault_nodeOwn (hu : m.masters[k].inUse = true) (hn : m.masters[k].node ≠ 15)
    (ho : m.masters[k].node = own) :
    m.masterFault own k = some (.mapInvalid .nodeOwn (some k.val) (some m.masters[k].node.val)) := by
  rw [WorkingMap.masterFault]
  simp only [hu, Bool.not_true, Bool.false_eq_true, if_false]
  rw [if_neg hn, if_pos ho]

/-- Past step 8 the check of a master slot ends with the lower slots that have its node. -/
theorem WorkingMap.masterFault_own (hu : m.masters[k].inUse = true) (hn : m.masters[k].node ≠ 15)
    (ho : m.masters[k].node ≠ own) :
    m.masterFault own k =
      ((List.finRange 6).find? fun j => j < k && m.masters[j].inUse && m.masters[j].node = m.masters[k].node).map
        fun j => .mapInvalid .nodeDuplicate (some k.val) (some j.val) := by
  rw [WorkingMap.masterFault]
  simp only [hu, Bool.not_true, Bool.false_eq_true, if_false]
  rw [if_neg hn, if_neg ho]

theorem WorkingMap.shares_iff {j : MasterSlot} :
    (decide (j < k) && m.masters[j].inUse && decide (m.masters[j].node = m.masters[k].node)) = true ↔ m.Shares k j := by
  simp only [WorkingMap.Shares, Bool.and_eq_true, decide_eq_true_eq, and_assoc]

/-- Steps 7 to 9 of R12 pass exactly the good master slots. -/
theorem WorkingMap.masterFault_eq_none : m.masterFault own k = none ↔ m.MasterGood own k := by
  by_cases hu : m.masters[k].inUse = true
  case neg =>
    have unused : m.masters[k].inUse = false := by simpa only [Bool.not_eq_true] using hu
    refine iff_of_true ?_ fun used => (hu used).elim
    simp only [WorkingMap.masterFault, unused]
    rfl
  by_cases hn : m.masters[k].node = 15
  · rw [WorkingMap.masterFault_nodeReserved hu hn]
    exact ⟨fun h => (by cases h), fun good => ((good hu).1 hn).elim⟩
  by_cases ho : m.masters[k].node = own
  · rw [WorkingMap.masterFault_nodeOwn hu hn ho]
    exact ⟨fun h => (by cases h), fun good => ((good hu).2.1 ho).elim⟩
  rw [WorkingMap.masterFault_own hu hn ho, Option.map_eq_none_iff, List.find?_eq_none]
  simp only [WorkingMap.shares_iff]
  exact ⟨fun h _ => ⟨hn, ho, fun j => h j (List.mem_finRange j)⟩, fun good j _ => (good hu).2.2 j⟩

/-- With every lower slot good, the slot that shares the node is the only one, and is named (R12, step 9). -/
theorem WorkingMap.masterFault_nodeDuplicate (hu : m.masters[k].inUse = true) (hn : m.masters[k].node ≠ 15)
    (ho : m.masters[k].node ≠ own) (before : ∀ j, j < k → m.MasterGood own j) {j : MasterSlot} (hj : m.Shares k j) :
    m.masterFault own k = some (.mapInvalid .nodeDuplicate (some k.val) (some j.val)) := by
  rw [WorkingMap.masterFault_own hu hn ho]
  cases hf : (List.finRange 6).find? fun j =>
      j < k && m.masters[j].inUse && m.masters[j].node = m.masters[k].node with
  | none => exact (List.find?_eq_none.1 hf j (List.mem_finRange j) (WorkingMap.shares_iff.2 hj)).elim
  | some x =>
    have found := List.find?_some hf
    obtain ⟨hxk, hxu, hxn⟩ := WorkingMap.shares_iff.1 found
    obtain ⟨hjk, hju, hjn⟩ := hj
    have same : x = j := by
      rcases lt_trichotomy x j with lt | eq | gt
      · exact ((before j hjk hju).2.2 x ⟨lt, hxu, hxn.trans hjn.symm⟩).elim
      · exact eq
      · exact ((before x hxk hxu).2.2 j ⟨gt, hju, hjn.trans hxn.symm⟩).elim
    rw [same]
    rfl

end

section
variable {m : WorkingMap} {own : Node} {v : Verdict}

theorem WorkingMap.fault_of_route {r : RouteId} (before : ∀ x, x < r → m.RouteGood x) (h : m.routeFault r = some v) :
    m.fault own = some v := by
  rw [WorkingMap.fault, findSome?_eq_of_first h fun x hx => WorkingMap.routeFault_eq_none.2 (before x hx)]
  rfl

/-- With every route good, the check goes on with the whole map (R12, steps 5 to 9). -/
theorem WorkingMap.fault_of_routes (good : ∀ r, m.RouteGood r) :
    m.fault own = m.wholeFault.or ((List.finRange 6).findSome? (m.masterFault own)) := by
  rw [WorkingMap.fault, findSome?_finRange_eq_none.2 fun r => WorkingMap.routeFault_eq_none.2 (good r), Option.none_or]

theorem WorkingMap.fault_of_whole (good : ∀ r, m.RouteGood r) (h : m.wholeFault = some v) : m.fault own = some v := by
  rw [WorkingMap.fault_of_routes good, h]
  rfl

theorem WorkingMap.fault_of_master (good : ∀ r, m.RouteGood r) (hw : m.wholeFault = none) {k : MasterSlot}
    (before : ∀ j, j < k → m.MasterGood own j) (h : m.masterFault own k = some v) : m.fault own = some v := by
  rw [WorkingMap.fault_of_routes good, hw, Option.none_or]
  exact findSome?_eq_of_first h fun j hj => WorkingMap.masterFault_eq_none.2 (before j hj)

theorem WorkingMap.fault_eq_none_iff :
    m.fault own = none ↔ (∀ r, m.RouteGood r) ∧
      ((∃ r : RouteId, m.routes[r].inUse = true) ∧ m.safetyCount = 1) ∧ ∀ k, m.MasterGood own k := by
  rw [WorkingMap.fault, Option.or_eq_none_iff, Option.or_eq_none_iff, findSome?_finRange_eq_none,
    findSome?_finRange_eq_none, WorkingMap.wholeFault_eq_none]
  simp only [WorkingMap.routeFault_eq_none, WorkingMap.masterFault_eq_none]

end

/-- A position of a list of eight reads as the list's entry. -/
theorem RouteEntry.at?_fin (e : RouteEntry) (i : Fin 8) : e.at? i.val = e.list[i] := by
  simp [RouteEntry.at?]

/-- A route is good exactly when its positions, read in the list of eight, hold cells in use without repetition. -/
theorem WorkingMap.routeGood_iff {m : WorkingMap} {r : RouteId} :
    m.RouteGood r ↔ (m.routes[r].inUse = true →
      1 ≤ m.routes[r].count ∧ m.routes[r].count ≤ 8 ∧ m.approaches[m.routes[r].approach].inUse = true ∧
      ∀ i : Fin 8, i.val < m.routes[r].count →
        ∃ c : CellId, m.routes[r].list[i] = some c ∧ m.cells[c].inUse = true ∧
          ∀ j : Fin 8, j < i → m.routes[r].list[j] ≠ some c) := by
  refine forall_congr' fun _ => ⟨fun ⟨⟨h1, h8⟩, ha, cells⟩ => ⟨h1, h8, ha, fun i hi => ?_⟩,
    fun ⟨h1, h8, ha, cells⟩ => ⟨⟨h1, h8⟩, ha, fun i hi => ?_⟩⟩
  · obtain ⟨⟨c, hc, hu⟩, fresh⟩ := cells i.val hi
    rw [RouteEntry.at?_fin] at hc fresh
    refine ⟨c, hc, hu, fun j hj e => fresh ⟨j.val, hj, ?_⟩⟩
    rw [RouteEntry.at?_fin, e, hc]
  · obtain ⟨c, hc, hu, fresh⟩ := cells ⟨i, by omega⟩ hi
    have hat := RouteEntry.at?_fin m.routes[r] ⟨i, by omega⟩
    refine ⟨⟨c, hat.trans hc, hu⟩, fun ⟨j, hj, e⟩ => fresh ⟨j, by omega⟩ hj ?_⟩
    rw [← RouteEntry.at?_fin, e, hat, hc]

/-- A filter of a list without repetition leaves one element exactly when one satisfies the condition. -/
theorem length_filter_eq_one_iff {n : Nat} {p : Fin n → Bool} :
    ((List.finRange n).filter p).length = 1 ↔ ∃ k, p k = true ∧ ∀ j, p j = true → j = k := by
  rw [List.length_eq_one_iff]
  refine exists_congr fun k => ⟨fun h => ⟨?_, fun j hj => ?_⟩, fun ⟨hk, only⟩ => ?_⟩
  · have mem : k ∈ (List.finRange n).filter p := by rw [h]; exact List.mem_singleton_self k
    exact (List.mem_filter.1 mem).2
  · have mem : j ∈ (List.finRange n).filter p := List.mem_filter.2 ⟨List.mem_finRange j, hj⟩
    rw [h] at mem
    exact List.mem_singleton.1 mem
  · refine List.perm_singleton.1 ((List.perm_ext_iff_of_nodup ((List.nodup_finRange n).filter p)
      (List.nodup_singleton k)).2 fun j => ?_)
    rw [List.mem_filter, List.mem_singleton]
    exact ⟨fun h => only j h.2, fun h => ⟨List.mem_finRange j, h ▸ hk⟩⟩

theorem WorkingMap.safetyCount_eq_one {m : WorkingMap} :
    m.safetyCount = 1 ↔ ∃ k : MasterSlot, m.masters[k].inUse = true ∧ m.masters[k].role = .safety ∧
      ∀ j : MasterSlot, m.masters[j].inUse = true → m.masters[j].role = .safety → j = k := by
  rw [WorkingMap.safetyCount_eq, length_filter_eq_one_iff]
  simp only [Bool.and_eq_true, decide_eq_true_eq, and_imp, and_assoc]

/-- Every master slot is good exactly when no two in use have one node, and none has 15 or the part's own. -/
theorem WorkingMap.masterGood_iff {m : WorkingMap} {own : Node} :
    (∀ k, m.MasterGood own k) ↔ ∀ k : MasterSlot, m.masters[k].inUse = true →
      m.masters[k].node ≠ 15 ∧ m.masters[k].node ≠ own ∧
      ∀ j : MasterSlot, j ≠ k → m.masters[j].inUse = true → m.masters[j].node ≠ m.masters[k].node := by
  refine ⟨fun good k hk => ⟨(good k hk).1, (good k hk).2.1, fun j hne hj e => ?_⟩,
    fun h k hk => ⟨(h k hk).1, (h k hk).2.1, fun j ⟨lt, hj, e⟩ => (h k hk).2.2 j lt.ne hj e⟩⟩
  rcases lt_or_gt_of_ne hne with lt | gt
  · exact (good k hk).2.2 j ⟨lt, hj, e⟩
  · exact (good j hj).2.2 k ⟨gt, hk, e.symm⟩

/-- Settles O58: the check is a search for the first fault, and each step's faults are exactly what its rule names. -/
theorem commitAcceptsExactlyValidMaps : Obligations.CommitAcceptsExactlyValidMaps := by
  refine ⟨fun m own => ?_, fun m own => ?_⟩
  · intro entry used repeated counted routeGood shared masterGood names safeties
    refine ⟨fun r hu before => ⟨fun hc => ?_, fun hc => ⟨fun ha => ?_, fun ha => ⟨fun i hi hbad hbefore => ?_,
      fun hused i hi hrep hbefore => ?_⟩⟩⟩, fun good => ⟨fun hno => ?_, fun hsome => ⟨fun hs => ?_,
        fun hs k hk hbefore => ⟨fun hn => ?_, fun hn ho => ?_, fun hn ho j hj => ?_⟩⟩⟩⟩
    · exact WorkingMap.fault_of_route before (WorkingMap.routeFault_cellCount hu hc)
    · exact WorkingMap.fault_of_route before (WorkingMap.routeFault_approachUnused hu hc ha)
    · refine WorkingMap.fault_of_route before (WorkingMap.routeFault_cellUnused hu hc ha
        (find?_range_eq_some_of hi ?_ fun j hj => WorkingMap.unusedAt_eq_false.2 (hbefore j hj)))
      rw [← Bool.not_eq_false, WorkingMap.unusedAt_eq_false]
      exact hbad
    · refine WorkingMap.fault_of_route before ?_
      rw [WorkingMap.routeFault_used hu hc ha (WorkingMap.find?_unusedAt_eq_none.2 hused),
        find?_range_eq_some_of hi (RouteEntry.repeatedAt_eq_true.2 hrep) fun j hj => by
          rw [← Bool.not_eq_true, RouteEntry.repeatedAt_eq_true]
          exact hbefore j hj]
      rfl
    · exact WorkingMap.fault_of_whole good (WorkingMap.wholeFault_noRoute hno)
    · refine WorkingMap.fault_of_whole good ?_
      rw [WorkingMap.wholeFault_of_route hsome, m.safetyCount_eq, if_pos hs]
    all_goals have hw : m.wholeFault = none := WorkingMap.wholeFault_eq_none.2 ⟨hsome, m.safetyCount_eq.trans hs⟩
    · exact WorkingMap.fault_of_master good hw hbefore (WorkingMap.masterFault_nodeReserved hk hn)
    · exact WorkingMap.fault_of_master good hw hbefore (WorkingMap.masterFault_nodeOwn hk hn ho)
    · exact WorkingMap.fault_of_master good hw hbefore (WorkingMap.masterFault_nodeDuplicate hk hn ho hbefore hj)
  · rw [WorkingMap.fault_eq_none_iff, WorkingMap.safetyCount_eq_one, WorkingMap.masterGood_iff, and_assoc]
    simp only [WorkingMap.routeGood_iff]

end Sys2Proof.Machine

namespace Sys2Proof.Machine

/-! ### Frames that are not taken -/

/-- The line state and the receive side are as before. -/
def KeepsLine (s t : State) : Prop := t.liu.line = s.liu.line ∧ t.liu.rx = s.liu.rx

theorem KeepsLine.rfl {s : State} : KeepsLine s s := ⟨.refl _, .refl _⟩

theorem KeepsLine.trans {s t u : State} (h : KeepsLine s t) (k : KeepsLine t u) : KeepsLine s u :=
  ⟨k.1.trans h.1, k.2.trans h.2⟩

/-- What keeps the outer part keeps the line. -/
theorem KeepsOuter.line {s t : State} (h : KeepsOuter s t) : KeepsLine s t :=
  ⟨congrArg (fun o => o.liu.line) h.1, congrArg (fun o => o.liu.rx) h.1⟩

theorem Keeps.line {s t : State} (h : Keeps s t) : KeepsLine s t := h.weaken.line

theorem State.afterRemoval_keeps (s : State) (p : Slot) (o : Outcome) :
    Keeps s (s.afterEvent (s.remove p o) true) :=
  (s.remove_keeps p o).trans (State.afterEvent_keeps _ _ _)

theorem State.request_keeps (s : State) (m : MasterSlot) (carrier : CarrierId) (route cls speed : Byte)
    (length : BitVec 16) : Keeps s (s.request m carrier route cls speed length).1 := by
  unfold State.request
  split
  · exact .rfl
  · rename_i r p _
    have admitted : Keeps s (s.admission p (s.newPassage m carrier r cls speed length)) :=
      ⟨.refl _, .refl _, .refl _, id⟩
    exact admitted.trans (State.grantPass_keeps _ _)

theorem State.withdraw_keeps (s : State) (src : Node) (slot : Byte) (carrier : CarrierId) :
    Keeps s (s.withdraw src slot carrier).1 := by
  unfold State.withdraw
  split
  · exact .rfl
  · split
    · exact .rfl
    · split
      · exact .rfl
      · exact s.afterRemoval_keeps _ _

theorem State.forceRelease_keeps (s : State) (slot : Byte) (carrier : CarrierId) :
    Keeps s (s.forceRelease slot carrier).1 := by
  unfold State.forceRelease
  split
  · exact .rfl
  · exact s.afterRemoval_keeps _ _

theorem State.lockCell_keeps (s : State) (c : CellId) : Keeps s (s.lockCell c) := by
  unfold State.lockCell
  simp only
  split
  · exact .rfl
  · split
    · exact s.setCell_keeps _ _
    · exact (s.setCell_keeps _ _).trans (State.postSafety_keepsBook _ _).1

theorem State.lockCells_keeps (s : State) (set : BitVec 32) : Keeps s (s.lockCells set).1 := by
  unfold State.lockCells
  split
  · exact .rfl
  · exact keeps_foldl State.lockCell_keeps _ _

theorem State.unlockCells_keeps (s : State) (set : BitVec 32) : Keeps s (s.unlockCells set).1 := by
  unfold State.unlockCells
  split
  · exact .rfl
  · have unlocked : Keeps s ((cellsIn set).foldl State.unlockCell s) :=
      keeps_foldl (fun s c => s.setCell_keeps c _) _ _
    simp only
    split
    · exact unlocked.trans (State.grantPass_keeps _ _)
    · exact unlocked

theorem State.setSensorMode_keepsOuter (s : State) (cell mode : Byte) : KeepsOuter s (s.setSensorMode cell mode).1 := by
  unfold State.setSensorMode
  split
  · exact .rfl
  · simp only
    split
    · exact .rfl
    · exact (s.changeSensor_keepsMode _ _).1.trans (State.afterEvent_keeps _ _ _).weaken

theorem State.drain_keepsOuter (s : State) : KeepsOuter s s.drain.1 := by
  unfold State.drain
  dsimp only
  split
  · exact (s.setControl_keepsOuter _).trans (State.postMode_keepsBook _).1.weaken
  · exact .rfl

theorem State.resume_keepsOuter (s : State) : KeepsOuter s s.resume.1 := by
  unfold State.resume
  split
  · split
    · exact .rfl
    · dsimp only
      split
      · exact s.leaveHalted_keepsOuter _
      · exact s.leaveHalted_keepsOuter _
      · exact s.enterSettling_keepsOuter
      · exact s.enterSettling_keepsOuter
  · dsimp only
    have drained : KeepsOuter s (s.setMode .running) := s.setControl_keepsOuter _
    exact drained.trans ((State.postMode_keepsBook _).1.trans (State.grantPass_keeps _ none)).weaken
  all_goals exact .rfl

theorem State.restart_keepsOuter (s : State) : KeepsOuter s s.restart.1 := by
  unfold State.restart
  dsimp only
  have rested := (s.flush_keeps fun _ => true).weaken.trans
    (keepsMode_foldl State.returnSensor_keepsMode (List.finRange 32) _).1
  split
  · exact (rested.trans (State.setControl_keepsOuter _ _)).trans (State.postMode_keepsBook _).1.weaken
  · exact rested.trans (State.enterSettling_keepsOuter _)

theorem State.enterService_keepsLine (s : State) (n : Node) : KeepsLine s (s.enterService n) := by
  unfold State.enterService State.restCells
  dsimp only
  refine KeepsLine.trans ?_ (State.postMode_keepsBook _).1.line
  exact ⟨rfl, rfl⟩

theorem State.openService_keepsLine (s : State) (src : Node) : KeepsLine s (s.openService src).1 := by
  unfold State.openService
  split
  case h_1 => dsimp only; exact s.enterService_keepsLine _
  case h_2 => exact ⟨rfl, rfl⟩
  case h_3 | h_4 =>
    split
    · exact .rfl
    · dsimp only; exact (s.flush_keeps _).line.trans (State.enterService_keepsLine _ _)
  all_goals exact .rfl

theorem State.load_keepsLine (s : State) (map : Except Verdict WorkingMap) : KeepsLine s (s.load map).1 := by
  unfold State.load
  split <;> exact ⟨rfl, rfl⟩

theorem State.commitMap_keepsLine (s : State) : KeepsLine s s.commitMap.1 := by
  unfold State.commitMap
  split
  · exact .rfl
  · dsimp only
    rw [State.commit_eq]
    have identified : KeepsLine s s.identified := ⟨rfl, rfl⟩
    have enrolled : KeepsLine s.identified s.identified.enrolled := s.identified.clearChangedSlots_keepsBook.1.line
    have setUp : KeepsLine s.identified.enrolled s.identified.enrolled.setUpSensors := by
      unfold State.setUpSensors; exact ⟨rfl, rfl⟩
    exact ((identified.trans enrolled).trans setUp).trans (State.enterSettling_keepsOuter _).line

theorem State.junctionPart1_keepsLine (s : State) (src : Node) : KeepsLine s (s.junctionPart1 src).1 := by
  unfold State.junctionPart1 State.storeSnapshot
  dsimp only
  split <;> exact ⟨rfl, rfl⟩

theorem State.junctionPart2_keepsLine (s : State) (src : Node) : KeepsLine s (s.junctionPart2 src).1 := by
  unfold State.junctionPart2
  split <;> exact .rfl

theorem State.junctionPart_keepsLine (s : State) (src : Node) (part : Byte) :
    KeepsLine s (s.junctionPart src part).1 := by
  unfold State.junctionPart
  split
  · exact s.junctionPart1_keepsLine src
  · split
    · exact s.junctionPart2_keepsLine src
    · exact .rfl

/-- A command is carried by a frame, whose owner's work leaves the line state and the receive side. -/
def FrameCommand (c : Instr) : Prop :=
  ∃ owner : State → State × Verdict, (∀ s, exec c s = onFrame c s owner) ∧ ∀ s, KeepsLine s (owner s).1

/-- Every command that a frame carries is done as a frame command. -/
theorem frameCommand_of_frameOf {c : Instr} {f : Frame} (hf : frameOf c = some f) : FrameCommand c := by
  have given : ∀ {n : Node} {owner : State → State × Verdict}, (∀ s, KeepsLine s (owner s).1) →
      ∀ s, KeepsLine s (if s.decoder.service = some n then owner s else (s, Verdict.refusedRole)).1 := by
    intro n owner ho s
    split
    · exact ho s
    · exact .rfl
  unfold FrameCommand
  cases c
  all_goals simp only [exec, execIdentify, execLinePattern, execQueryJunctionPart1, execQueryJunctionPart2,
    execQueryPassage, execQueryCell, execQueryLine, execRequestPassage, execWithdraw, execLockCells, execUnlockCells,
    execSetSensor, execForceRelease, execDrain, execResume, execRestart, execOpenService, execLoadOptions, execLoadCell,
    execLoadApproach, execLoadRoute, execLoadRouteCells, execLoadMaster, execCommitMap, onServiceFrame]
  case identify | linePattern | queryPassage | queryCell => exact ⟨_, fun _ => rfl, fun _ => .rfl⟩
  case queryJunctionPart1 => exact ⟨_, fun _ => rfl, fun s => s.junctionPart_keepsLine _ _⟩
  case queryJunctionPart2 => exact ⟨_, fun _ => rfl, fun s => s.junctionPart2_keepsLine _⟩
  case queryLine => exact ⟨_, fun _ => rfl, fun _ => ⟨rfl, rfl⟩⟩
  case requestPassage =>
    refine ⟨_, fun _ => rfl, fun s => ?_⟩
    split
    · exact .rfl
    · exact (s.request_keeps _ _ _ _ _ _).line
  case withdraw => exact ⟨_, fun _ => rfl, fun s => (s.withdraw_keeps _ _ _).line⟩
  case lockCells => exact ⟨_, fun _ => rfl, fun s => (s.lockCells_keeps _).line⟩
  case unlockCells => exact ⟨_, fun _ => rfl, fun s => (s.unlockCells_keeps _).line⟩
  case setSensor => exact ⟨_, fun _ => rfl, fun s => (s.setSensorMode_keepsOuter _ _).line⟩
  case forceRelease => exact ⟨_, fun _ => rfl, fun s => (s.forceRelease_keeps _ _).line⟩
  case drain => exact ⟨_, fun _ => rfl, fun s => s.drain_keepsOuter.line⟩
  case resume => exact ⟨_, fun _ => rfl, fun s => s.resume_keepsOuter.line⟩
  case restart => exact ⟨_, fun _ => rfl, fun s => s.restart_keepsOuter.line⟩
  case openService => exact ⟨_, fun _ => rfl, fun s => s.openService_keepsLine _⟩
  case loadOptions | loadCell | loadApproach | loadRoute | loadRouteCells | loadMaster =>
    exact ⟨_, fun _ => rfl, given fun s => s.load_keepsLine _⟩
  case commitMap => exact ⟨_, fun _ => rfl, given State.commitMap_keepsLine⟩
  all_goals cases hf

/-- A frame that the LIU does not read changes nothing (R133). -/
theorem exec_unheard {c : Instr} {f : Frame} {s : State} (hf : frameOf c = some f) (hh : s.hearsFrame f = false) :
    exec c s = .next s := by
  obtain ⟨owner, exec_eq, -⟩ := frameCommand_of_frameOf hf
  simp [exec_eq, onFrame, hf, hh]

/-- A frame from a source that is not enrolled gets no tail (R143). -/
theorem exec_noTail {c : Instr} {f : Frame} {s : State} (hf : frameOf c = some f) (hh : s.hearsFrame f = true)
    (hj : s.judge f.kind f.head.src = .noTail) : exec c s = .next (s.readFrame f) := by
  obtain ⟨owner, exec_eq, -⟩ := frameCommand_of_frameOf hf
  simp [exec_eq, onFrame, hf, hh, hj]

/-- A frame that the Decoder refuses is answered with the refusal (R143). -/
theorem exec_refuse {c : Instr} {f : Frame} {s : State} {v : Verdict} (hf : frameOf c = some f)
    (hh : s.hearsFrame f = true) (hj : s.judge f.kind f.head.src = .refuse v) :
    exec c s = .next ((s.readFrame f).giveTail v) := by
  obtain ⟨owner, exec_eq, -⟩ := frameCommand_of_frameOf hf
  simp [exec_eq, onFrame, hf, hh, hj]

/-- Every frame that is heard leaves the line BUSY and its bytes in the buffer (R130). -/
theorem exec_heard {c : Instr} {f : Frame} {s : State} (hf : frameOf c = some f) (hh : s.hearsFrame f = true) :
    ∃ t, exec c s = .next t ∧ t.liu.line = .busy ∧ t.liu.rx = some (.closing (f.bytes s.liu.own) []) := by
  obtain ⟨owner, exec_eq, keeps⟩ := frameCommand_of_frameOf hf
  cases hj : s.judge f.kind f.head.src with
  | noTail => exact ⟨_, exec_noTail hf hh hj, rfl, rfl⟩
  | refuse v => exact ⟨_, exec_refuse hf hh hj, rfl, rfl⟩
  | take =>
    obtain ⟨line, rx⟩ := keeps (s.readFrame f)
    exact ⟨_, (exec_eq s).trans (onFrame_take hf hh hj), line, rx⟩

/-- Behind a frame that has been read to its end no other is heard before the line is idle (R133). -/
theorem State.hears_closed {s : State} {bytes tail : List Byte} (hl : s.liu.line = .busy)
    (hr : s.liu.rx = some (.closing bytes tail)) (raw : RawFrame) : s.hears raw = false := by
  simp [State.hears, hl, hr, Receive.continuedBy]

/-- A frame of the Map Store from another node than the service node is refused (R7). -/
theorem exec_notServiceNode {c : Instr} {f : Frame} {s : State} (hf : frameOf c = some f)
    (hh : s.hearsFrame f = true) (hk : f.kind ∈ Kind.mapStore) (hm : s.control.mode = .service)
    (hs : s.decoder.service ≠ some f.head.src) : exec c s = .next ((s.readFrame f).giveTail .refusedRole) := by
  have refused : ∀ owner, onServiceFrame c f.head.src s owner = .next ((s.readFrame f).giveTail .refusedRole) := by
    intro owner
    rw [onServiceFrame, onFrame_take hf hh (State.judge_mapStore _ hm hk)]
    simp [hs]
  cases c
  case loadOptions | loadCell | loadApproach | loadRoute | loadRouteCells | loadMaster | commitMap =>
    cases hf
    simp only [exec, execLoadOptions, execLoadCell, execLoadApproach, execLoadRoute, execLoadRouteCells, execLoadMaster,
      execCommitMap]
    exact refused _
  all_goals cases hf <;> simp [Kind.mapStore] at hk

/-- Settles O17: a frame command changes more than the line and the tail only by its owner's work. -/
theorem untakenFramesChangeNothing : Obligations.UntakenFramesChangeNothing := by
  refine ⟨fun c f s hf => ⟨fun hp hl hu ha => State.hears_of_idle hp hl hu ha _, exec_unheard hf, fun hh => ?_⟩,
    fun c f s hf hh => ⟨fun hj => ?_, fun v hj => ?_, fun hk hm hs => ?_⟩⟩
  · obtain ⟨t, ht, line, rx⟩ := exec_heard hf hh
    exact ⟨t, ht, line, rx, fun d g hg => exec_unheard hg (State.hears_closed line rx _)⟩
  · exact ⟨_, exec_noTail hf hh hj, rfl, rfl⟩
  · exact ⟨_, exec_refuse hf hh hj, s.sameButTail_answer f v⟩
  · exact ⟨_, exec_notServiceNode hf hh hk hm hs, s.sameButTail_answer f _⟩

end Sys2Proof.Machine

namespace Sys2Proof.Machine

/-! ### Hardware reset -/

/-- Outside the running phase no frame is heard (R165, R166). -/
theorem State.hears_notRunning {s : State} (h : s.power.phase ≠ .running) (raw : RawFrame) : s.hears raw = false := by
  simp [State.hears, h]

theorem exec_hardwareReset {s : State} {cause : ResetCause} (h : appliesReset cause = true) :
    exec (.hardwareReset cause) s = .next s.applyReset := by
  simp [exec, execHardwareReset, h]

theorem exec_oscillatorReady {s : State} (h : s.power.phase = .counting) (straps : BitVec 4) :
    exec (.oscillatorReady straps) s = .next { State.afterReset straps with pending := s.pending } := by
  simp [exec, execOscillatorReady, h]

theorem ownNodeOf_val (straps : BitVec 4) : (ownNodeOf straps).val = if straps = 15 then 14 else straps.toNat := by
  unfold ownNodeOf
  split <;> rfl

theorem State.afterReset_crc (straps : BitVec 4) :
    (State.afterReset straps).map.crc = (State.afterReset straps).map.working.crc := by
  rw [State.afterReset]

/-- Under reset the part lets go of the floor line, drives every signal line low and hears no frame (R165). -/
theorem State.applyReset_outputs (s : State) : s.applyReset.lineDrivenDominant = false ∧
    (∀ a, s.applyReset.signalDrivenLow a = true) ∧
    ∀ c f, frameOf c = some f → exec c s.applyReset = .next s.applyReset := by
  have phase : s.applyReset.power.phase ≠ .running := by simp [State.applyReset]
  refine ⟨by simp [State.lineDrivenDominant, phase], fun a => by simp [State.signalDrivenLow, phase],
    fun c f hf => exec_unheard hf (State.hears_notRunning phase _)⟩

/-- What is being sent ends when reset is applied (R165). -/
theorem State.applyReset_tail (s : State) (tail : Tail) (h : s.applyReset.liu.tail = some tail) :
    tail.sending = false := by
  obtain ⟨t, -, rfl⟩ := Option.map_eq_some_iff.1 (show s.liu.tail.map _ = some tail from h)
  rfl

/-- Settles O60: under reset the phase alone keeps every command from its work, and at the end of the count every block
is `State.afterReset`'s. -/
theorem hardwareReset : Obligations.HardwareReset := by
  intro s
  refine ⟨fun cause hcause => ?_, fun cycles hc => ?_, fun hp => ?_, fun hp straps => ?_⟩
  · have applies : appliesReset cause = true := by
      rcases hcause with rfl | ⟨cycles, hc, rfl⟩
      · rfl
      · exact decide_eq_true hc
    obtain ⟨dominant, low, deaf⟩ := s.applyReset_outputs
    exact ⟨s.applyReset, exec_hardwareReset applies, rfl, rfl, rfl, rfl, rfl, rfl, s.applyReset_tail, dominant, low, deaf⟩
  · have short : appliesReset (.pin cycles) = false := decide_eq_false (by unfold Config.resetFromCycles; omega)
    simp [exec, execHardwareReset, short]
  · simp [exec, execResetRelease, hp]
  · refine ⟨_, exec_oscillatorReady hp straps, rfl, ownNodeOf_val straps, rfl, rfl, rfl, rfl, rfl, rfl, rfl,
      fun c f hf => exec_unheard hf (State.hears_unfollowed rfl rfl _), rfl, rfl, rfl, rfl, rfl, rfl, rfl,
      fun c => ?_, fun a => ?_, fun r => ?_, fun k => ?_, rfl, State.afterReset_crc straps,
      fun p => ?_, rfl, fun a => ?_, fun c => ?_, fun k => ?_, rfl, rfl, rfl, rfl, fun i => ?_, rfl⟩
    · simp [State.afterReset, WorkingMap.reset, CellEntry.reset]
    · simp [State.afterReset, WorkingMap.reset, ApproachEntry.reset]
    · simp [State.afterReset, WorkingMap.reset, RouteEntry.reset]
    · simp [State.afterReset, WorkingMap.reset, MasterEntry.reset]
    · simp [State.passage, State.afterReset]
    · simp [State.queue, State.signal, State.afterReset, SignalRec.reset]
    · simp [State.cell, State.sensor, State.afterReset, CellRec.reset, SensorRec.reset]
    · simp [State.afterReset]
    · simp [State.afterReset]

end Sys2Proof.Machine

namespace Sys2Proof.Machine

/-! ### The attempt of a notice frame -/

/-- The address byte holds the destination in its upper half and the source in its lower one (R152). -/
theorem addressByte_eq (dest src : Node) : addressByte dest src = BitVec.ofNat 8 (16 * dest.val + src.val) := by
  apply BitVec.eq_of_toNat_eq
  have hd := dest.isLt
  have hs := src.isLt
  rw [addressByte, BitVec.toNat_append, BitVec.toNat_ofNat, BitVec.toNat_ofNat, BitVec.toNat_ofNat,
    Nat.mod_eq_of_lt (by omega : dest.val < 2 ^ 4), Nat.mod_eq_of_lt (by omega : src.val < 2 ^ 4),
    ← Nat.shiftLeft_add_eq_or_of_lt (by omega), Nat.shiftLeft_eq]
  omega

theorem byteOf_toNat {n : Nat} (h : n < 256) : (byteOf n).toNat = n := by
  rw [byteOf, BitVec.toNat_ofNat, Nat.mod_eq_of_lt h]

/-- Every kind of notice has an extra field of two bytes (R155). -/
theorem NoticeBody.extra_eq_pair (b : NoticeBody) : ∃ x6 x7, b.extra = [x6, x7] := by
  cases b <;> exact ⟨_, _, rfl⟩

/-- The bytes of a notice frame (R155). -/
theorem State.noticeFrame_eq (s : State) (f : TxFrame) (lost : Bool) {x6 x7 : Byte} (hx : f.notice.body.extra = [x6, x7]) :
    let carrier := (f.notice.passage.map Prod.snd).getD 0
    let body := [0xBF, BitVec.ofNat 8 (16 * s.map.enrolment[f.slot].node.val + s.liu.own.val),
      f.notice.body.code ++ (0 : BitVec 1) ++ BitVec.ofBool lost ++ BitVec.ofBool f.notice.clamped ++
        BitVec.ofBool f.notice.wasOverdue,
      slotByte (f.notice.passage.map Prod.fst), carrier.extractLsb' 8 8, carrier.extractLsb' 0 8,
      f.notice.stamp.extractLsb' 8 8, f.notice.stamp.extractLsb' 0 8, x6, x7]
    s.noticeFrame f lost = body ++ [crc8 body] := by
  have header : headerByte 5 31 = 0xBF := by decide
  simp only [State.noticeFrame, TxFrame.bytes, Notice.payload, bytes16, hx, addressByte_eq, header, List.cons_append,
    List.nil_append]

/-- An attempt starts at an idle line, in any mode but UNMAPPED, with a frame in the shifter (R137). -/
theorem exec_noticeFrameStart {s : State} {f : TxFrame} (hp : s.power.phase = .running) (hf : s.liu.shifter = some f)
    (hl : s.liu.line = .idle) (hu : s.liu.pulse = none) (hm : s.control.mode ≠ .unmapped) :
    exec .noticeFrameStart s = .next (s.startNotice f) := by
  simp only [exec, execNoticeFrameStart]
  rw [whenRunning_running hp]
  simp [hf, hl, hu, hm]

theorem exec_noticeFrameStart_elsewhere {s : State} (hp : s.power.phase = .running)
    (h : s.liu.shifter = none ∨ s.liu.line ≠ .idle ∨ s.control.mode = .unmapped) :
    exec .noticeFrameStart s = .next s := by
  simp only [exec, execNoticeFrameStart]
  rw [whenRunning_running hp]
  rcases h with h | h | h
  · simp [h]
  all_goals
    split
    · rfl
    · simp [h]

/-! #### Lost arbitration -/

/-- The bits of a byte in the order sent (R133). -/
theorem bitsOf_getElem? (b : Byte) {i : Nat} (h : i < 8) : (bitsOf b)[i]? = some (b.getMsbD i) := by
  interval_cases i <;> simp [bitsOf, BitVec.getMsbD]

theorem bitsOf_length (b : Byte) : (bitsOf b).length = 8 := rfl

/-- The arbitration field of a frame is that of its first two bytes, bit by bit in the order sent (R137). -/
theorem fieldBits_getElem? (x y : Byte) (rest : List Byte) {i : Nat} (h : i < 16) :
    (fieldBits (x :: y :: rest))[i]? = some ((x ++ y).getMsbD i) := by
  have : fieldBits (x :: y :: rest) = bitsOf x ++ bitsOf y := by simp [fieldBits]
  rw [this, BitVec.getMsbD_append]
  split
  · rw [List.getElem?_append_right (by rw [bitsOf_length]; assumption), bitsOf_length, bitsOf_getElem? y (by omega)]
  · rw [List.getElem?_append_left (by rw [bitsOf_length]; omega), bitsOf_getElem? x (by omega)]

/-- A byte goes on from `k` bits of another and a dominant one when it has those bits, and is dominant there. -/
theorem prefix_bitsOf_iff (u v : Byte) {k : Nat} (hk : k < 8) :
    ((bitsOf u).take k ++ [false]).isPrefixOf (bitsOf v) = true ↔
      v.getMsbD k = false ∧ ∀ i, i < k → v.getMsbD i = u.getMsbD i := by
  have length : ((bitsOf u).take k ++ [false]).length = k + 1 := by
    rw [List.length_append, List.length_take, bitsOf_length, Nat.min_eq_left (by omega)]
    rfl
  have before : ∀ i, i < k → ((bitsOf u).take k ++ [false])[i]? = some (u.getMsbD i) := fun i hi => by
    rw [List.getElem?_append_left (by rw [List.length_take, bitsOf_length]; omega), List.getElem?_take_of_lt hi,
      bitsOf_getElem? u (by omega)]
  have last : ((bitsOf u).take k ++ [false])[k]? = some false := by
    rw [List.getElem?_append_right (by simp), List.length_take, bitsOf_length, Nat.min_eq_left (by omega)]
    simp
  rw [List.isPrefixOf_iff_prefix, List.prefix_iff_getElem?]
  refine ⟨fun h => ⟨?_, fun i hi => ?_⟩, fun ⟨dominant, same⟩ i hi => ?_⟩
  · have := h k (by omega)
    rw [← List.getElem?_eq_getElem, last, bitsOf_getElem? v hk] at this
    simpa using this
  · have := h i (by omega)
    rw [← List.getElem?_eq_getElem, before i hi, bitsOf_getElem? v (by omega)] at this
    simpa using this
  · rw [← List.getElem?_eq_getElem hi]
    rcases Nat.lt_or_ge i k with lt | ge
    · rw [before i lt, bitsOf_getElem? v (by omega), same i lt]
    · have : i = k := by omega
      rw [this, last, bitsOf_getElem? v hk, dominant]

/-- What has been read back of the part's own frame is gone on with by the frames that have those bits, and are dominant
where the part was not (R137). -/
theorem readBack_continuedBy_iff (header address x y : Byte) (rest other : List Byte) (bit : Fin 16) :
    (readBack (header :: address :: rest) bit).continuedBy (cleanReading (x :: y :: other)) = true ↔
      (x ++ y).getMsbD bit.val = false ∧
        ∀ i, i < bit.val → (x ++ y).getMsbD i = (header ++ address).getMsbD i := by
  have field : fieldBits (header :: address :: rest) = bitsOf header ++ bitsOf address := by simp [fieldBits]
  have hbit := bit.isLt
  simp only [BitVec.getMsbD_append]
  unfold readBack
  by_cases lt : bit.val < 8
  · rw [if_pos lt, field, List.take_append_of_le_length (by rw [bitsOf_length]; omega)]
    have continued : (Receive.data [] ((bitsOf header).take bit.val ++ [false])).continuedBy
        (cleanReading (x :: y :: other)) = ((bitsOf header).take bit.val ++ [false]).isPrefixOf (bitsOf x) := by
      simp [Receive.continuedBy, cleanReading, RawFrame.byteAt]
    rw [continued, prefix_bitsOf_iff header x lt, if_neg (by omega)]
    refine and_congr_right fun _ => forall₂_congr fun i hi => ?_
    rw [if_neg (by omega), if_neg (by omega)]
  · rw [if_neg lt, field, List.drop_append_of_le_length (by rw [bitsOf_length]), List.drop_of_length_le
      (by rw [bitsOf_length]), List.nil_append]
    have continued : (Receive.data ((header :: address :: rest).take 1)
        ((bitsOf address).take (bit.val - 8) ++ [false])).continuedBy (cleanReading (x :: y :: other)) =
          (decide (x = header) && ((bitsOf address).take (bit.val - 8) ++ [false]).isPrefixOf (bitsOf y)) := by
      simp [Receive.continuedBy, cleanReading, RawFrame.byteAt]
    rw [continued, Bool.and_eq_true, decide_eq_true_eq, prefix_bitsOf_iff address y (by omega), if_pos (by omega)]
    refine ⟨fun ⟨hx, dominant, same⟩ => ⟨dominant, fun i hi => ?_⟩, fun ⟨dominant, same⟩ =>
      ⟨BitVec.eq_of_getMsbD_eq fun i hi => ?_, dominant, fun i hi => ?_⟩⟩
    · split
      · exact same (i - 8) (by omega)
      · rw [hx]
    · have := same i (by omega)
      rwa [if_neg (by omega), if_neg (by omega)] at this
    · have := same (i + 8) (by omega)
      rwa [if_pos (by omega), if_pos (by omega), Nat.add_sub_cancel] at this

/-- The attempt has ended in a lost arbitration, and the LIU follows `rx` (R137). -/
def State.lostTo (s : State) (rx : Option Receive) : State := s.setLiu { s.liu with attempt := none, rx := rx }

/-- The LIU that has lost arbitration in the field hears the frames that go on from what it has read (R137). -/
theorem State.hears_lostTo {s : State} (hp : s.power.phase = .running) (hl : s.liu.line = .busy)
    (hu : s.liu.pulse = none) (rx : Receive) (raw : RawFrame) : (s.lostTo (some rx)).hears raw = rx.continuedBy raw := by
  simp [State.hears, State.lostTo, State.setLiu, hp, hl, hu]

theorem exec_arbitrationLost_mark {s : State} {a : Attempt} (hp : s.power.phase = .running)
    (ha : s.liu.attempt = some a) : exec (.arbitrationLost .mark) s = .next (s.lostTo none) := by
  simp only [exec, execArbitrationLost]
  rw [whenRunning_running hp]
  simp only [ha]
  rfl

theorem exec_arbitrationLost_field {s : State} {a : Attempt} (hp : s.power.phase = .running)
    (ha : s.liu.attempt = some a) {bit : Fin 16} (hb : (fieldBits a.bytes)[bit.val]? = some true) :
    exec (.arbitrationLost (.field bit)) s = .next (s.lostTo (some (readBack a.bytes bit))) := by
  simp only [exec, execArbitrationLost]
  rw [whenRunning_running hp]
  simp [ha, hb, State.lostTo]

/-- What the extra field and the code of a notice are, kind by kind (R155, R157). -/
theorem NoticeBody.codes (b : NoticeBody) {x6 x7 : Byte} (hx : b.extra = [x6, x7]) :
    (∀ w, b = .granted w → b.code = 0 ∧ x6 = w.extractLsb' 8 8 ∧ x7 = w.extractLsb' 0 8) ∧
    (∀ k, (b, k) ∈ [(NoticeBody.lapsed, (1 : BitVec 4)), (.cleared, 2), (.forced, 3), (.flushed, 4),
      (.overdue, 5), (.stalled, 6)] → b.code = k ∧ x6 = 0 ∧ x7 = 0) ∧
    (∀ cell reason, b = .intrusion cell reason → b.code = 7 ∧ x6.toNat = cell.val ∧
      (reason, x7) ∈ [(IntrusionReason.occupiedFree, 0), (.early, 1), (.skip, 2), (.blindRoute, 3)]) ∧
    (∀ cell, b = .locked cell → b.code = 8 ∧ x6.toNat = cell.val ∧ x7 = 0xFF) ∧
    ∀ mode drained causes, b = .mode mode drained causes → b.code = 9 ∧
      x6.getLsbD 7 = drained ∧ (mode, (x6.setWidth 7).toNat) ∈ [(Mode.unmapped, 0), (.service, 1),
        (.settling, 2), (.running, 3), (.draining, 4), (.halted, 5)] ∧
      x7 = (0 : BitVec 4) ++ BitVec.ofBool causes.signalFault ++ BitVec.ofBool causes.lineStuck ++
        BitVec.ofBool causes.estop ++ BitVec.ofBool causes.haltPulse := by
  refine ⟨fun w h => ?_, fun k h => ?_, fun cell reason h => ?_, fun cell h => ?_, fun mode drained causes h => ?_⟩
  · subst h
    cases hx
    exact ⟨rfl, rfl, rfl⟩
  · simp only [List.mem_cons, Prod.mk.injEq, List.not_mem_nil, or_false] at h
    rcases h with ⟨rfl, rfl⟩ | ⟨rfl, rfl⟩ | ⟨rfl, rfl⟩ | ⟨rfl, rfl⟩ | ⟨rfl, rfl⟩ | ⟨rfl, rfl⟩ <;>
      (cases hx; exact ⟨rfl, rfl, rfl⟩)
  · subst h
    cases hx
    exact ⟨rfl, byteOf_toNat (by omega), by cases reason <;> simp [IntrusionReason.code]⟩
  · subst h
    cases hx
    exact ⟨rfl, byteOf_toNat (by omega), rfl⟩
  · subst h
    cases hx
    refine ⟨rfl, by cases mode <;> cases drained <;> rfl, by cases mode <;> cases drained <;> decide, ?_⟩
    obtain ⟨h, e, l, f⟩ := causes
    cases h <;> cases e <;> cases l <;> cases f <;> rfl

/-- Settles O34: the frame is formed as the mark is driven, and what is read back of it at a lost arbitration is the
beginning of the winner's frame. -/
theorem noticeAttempt : Obligations.NoticeAttempt := by
  refine ⟨fun s hp => ⟨fun f hf hl hu hm => ?_, exec_noticeFrameStart_elsewhere hp⟩,
    fun s a hp ha hl hu => ⟨?_, fun header address rest bit hbytes hbit => ?_⟩⟩
  · obtain ⟨x6, x7, hx⟩ := f.notice.body.extra_eq_pair
    obtain ⟨granted, plain, intrusion, locked, mode⟩ := f.notice.body.codes hx
    refine ⟨_, f.notice.body.code, slotByte (f.notice.passage.map Prod.fst),
      ((f.notice.passage.map Prod.snd).getD 0).extractLsb' 8 8,
      ((f.notice.passage.map Prod.snd).getD 0).extractLsb' 0 8, x6, x7, exec_noticeFrameStart hp hf hl hu hm,
      s.noticeFrame_eq f _ hx, fun hnone => ?_, fun p carrier hsome => ?_, granted, plain, intrusion, locked, mode⟩
    · rw [hnone]
      exact ⟨rfl, rfl, rfl⟩
    · rw [hsome]
      exact ⟨byteOf_toNat (by omega), rfl, rfl⟩
  · exact ⟨s.lostTo none, exec_arbitrationLost_mark hp ha, rfl,
      fun c f hf => exec_unheard hf (State.hears_unfollowed (s := s.lostTo none) hl rfl _)⟩
  · have sent : (fieldBits a.bytes)[bit.val]? = some true := by
      rw [hbytes, fieldBits_getElem? _ _ _ bit.isLt, hbit]
    refine ⟨s.lostTo (some (readBack a.bytes bit)), _, exec_arbitrationLost_field hp ha sent, rfl,
      fun c f x y other hf hother => ?_⟩
    have own : (s.lostTo (some (readBack a.bytes bit))).liu.own = s.liu.own := rfl
    rw [State.hearsFrame, State.hears_lostTo hp hl hu, own, hother, hbytes]
    exact readBack_continuedBy_iff header address x y rest other bit

end Sys2Proof.Machine

namespace Sys2Proof.Machine

/-! ### The serialisation of the map and its CRC -/

/-- Behind a front of known length, a list reads as what follows it. -/
theorem slice_append {α : Type} {front : List α} {k : Nat} (h : front.length = k) (rest : List α) (i n : Nat) :
    ((front ++ rest).drop (k + i)).take n = (rest.drop i).take n := by
  rw [← h, List.drop_append, List.drop_eq_nil_of_le (by omega), List.nil_append, Nat.add_sub_cancel_left]

/-- In a table whose entries have `n` bytes each, the bytes of an entry stand `n` times its index from the front. -/
theorem slice_flatMap {α β : Type} {g : α → List β} {n : Nat} (hg : ∀ x, (g x).length = n) (l : List α) (rest : List β)
    (k : Nat) {x : α} (hx : l[k]? = some x) : ((l.flatMap g ++ rest).drop (n * k)).take n = g x := by
  induction l generalizing k with
  | nil => simp at hx
  | cons y tail ih =>
    rw [List.flatMap_cons, List.append_assoc]
    cases k with
    | zero =>
      cases hx
      rw [Nat.mul_zero, List.drop_zero, List.take_append_of_le_length (by rw [hg]), List.take_of_length_le (by rw [hg])]
    | succ k =>
      rw [show n * (k + 1) = n + n * k by rw [Nat.mul_succ, Nat.add_comm], slice_append (hg y)]
      exact ih k hx

theorem length_flatMap_of_length {α β : Type} {g : α → List β} {n : Nat} (hg : ∀ x, (g x).length = n) (l : List α) :
    (l.flatMap g).length = n * l.length := by
  induction l with
  | nil => simp
  | cons y tail ih => rw [List.flatMap_cons, List.length_append, hg, ih, List.length_cons, Nat.mul_succ, Nat.add_comm]

theorem Options.bytes_length (o : Options) : o.bytes.length = 7 := rfl
theorem CellEntry.bytes_length (e : CellEntry) : e.bytes.length = 4 := rfl
theorem ApproachEntry.bytes_length (e : ApproachEntry) : e.bytes.length = 4 := rfl
theorem MasterEntry.bytes_length (e : MasterEntry) : e.bytes.length = 4 := rfl
theorem RouteEntry.bytes_length (e : RouteEntry) : e.bytes.length = 12 := by simp [RouteEntry.bytes]

/-- The two bytes of a number, most significant first (R152). -/
theorem word16Of_eq (n : Nat) : word16Of n = [BitVec.ofNat 8 (n / 256), BitVec.ofNat 8 n] := by
  have high : (BitVec.ofNat 16 n).extractLsb' 8 8 = BitVec.ofNat 8 (n / 256) := by
    apply BitVec.eq_of_toNat_eq
    simp only [BitVec.extractLsb'_toNat, BitVec.toNat_ofNat, Nat.shiftRight_eq_div_pow]
    omega
  have low : (BitVec.ofNat 16 n).extractLsb' 0 8 = BitVec.ofNat 8 n := by
    apply BitVec.eq_of_toNat_eq
    simp only [BitVec.extractLsb'_toNat, BitVec.toNat_ofNat, Nat.shiftRight_zero]
    omega
  rw [word16Of, bytes16, high, low]

section
variable (m : WorkingMap)

/-- The tables of the map in the order of their serialisation (R156). -/
theorem WorkingMap.bytes_eq : m.bytes = m.options.bytes ++ (m.cells.toList.flatMap CellEntry.bytes ++
    (m.approaches.toList.flatMap ApproachEntry.bytes ++ (m.routes.toList.flatMap RouteEntry.bytes ++
      (m.masters.toList.flatMap MasterEntry.bytes ++ [])))) := by
  simp only [WorkingMap.bytes, List.append_assoc, List.append_nil]

theorem WorkingMap.cellBytes_length : (m.cells.toList.flatMap CellEntry.bytes).length = 128 := by
  rw [length_flatMap_of_length CellEntry.bytes_length, Vector.length_toList]

theorem WorkingMap.approachBytes_length : (m.approaches.toList.flatMap ApproachEntry.bytes).length = 32 := by
  rw [length_flatMap_of_length ApproachEntry.bytes_length, Vector.length_toList]

theorem WorkingMap.routeBytes_length : (m.routes.toList.flatMap RouteEntry.bytes).length = 576 := by
  rw [length_flatMap_of_length RouteEntry.bytes_length, Vector.length_toList]

theorem WorkingMap.masterBytes_length : (m.masters.toList.flatMap MasterEntry.bytes).length = 24 := by
  rw [length_flatMap_of_length MasterEntry.bytes_length, Vector.length_toList]

/-- The serialisation has 767 bytes (R13). -/
theorem WorkingMap.bytes_length : m.bytes.length = 767 := by
  rw [m.bytes_eq]
  simp only [List.length_append, m.cellBytes_length, m.approachBytes_length, m.routeBytes_length,
    m.masterBytes_length, Options.bytes_length, List.length_nil]

theorem WorkingMap.bytes_options : (m.bytes.drop 0).take 7 = m.options.bytes := by
  rw [m.bytes_eq, List.drop_zero, List.take_append_of_le_length (by rw [Options.bytes_length]),
    List.take_of_length_le (by rw [Options.bytes_length])]

theorem WorkingMap.bytes_cell (c : CellId) : (m.bytes.drop (7 + 4 * c.val)).take 4 = m.cells[c].bytes := by
  rw [m.bytes_eq, slice_append m.options.bytes_length]
  exact slice_flatMap CellEntry.bytes_length _ _ _ (by simp)

theorem WorkingMap.bytes_approach (a : ApproachId) :
    (m.bytes.drop (135 + 4 * a.val)).take 4 = m.approaches[a].bytes := by
  rw [m.bytes_eq, show 135 + 4 * a.val = 7 + (128 + 4 * a.val) by omega, slice_append m.options.bytes_length,
    slice_append m.cellBytes_length]
  exact slice_flatMap ApproachEntry.bytes_length _ _ _ (by simp)

theorem WorkingMap.bytes_route (r : RouteId) : (m.bytes.drop (167 + 12 * r.val)).take 12 = m.routes[r].bytes := by
  rw [m.bytes_eq, show 167 + 12 * r.val = 7 + (128 + (32 + 12 * r.val)) by omega,
    slice_append m.options.bytes_length, slice_append m.cellBytes_length, slice_append m.approachBytes_length]
  exact slice_flatMap RouteEntry.bytes_length _ _ _ (by simp)

theorem WorkingMap.bytes_master (k : MasterSlot) :
    (m.bytes.drop (743 + 4 * k.val)).take 4 = m.masters[k].bytes := by
  rw [m.bytes_eq, show 743 + 4 * k.val = 7 + (128 + (32 + (576 + 4 * k.val))) by omega,
    slice_append m.options.bytes_length, slice_append m.cellBytes_length, slice_append m.approachBytes_length,
    slice_append m.routeBytes_length]
  exact slice_flatMap MasterEntry.bytes_length _ _ _ (by simp)

end

/-- The bits of a byte are fed most significant first (R14, R134). -/
theorem bitsOf_eq_map (b : Byte) : bitsOf b = (List.range 8).map b.getMsbD := by
  simp [bitsOf, BitVec.getMsbD, List.range_succ]

/-- A CRC over bytes is one over their bits (R14, R134). -/
theorem crcOver_eq_foldl_bits {w : Nat} (generator preset : BitVec w) (bytes : List Byte) :
    crcOver generator preset bytes =
      (bytes.flatMap fun b => (List.range 8).map b.getMsbD).foldl (crcBit generator) preset := by
  simp only [crcOver, bitsOf_eq_map, List.foldl_flatMap]

/-- The serialisation of a map, table by table, and its CRC (R13, R14, R156). -/
theorem WorkingMap.serialisation (m : WorkingMap) : ∃ bytes : List Byte, bytes.length = 767 ∧
    let byte := fun n : Nat => BitVec.ofNat 8 n
    let flag := fun b : Bool => if b then (1 : Byte) else 0
    let slice := fun start length : Nat => (bytes.drop start).take length
    let o := m.options
    slice 0 7 = [byte o.tick, byte o.divider, byte o.depth, byte o.dwell, byte o.skipLimit, o.tag.extractLsb' 8 8,
      o.tag.extractLsb' 0 8] ∧
    (∀ c : CellId, let e := m.cells[c]
      slice (7 + 4 * c.val) 4 = [flag e.inUse, byte (e.length / 256), byte e.length,
        if e.sensor = .standby then 1 else 0]) ∧
    (∀ a : ApproachId, let e := m.approaches[a]
      slice (135 + 4 * a.val) 4 = [flag e.inUse, byte (e.distance / 256), byte e.distance, byte e.limit]) ∧
    (∀ r : RouteId, let e := m.routes[r]
      slice (167 + 12 * r.val) 4 = [flag e.inUse, byte e.approach.val, byte e.speed, byte e.count] ∧
      ∀ i : Fin 8, bytes[167 + 12 * r.val + 4 + i.val]? = some (cellByte e.list[i])) ∧
    (∀ k : MasterSlot, let e := m.masters[k]
      slice (743 + 4 * k.val) 4 = [flag e.inUse, byte e.node.val, if e.role = .safety then 1 else 0,
        if e.option = .keepNewest then 1 else 0]) ∧
    m.crc = (bytes.flatMap fun b => (List.range 8).map b.getMsbD).foldl
      (fun (r : BitVec 16) b => if r.msb = b then r <<< 1 else (r <<< 1) ^^^ 0x1021) 0xFFFF := by
  refine ⟨m.bytes, m.bytes_length, m.bytes_options, fun c => ?_, fun a => ?_, fun r => ⟨?_, fun i => ?_⟩, fun k => ?_,
    crcOver_eq_foldl_bits ..⟩
  · have sensor : m.cells[c].sensor.code = if m.cells[c].sensor = .standby then 1 else 0 := by
      cases m.cells[c].sensor <;> rfl
    refine (m.bytes_cell c).trans ?_
    rw [CellEntry.bytes, word16Of_eq, sensor]
    rfl
  · refine (m.bytes_approach a).trans ?_
    rw [ApproachEntry.bytes, word16Of_eq]
    rfl
  · have first := congrArg (List.take 4) (m.bytes_route r)
    rw [List.take_take] at first
    exact first
  · have at12 : (m.bytes.drop (167 + 12 * r.val))[4 + i.val]? = m.routes[r].bytes[4 + i.val]? := by
      rw [← m.bytes_route r, List.getElem?_take_of_lt (by omega)]
    rw [List.getElem?_drop, ← Nat.add_assoc] at at12
    rw [at12, RouteEntry.bytes, List.getElem?_append_right (by simp)]
    simp
  · have role : m.masters[k].role.code = if m.masters[k].role = .safety then 1 else 0 := by
      cases m.masters[k].role <;> rfl
    have option : m.masters[k].option.code = if m.masters[k].option = .keepNewest then 1 else 0 := by
      cases m.masters[k].option <;> rfl
    refine (m.bytes_master k).trans ?_
    rw [MasterEntry.bytes, role, option]
    rfl

end Sys2Proof.Machine

namespace Sys2Proof.Machine

/-! ### Selections and postings -/

/-! #### What a selection takes -/

/-- A selection takes the head of the next slot (R161). -/
theorem State.NextSlot.selected {s : State} {k : MasterSlot} {n : Notice} (h : s.NextSlot k)
    (hn : s.notices.fifos[k].queue.head? = some n) : s.selected = some { slot := k, notice := n } := by
  obtain ⟨⟨-, free⟩, nearest⟩ := h
  rw [State.selected, State.searchOrder, List.findSome?_map]
  refine findSome?_eq_of_first (r := k - s.notices.pointer) ?_ fun x hx => ?_
  · obtain ⟨rest, hq⟩ := List.head?_eq_some_iff.1 hn
    have notShifter : s.shifterSlot ≠ some k := by simpa [State.shifterSlot] using free
    simp only [Function.comp_apply, add_sub_cancel, hq, notShifter, if_false]
  · have skipped : ¬ s.MayTake (s.notices.pointer + x) := fun may => by
      have := nearest _ may
      rw [add_sub_cancel_left] at this
      exact absurd hx (not_lt.2 this)
    simp only [Function.comp_apply]
    split
    · rfl
    · rename_i hq
      have nonempty : s.notices.fifos[s.notices.pointer + x].queue ≠ [] := by rw [hq]; exact List.cons_ne_nil _ _
      refine if_pos (Classical.not_not.1 fun notShifter => skipped ⟨nonempty, fun f hf hk => notShifter ?_⟩)
      rw [State.shifterSlot, hf, Option.map_some, hk]

/-- With no slot to take, a selection finds nothing (R161). -/
theorem State.selected_eq_none {s : State} (h : ∀ k, ¬ s.MayTake k) : s.selected = none := by
  refine Option.eq_none_iff_forall_ne_some.2 fun f hf => h f.slot ?_
  obtain ⟨hhead, free⟩ := State.selected_some hf
  exact ⟨fun empty => by rw [empty, List.head?_nil] at hhead; simp at hhead, free⟩

theorem State.selects_select (s : State) : Selects s s.select := by
  refine ⟨fun k n hk hn => ⟨fun empty => ?_, fun full empty => ?_⟩, ?_⟩
  · exact State.select_shifter empty (hk.selected hn)
  · obtain ⟨g, hg⟩ := Option.ne_none_iff_exists'.1 full
    exact State.select_staged hg empty (hk.selected hn)
  · rintro (none | ⟨hs, ht⟩)
    · exact State.select_nothing (State.selected_eq_none none)
    · obtain ⟨g, hg⟩ := Option.ne_none_iff_exists'.1 hs
      obtain ⟨f, hf⟩ := Option.ne_none_iff_exists'.1 ht
      exact State.select_full hg hf

/-- With a frame in the shifter, one selection fills what can be filled (R161). -/
theorem State.select_select {s : State} (hs : s.liu.shifter ≠ none) : s.select.select = s.select := by
  obtain ⟨g, hg⟩ := Option.ne_none_iff_exists'.1 hs
  cases ht : s.liu.staged with
  | some f => rw [State.select_full hg ht, State.select_full hg ht]
  | none =>
    cases hf : s.selected with
    | none => rw [State.select_nothing hf, State.select_nothing hf]
    | some f => rw [State.select_staged hg ht hf]; exact State.select_full hg rfl

theorem State.promote_of_shifter {s : State} (hs : s.liu.shifter ≠ none) : s.promote = s := by
  obtain ⟨g, hg⟩ := Option.ne_none_iff_exists'.1 hs
  simp [State.promote, hg]

theorem State.promote_of_staged {s : State} {f : TxFrame} (hs : s.liu.shifter = none) (ht : s.liu.staged = some f) :
    s.promote =
      { s with
        liu := { s.liu with shifter := some f, staged := none, attempt := none }
        notices := { s.notices with attempts := 0, lateLoss := false } } := by
  simp [State.promote, hs, ht]

theorem State.promote_of_empty {s : State} (ht : s.liu.staged = none) : s.promote = s := by
  unfold State.promote
  split <;> simp_all

/-- The model fills the places as log entry 27 says. -/
theorem State.refills_refill (s : State) : Refills s s.refill := by
  refine ⟨fun full => ?_, fun empty f hf => ?_, fun empty hf => ?_⟩
  · rw [State.refill, State.promote_of_shifter full, State.select_select full]
    exact s.selects_select
  · rw [State.refill, State.promote_of_staged empty hf, State.select_select (by simp)]
    exact State.selects_select _
  · rw [State.refill, State.promote_of_empty hf]
    exact ⟨_, s.selects_select, State.selects_select _⟩

/-! #### What a posting does, case by case -/

/-- With a frame of this slot in the shifter, the late-loss mark is set (R160). -/
def State.markLate (s : State) (k : MasterSlot) : State :=
  if s.shifterSlot = some k then { s with notices := { s.notices with lateLoss := true } } else s

/-- A frame of this slot leaves the staged buffer, unless the slot has its frame in the shifter (R160). -/
def State.unstage (s : State) (k : MasterSlot) : State :=
  if s.shifterSlot ≠ some k ∧ s.liu.staged.map TxFrame.slot = some k then s.setLiu { s.liu with staged := none } else s

/-- What KEEP_NEWEST leaves of a full FIFO for the newcomer (R160). -/
def State.kept (s : State) (k : MasterSlot) : List Notice :=
  let queue := s.notices.fifos[k].queue
  if s.shifterSlot = some k then queue.take 1 ++ queue.drop 2 else queue.drop 1

section
variable {s : State} {k : MasterSlot}

theorem State.enqueue_of_unused (h : s.map.enrolment[k].inUse = false) (n : Notice) : s.enqueue k n = s := by
  simp only [State.enqueue, h, Bool.not_false, if_true]

theorem State.enqueue_of_room (h : s.map.enrolment[k].inUse = true)
    (hroom : s.notices.fifos[k].queue.length < Config.fifoDepth) (n : Notice) :
    s.enqueue k n =
      (s.setFifo k { s.notices.fifos[k] with queue := s.notices.fifos[k].queue ++ [n] }).refill := by
  simp only [State.enqueue, h, Bool.not_true, Bool.false_eq_true, if_false, hroom, if_true]

theorem State.markLate_map : (s.markLate k).map = s.map := by
  unfold State.markLate
  split <;> rfl

theorem State.enqueue_of_keepOldest (h : s.map.enrolment[k].inUse = true)
    (hfull : ¬ s.notices.fifos[k].queue.length < Config.fifoDepth) (ho : s.map.enrolment[k].option = .keepOldest)
    (n : Notice) : s.enqueue k n = (s.markLate k).setFifo k { s.notices.fifos[k] with lost := true } := by
  have ho : (s.markLate k).map.enrolment[k].option = .keepOldest := by rw [State.markLate_map, ho]
  simp only [State.enqueue, h, Bool.not_true, Bool.false_eq_true, if_false, hfull]
  simp only [State.markLate] at ho ⊢
  simp only [ho]

theorem State.enqueue_of_keepNewest (h : s.map.enrolment[k].inUse = true)
    (hfull : ¬ s.notices.fifos[k].queue.length < Config.fifoDepth) (ho : s.map.enrolment[k].option = .keepNewest)
    (n : Notice) :
    s.enqueue k n =
      (((s.markLate k).setFifo k { queue := s.kept k ++ [n], lost := true }).unstage k).refill := by
  have slot : ∀ late fifo, (({ s with notices := { s.notices with lateLoss := late } } : State).setFifo k fifo).shifterSlot =
      s.shifterSlot := fun _ _ => rfl
  have slot' : ∀ fifo, (s.setFifo k fifo).shifterSlot = s.shifterSlot := fun _ => rfl
  simp only [State.enqueue, h, Bool.not_true, Bool.false_eq_true, if_false, hfull]
  by_cases hin : s.shifterSlot = some k
  · simp [State.markLate, State.kept, State.unstage, hin, slot, ho, -Fin.getElem_fin]
  · simp [State.markLate, State.kept, State.unstage, hin, slot', ho, -Fin.getElem_fin]

end

/-! #### What a posting reads and writes -/

/-- Two states agree in the map, the LIU and the Notice Unit, which is all that a posting reads or writes. -/
def SameTx (s t : State) : Prop := t.liu = s.liu ∧ t.notices = s.notices ∧ t.map = s.map

section
variable {s t : State}

theorem SameTx.shifterSlot (h : SameTx s t) : t.shifterSlot = s.shifterSlot := by
  obtain ⟨hl, -, -⟩ := h
  rw [State.shifterSlot, State.shifterSlot, hl]

theorem SameTx.selected (h : SameTx s t) : t.selected = s.selected := by
  rw [State.selected, State.selected, h.shifterSlot, State.searchOrder, State.searchOrder]
  obtain ⟨-, hn, -⟩ := h
  rw [hn]

theorem SameTx.select (h : SameTx s t) : SameTx s.select t.select := by
  have same := h.selected
  obtain ⟨hl, hn, hm⟩ := h
  unfold State.select
  rw [same, hl, hn]
  split
  · exact ⟨rfl, rfl, hm⟩
  · exact ⟨rfl, rfl, hm⟩
  · exact ⟨hl, hn, hm⟩

theorem SameTx.promote (h : SameTx s t) : SameTx s.promote t.promote := by
  obtain ⟨hl, hn, hm⟩ := h
  unfold State.promote
  rw [hl, hn]
  split
  · exact ⟨rfl, rfl, hm⟩
  · exact ⟨hl, hn, hm⟩

theorem SameTx.refill (h : SameTx s t) : SameTx s.refill t.refill := h.promote.select.select

theorem SameTx.setFifo (h : SameTx s t) (k : MasterSlot) (f : Fifo) : SameTx (s.setFifo k f) (t.setFifo k f) := by
  obtain ⟨hl, hn, hm⟩ := h
  exact ⟨hl, congrArg (fun n : NoticeUnit => { n with fifos := n.fifos.set k f }) hn, hm⟩

theorem SameTx.setStaged (h : SameTx s t) (f : Option TxFrame) :
    SameTx (s.setLiu { s.liu with staged := f }) (t.setLiu { t.liu with staged := f }) := by
  obtain ⟨hl, hn, hm⟩ := h
  exact ⟨congrArg (fun l : Liu => { l with staged := f }) hl, hn, hm⟩

theorem SameTx.markLate (h : SameTx s t) (k : MasterSlot) : SameTx (s.markLate k) (t.markLate k) := by
  have slot := h.shifterSlot
  obtain ⟨hl, hn, hm⟩ := h
  unfold State.markLate
  rw [slot]
  split
  · exact ⟨hl, congrArg (fun n : NoticeUnit => { n with lateLoss := true }) hn, hm⟩
  · exact ⟨hl, hn, hm⟩

theorem SameTx.unstage (h : SameTx s t) (k : MasterSlot) : SameTx (s.unstage k) (t.unstage k) := by
  unfold State.unstage
  rw [h.shifterSlot, h.1]
  split
  · have unstaged := h.setStaged none
    rwa [h.1] at unstaged
  · exact h

theorem SameTx.kept (h : SameTx s t) (k : MasterSlot) : t.kept k = s.kept k := by
  rw [State.kept, State.kept, h.shifterSlot, h.2.1]

theorem SameTx.enqueue (h : SameTx s t) (k : MasterSlot) (n : Notice) : SameTx (s.enqueue k n) (t.enqueue k n) := by
  obtain ⟨-, hn, hm⟩ := id h
  cases hu : s.map.enrolment[k].inUse with
  | false => rwa [State.enqueue_of_unused hu, State.enqueue_of_unused (hm ▸ hu)]
  | true =>
    by_cases hroom : s.notices.fifos[k].queue.length < Config.fifoDepth
    · rw [State.enqueue_of_room hu hroom, State.enqueue_of_room (hm ▸ hu) (hn ▸ hroom), hn]
      exact (h.setFifo k _).refill
    · cases ho : s.map.enrolment[k].option with
      | keepOldest =>
        rw [State.enqueue_of_keepOldest hu hroom ho, State.enqueue_of_keepOldest (hm ▸ hu) (hn ▸ hroom) (hm ▸ ho), hn]
        exact (h.markLate k).setFifo k _
      | keepNewest =>
        rw [State.enqueue_of_keepNewest hu hroom ho, State.enqueue_of_keepNewest (hm ▸ hu) (hn ▸ hroom) (hm ▸ ho),
          h.kept k]
        exact (((h.markLate k).setFifo k _).unstage k).refill

theorem SameTx.enqueueAll (h : SameTx s t) (l : List (MasterSlot × Notice)) :
    SameTx (l.foldl (fun u x => u.enqueue x.1 x.2) s) (l.foldl (fun u x => u.enqueue x.1 x.2) t) := by
  induction l generalizing s t with
  | nil => exact h
  | cons x rest ih => exact ih (h.enqueue x.1 x.2)

end

/-! #### The FIFOs behind a posting -/

section
variable (s : State) (k : MasterSlot) (n : Notice)

theorem State.select_fifos : s.select.notices.fifos = s.notices.fifos := by
  unfold State.select
  split <;> rfl

theorem State.promote_fifos : s.promote.notices.fifos = s.notices.fifos := by
  unfold State.promote
  split <;> rfl

theorem State.refill_fifos : s.refill.notices.fifos = s.notices.fifos := by
  rw [State.refill, State.select_fifos, State.select_fifos, State.promote_fifos]

theorem State.markLate_fifos : (s.markLate k).notices.fifos = s.notices.fifos := by
  unfold State.markLate
  split <;> rfl

theorem State.unstage_notices : (s.unstage k).notices = s.notices := by
  unfold State.unstage
  split <;> rfl

/-- A posting to another slot leaves a FIFO alone (R160). -/
theorem State.enqueue_fifo_of_ne {j : MasterSlot} (h : k ≠ j) :
    (s.enqueue k n).notices.fifos[j] = s.notices.fifos[j] := by
  cases hu : s.map.enrolment[k].inUse with
  | false => rw [State.enqueue_of_unused hu]
  | true =>
    by_cases hroom : s.notices.fifos[k].queue.length < Config.fifoDepth
    · rw [State.enqueue_of_room hu hroom, State.refill_fifos, State.fifo_setFifo, if_neg h]
    · cases ho : s.map.enrolment[k].option with
      | keepOldest =>
        rw [State.enqueue_of_keepOldest hu hroom ho, State.fifo_setFifo, if_neg h, State.markLate_fifos]
      | keepNewest =>
        rw [State.enqueue_of_keepNewest hu hroom ho, State.refill_fifos, State.unstage_notices, State.fifo_setFifo,
          if_neg h, State.markLate_fifos]

/-- A posting to slots other than this one leaves its FIFO alone. -/
theorem State.postTo_fifo_of_notMem {l : List MasterSlot} (h : k ∉ l) :
    (s.postTo l n).notices.fifos[k] = s.notices.fifos[k] := by
  induction l generalizing s with
  | nil => rfl
  | cons j rest ih =>
    obtain ⟨hj, hrest⟩ := not_or.1 fun e => h (List.mem_cons.2 e)
    exact (ih _ hrest).trans (s.enqueue_fifo_of_ne j n (Ne.symm hj))

/-- A slot not in use gets no copy (R159). -/
theorem State.postTo_fifo_of_unused (hu : s.map.enrolment[k].inUse = false) (l : List MasterSlot) :
    (s.postTo l n).notices.fifos[k] = s.notices.fifos[k] := by
  induction l generalizing s with
  | nil => rfl
  | cons j rest ih =>
    have rest_eq := ih (s.enqueue j n) (by rwa [(s.enqueue_keepsBook j n).1.map])
    refine rest_eq.trans ?_
    by_cases hj : j = k
    · subst hj
      rw [State.enqueue_of_unused hu]
    · exact s.enqueue_fifo_of_ne j n hj

/-- A notice posted to several slots joins the tail of each FIFO in use that has room (R159, R160). -/
theorem State.postTo_fifo_of_room (hu : s.map.enrolment[k].inUse = true)
    (hroom : s.notices.fifos[k].queue.length < Config.fifoDepth) {l : List MasterSlot} (hl : l.Nodup) (hk : k ∈ l) :
    (s.postTo l n).notices.fifos[k] = { s.notices.fifos[k] with queue := s.notices.fifos[k].queue ++ [n] } := by
  induction l generalizing s with
  | nil => cases hk
  | cons j rest ih =>
    obtain ⟨hj, hrest⟩ := List.nodup_cons.1 hl
    by_cases e : j = k
    · subst e
      refine ((s.enqueue j n).postTo_fifo_of_notMem j n hj).trans ?_
      rw [State.enqueue_of_room hu hroom, State.refill_fifos, State.fifo_setFifo, if_pos rfl]
    · have other := s.enqueue_fifo_of_ne j n e
      have rest_eq := ih (s.enqueue j n) (by rwa [(s.enqueue_keepsBook j n).1.map]) (by rwa [other]) hrest
        ((List.mem_cons.1 hk).resolve_left (Ne.symm e))
      rw [other] at rest_eq
      exact rest_eq

end

end Sys2Proof.Machine

namespace Sys2Proof.Machine

/-! ### The effects of a commit (R15) -/

/-! #### The state that a commit sets up -/

/-- The first six effects of a commit: all but the entry into SETTLING (R15). -/
def State.committed (s : State) : State := s.identified.enrolled.setUpSensors

theorem State.commit_eq_enterSettling (s : State) : s.commit = s.committed.enterSettling := s.commit_eq

/-- A slot is changed if its use, its node or its role differs (R15, step 4). -/
theorem State.slotChanged_iff {s : State} {k : MasterSlot} :
    s.slotChanged k = true ↔ s.map.working.masters[k].inUse ≠ s.map.enrolment[k].inUse ∨
      s.map.working.masters[k].node ≠ s.map.enrolment[k].node ∨
      s.map.working.masters[k].role ≠ s.map.enrolment[k].role := by
  simp only [State.slotChanged, Bool.or_eq_true, decide_eq_true_eq, or_assoc]

section
variable (s : State)

/-- Clearing the changed slots leaves all but the Notice Unit and the transmit side alone. -/
theorem State.identified_clear_keepsBook : KeepsBook s.identified s.identified.clearChangedSlots :=
  s.identified.clearChangedSlots_keepsBook

theorem State.committed_map :
    s.committed.map =
      { working := s.map.working, tag := s.map.working.options.tag, crc := s.map.working.crc
        enrolment := s.map.working.masters } := by
  unfold State.committed State.setUpSensors State.enrolled State.withMap State.identified
  dsimp only

theorem State.committed_notices : s.committed.notices = s.identified.clearChangedSlots.notices := rfl
theorem State.committed_liu : s.committed.liu = s.identified.clearChangedSlots.liu := rfl

theorem State.committed_decoder : s.committed.decoder = { s.decoder with service := none } :=
  congrArg (fun d : Decoder => { d with service := none }) s.identified_clear_keepsBook.1.decoder

theorem State.committed_control : s.committed.control = s.control := s.identified_clear_keepsBook.1.control
theorem State.committed_timer : s.committed.timer = s.timer := s.identified_clear_keepsBook.1.timer
theorem State.committed_power : s.committed.power = s.power := s.identified_clear_keepsBook.1.power
theorem State.committed_pending : s.committed.pending = s.pending := s.identified_clear_keepsBook.1.pending

theorem State.committed_signals : s.committed.signals = s.signals := by
  obtain ⟨-, -, -, signals⟩ := s.identified_clear_keepsBook
  exact signals

theorem State.committed_error : s.committed.liu.error = s.liu.error :=
  congrArg OuterLiu.error s.identified_clear_keepsBook.1.liu

theorem State.committed_pool : s.committed.book.pool = s.book.pool := by
  obtain ⟨-, book, -, -⟩ := s.identified_clear_keepsBook
  have before : s.committed.book.pool = s.identified.clearChangedSlots.book.pool := by
    unfold State.committed State.setUpSensors State.enrolled State.withMap
    dsimp only
  rw [before, book, State.identified]

/-- The record of a cell after the commit has set the sensors up (R15, R103). -/
theorem State.committed_cell (c : CellId) :
    s.committed.cell c =
      { s.cell c with
        lock := .none
        intruded := false
        occupancy := if s.map.working.cells[c].inUse && s.map.working.cells[c].sensor = .standby then .blind else .free
        heard := if s.map.working.cells[c].inUse && s.map.working.cells[c].sensor = .standby then .blind else .free
        stamp := s.timer.floor } := by
  obtain ⟨keeps, book, -, -⟩ := s.identified_clear_keepsBook
  have before : s.identified.enrolled.cell c = { s.cell c with lock := .none, intruded := false } := by
    have cleared := State.cell_congr (congrArg Book.cells book) c
    refine Eq.trans (b := s.identified.clearChangedSlots.cell c) rfl (cleared.trans ?_)
    simp [State.identified, State.cell]
  have floor : s.identified.enrolled.timer.floor = s.timer.floor := congrArg Timer.floor keeps.timer
  have at_c : s.committed.cell c =
      { s.identified.enrolled.cell c with
        occupancy := if s.map.working.cells[c].inUse && s.map.working.cells[c].sensor = .standby then .blind else .free
        heard := if s.map.working.cells[c].inUse && s.map.working.cells[c].sensor = .standby then .blind else .free
        stamp := s.identified.enrolled.timer.floor } := by
    unfold State.committed State.setUpSensors State.cell
    dsimp only
    simp only [Fin.getElem_fin, Vector.getElem_ofFn]
    rfl
  rw [at_c, before, floor]

theorem State.committed_sensor (c : CellId) :
    s.committed.sensor c = { mode := s.map.working.cells[c].sensor, raw := .free, count := 0 } := by
  unfold State.committed State.setUpSensors State.sensor
  dsimp only
  simp only [Fin.getElem_fin, Vector.getElem_ofFn]
  rfl

end

/-! #### The entry into SETTLING with filters already reset -/

theorem State.setSensor_self (s : State) (c : CellId) : s.setSensor c (s.sensor c) = s := by
  simp [State.setSensor, State.sensor]

theorem State.setCell_self (s : State) (c : CellId) : s.setCell c (s.cell c) = s := by
  simp [State.setCell, State.cell]

/-- The filter of an ACTIVE cell stands as a restart leaves it, and the cell is FREE and heard as FREE (R101). -/
def State.FilterReset (s : State) (c : CellId) : Prop :=
  s.sensor c = { s.sensor c with raw := .free, count := 0 } ∧ (s.cell c).occupancy = .free ∧ (s.cell c).heard = .free

theorem State.FilterReset.restartFilter {s : State} {c : CellId} (h : s.FilterReset c) :
    (s.restartFilter c).1 = s := by
  obtain ⟨sensor, free, heard⟩ := h
  have cell : s.cell c = { s.cell c with occupancy := .free } := by rw [← free]
  have same : s.setSensor c { s.sensor c with raw := .free, count := 0 } = s := by
    rw [← sensor, s.setSensor_self]
  unfold State.restartFilter
  dsimp only
  rw [same]
  simp only [free, heard, if_true]
  simp only [heard] at cell
  rw [← cell, s.setCell_self]

/-- Filters that are all reset stay as they are (R102). -/
theorem State.restartFilters_of_reset {s : State}
    (h : ∀ c, s.cellInUse c = true → (s.sensor c).mode = .active → s.FilterReset c) : s.restartFilters = s := by
  unfold State.restartFilters
  refine List.foldl_fixed' (fun c => ?_) _
  split
  · rename_i hc
    simp only [Bool.and_eq_true, decide_eq_true_eq] at hc
    exact (h c hc.1 hc.2).restartFilter
  · rfl

theorem State.committed_restartFilters (s : State) : s.committed.restartFilters = s.committed := by
  refine State.restartFilters_of_reset fun c _ active => ?_
  rw [State.committed_sensor] at active
  rw [State.FilterReset, State.committed_sensor, State.committed_cell]
  have active : s.map.working.cells[c].sensor = .active := active
  simp only [active]
  simp

end Sys2Proof.Machine

namespace Sys2Proof.Machine

/-! #### A halt with every latch at STOP and the pool empty -/

/-- A halt writes neither the notices and their frames, nor the sensors and the cell records. -/
def KeepsCells (s t : State) : Prop := SameTx s t ∧ t.scanner = s.scanner ∧ t.book.cells = s.book.cells

theorem KeepsCells.rfl {s : State} : KeepsCells s s := ⟨⟨.refl _, .refl _, .refl _⟩, .refl _, .refl _⟩

theorem KeepsCells.trans {s t u : State} (h : KeepsCells s t) (k : KeepsCells t u) : KeepsCells s u := by
  obtain ⟨⟨liu, notices, map⟩, scanner, cells⟩ := h
  obtain ⟨⟨liu', notices', map'⟩, scanner', cells'⟩ := k
  exact ⟨⟨liu'.trans liu, notices'.trans notices, map'.trans map⟩, scanner'.trans scanner, cells'.trans cells⟩

theorem keepsCells_foldl {α : Type} {f : State → α → State} (h : ∀ s x, KeepsCells s (f s x)) (l : List α)
    (s : State) : KeepsCells s (l.foldl f s) := by
  induction l generalizing s with
  | nil => exact .rfl
  | cons x rest ih => exact (h s x).trans (ih _)

theorem State.setLatch_keepsCells (s : State) (a : ApproachId) (latch : Latch) :
    KeepsCells s (s.setLatch a latch) := by
  unfold State.setLatch
  dsimp only
  split
  · exact .rfl
  · split
    · split <;> exact ⟨⟨rfl, rfl, rfl⟩, rfl, rfl⟩
    · exact ⟨⟨rfl, rfl, rfl⟩, rfl, rfl⟩

theorem State.stopLatches_keepsCells (s : State) : KeepsCells s s.stopLatches :=
  keepsCells_foldl (fun s a => s.setLatch_keepsCells a .stop) _ s

/-- Latches that are all at STOP stay as they are (R106). -/
theorem State.stopLatches_of_stop {s : State} (h : ∀ a, (s.signal a).latch = .stop) : s.stopLatches = s := by
  unfold State.stopLatches
  refine List.foldl_fixed' (fun a => ?_) _
  rw [State.setLatch, if_pos (h a)]

theorem State.modLiveDeadlines_of_empty {s : State} (h : ∀ p, s.passage p = none) (f : Deadline → Deadline) :
    (s.modLiveDeadlines f).book.pool = s.book.pool := by
  refine Vector.ext fun i hi => ?_
  have before := h ⟨i, hi⟩
  have after := s.passage_modLiveDeadlines ⟨i, hi⟩ f
  rw [before] at after
  exact after.trans before.symm

theorem State.setLatch_of_empty {s : State} (h : ∀ p, s.passage p = none) (a : ApproachId) (latch : Latch) :
    (s.setLatch a latch).book.pool = s.book.pool := by
  unfold State.setLatch
  dsimp only
  split
  · rfl
  · split
    · split
      · rfl
      · rename_i p hp
        have mem : p ∈ _ := List.mem_of_mem_head? hp
        rw [State.slotsWhere, List.mem_filter] at mem
        have empty : ∀ r, (s.setSignal a r).passage p = none := fun _ => h p
        simp [empty] at mem
    · rfl

theorem State.stopLatches_of_empty {s : State} (h : ∀ p, s.passage p = none) :
    s.stopLatches.book.pool = s.book.pool := by
  have each : ∀ (l : List ApproachId) (s : State), (∀ p, s.passage p = none) →
      (l.foldl (fun s a => s.setLatch a .stop) s).book.pool = s.book.pool := by
    intro l
    induction l with
    | nil => intro s _; rfl
    | cons a rest ih =>
      intro s empty
      have same := State.setLatch_of_empty empty a .stop
      rw [List.foldl_cons, ih _ fun p => (State.passage_congr same p).trans (empty p), same]
  unfold State.stopLatches
  exact each _ s h

theorem State.setControl_keepsCells (s : State) (c : Control) : KeepsCells s (s.setControl c) :=
  ⟨⟨.refl _, .refl _, .refl _⟩, .refl _, .refl _⟩

section
variable (s : State) (prior : PriorMode) (causes : HaltCauses)

theorem State.halt_keepsCells : KeepsCells s (s.halt prior causes) := by
  unfold State.halt
  dsimp only
  refine KeepsCells.trans ?_ (State.stopLatches_keepsCells _)
  exact ⟨⟨by simp, by simp, by simp⟩, by simp, by simp⟩

theorem State.halt_signals_of_stop (h : ∀ a, (s.signal a).latch = .stop) :
    (s.halt prior causes).signals = s.signals := by
  unfold State.halt
  dsimp only
  have stop : ∀ (c : Control) (f : Deadline → Deadline) a,
      (((s.setControl c).modLiveDeadlines f).signal a).latch = .stop := fun c f a => by
    rw [State.signal_congr (s := s) (by simp)]
    exact h a
  rw [State.stopLatches_of_stop (stop _ _)]
  simp

theorem State.halt_pool_of_empty (h : ∀ p, s.passage p = none) : (s.halt prior causes).book.pool = s.book.pool := by
  unfold State.halt
  dsimp only
  have same : ∀ (c : Control) (f : Deadline → Deadline),
      ((s.setControl c).modLiveDeadlines f).book.pool = s.book.pool := fun c f =>
    State.modLiveDeadlines_of_empty (s := s.setControl c) h f
  rw [State.stopLatches_of_empty fun p => (State.passage_congr (same _ _) p).trans (h p), same]

end

/-! #### The entry into SETTLING before its MODE notice -/

/-- The halt causes held as SETTLING is entered (R120). -/
def State.heldCauses (s : State) : HaltCauses :=
  { s.control.causes with
    estop := s.control.causes.estop || s.control.emergency.asserted
    signalFault := s.control.causes.signalFault || s.anyFault }

/-- The mode is SETTLING, or HALTED with the held causes and prior mode SETTLING (R120). -/
def State.settled (s : State) : State :=
  let u := s.setControl { s.control with mode := .settling, causes := s.heldCauses, settleCount := 0, risesDue := 0 }
  if s.heldCauses.isEmpty then u else u.halt .settling s.heldCauses

theorem State.enterSettling_eq {s : State} (h : s.restartFilters = s) : s.enterSettling = s.settled.postMode := by
  unfold State.enterSettling
  rw [h]
  rfl

section
variable (s : State)

theorem State.settled_keepsCells : KeepsCells s s.settled := by
  unfold State.settled
  dsimp only
  split
  · exact s.setControl_keepsCells _
  · exact (s.setControl_keepsCells _).trans (State.halt_keepsCells _ _ _)

theorem State.settled_keepsOuter : KeepsOuter s s.settled := by
  unfold State.settled
  dsimp only
  split
  · exact s.setControl_keepsOuter _
  · exact (s.setControl_keepsOuter _).trans (State.halt_keepsOuter _ _ _)

theorem State.settled_control :
    s.settled.control =
      if s.heldCauses = .empty then
        { s.control with mode := .settling, causes := .empty, settleCount := 0, risesDue := 0 }
      else
        { s.control with
          mode := .halted, prior := .settling, causes := s.heldCauses, settleCount := 0, risesDue := 0 } := by
  unfold State.settled
  dsimp only
  by_cases h : s.heldCauses = .empty
  · simp [HaltCauses.isEmpty, h]
  · simp [HaltCauses.isEmpty, h, State.halt_control]

theorem State.settled_signals_of_stop (h : ∀ a, (s.signal a).latch = .stop) : s.settled.signals = s.signals := by
  unfold State.settled
  dsimp only
  split
  · rfl
  · exact State.halt_signals_of_stop (s.setControl _) _ _ h

theorem State.settled_pool_of_empty (h : ∀ p, s.passage p = none) : s.settled.book.pool = s.book.pool := by
  unfold State.settled
  dsimp only
  split
  · rfl
  · exact State.halt_pool_of_empty (s.setControl _) _ _ h

theorem State.anyFault_eq : s.anyFault = decide (∃ a, (s.signal a).fault = true) := by
  rw [Bool.eq_iff_iff, decide_eq_true_iff, State.anyFault, List.any_eq_true]
  constructor
  · rintro ⟨r, hr, fault⟩
    obtain ⟨i, hi, rfl⟩ := Vector.mem_iff_getElem.1 (Vector.mem_toList_iff.1 hr)
    exact ⟨⟨i, hi⟩, fault⟩
  · rintro ⟨a, fault⟩
    exact ⟨_, Vector.mem_toList_iff.2 (Vector.getElem_mem a.isLt), fault⟩

theorem State.liveCount_congr {s t : State} (h : t.book.pool = s.book.pool) : t.liveCount = s.liveCount := by
  simp only [State.liveCount, State.slotsWhere, State.passage_congr h]

/-- The MODE notice that an entry into SETTLING posts names the mode it leads to (R117). -/
theorem State.note_mode (v : Verdict) {w : State} (h : s.timer.floor = w.timer.floor) :
    s.note (.mode s.control.mode s.drained s.control.causes) none = modeNotice w (s.postMode.giveTail v) := by
  obtain ⟨keeps, book, -, -⟩ := s.postMode_keepsBook
  have control : (s.postMode.giveTail v).control = s.control := by rw [State.giveTail_control, keeps.control]
  have pool : (s.postMode.giveTail v).book.pool = s.book.pool := by rw [State.giveTail_book, book]
  have drained : (s.postMode.giveTail v).drained = s.drained := by
    rw [State.drained, State.drained, control, State.liveCount_congr pool]
  rw [modeNotice, control, drained, ← h]
  simp [State.note]

end
end Sys2Proof.Machine

namespace Sys2Proof.Machine

/-! #### What a commit leaves -/

section
variable {s t : State}

theorem KeepsOuter.map (h : KeepsOuter s t) : t.map = s.map := congrArg Outer.map h.1
theorem KeepsOuter.decoder (h : KeepsOuter s t) : t.decoder = s.decoder := congrArg Outer.decoder h.1
theorem KeepsOuter.timer (h : KeepsOuter s t) : t.timer = s.timer := congrArg Outer.timer h.1
theorem KeepsOuter.power (h : KeepsOuter s t) : t.power = s.power := congrArg Outer.power h.1
theorem KeepsOuter.pending (h : KeepsOuter s t) : t.pending = s.pending := congrArg Outer.pending h.1
theorem KeepsOuter.error (h : KeepsOuter s t) : t.liu.error = s.liu.error :=
  congrArg (fun o : Outer => o.liu.error) h.1

end

section
variable (s : State)

/-- A commit posts its MODE notice from the state it has settled in (R15, R120). -/
theorem State.commit_eq_postMode : s.commit = s.committed.settled.postMode := by
  rw [State.commit_eq_enterSettling, State.enterSettling_eq s.committed_restartFilters]

theorem State.commit_keepsOuter : KeepsOuter s.committed s.commit := by
  rw [State.commit_eq_postMode]
  exact s.committed.settled_keepsOuter.trans (State.postMode_keepsBook _).1.weaken

theorem State.commit_map :
    s.commit.map =
      { working := s.map.working, tag := s.map.working.options.tag, crc := s.map.working.crc
        enrolment := s.map.working.masters } :=
  s.commit_keepsOuter.map.trans s.committed_map

theorem State.commit_decoder : s.commit.decoder = { s.decoder with service := none } :=
  s.commit_keepsOuter.decoder.trans s.committed_decoder

theorem State.commit_timer : s.commit.timer = s.timer :=
  s.commit_keepsOuter.timer.trans s.committed_timer

theorem State.commit_power : s.commit.power = s.power :=
  s.commit_keepsOuter.power.trans s.committed_power

theorem State.commit_pending : s.commit.pending = s.pending :=
  s.commit_keepsOuter.pending.trans s.committed_pending

theorem State.commit_error : s.commit.liu.error = s.liu.error :=
  s.commit_keepsOuter.error.trans s.committed_error

theorem State.commit_cell (c : CellId) : s.commit.cell c = s.committed.cell c := by
  obtain ⟨-, book, -, -⟩ := s.committed.settled.postMode_keepsBook
  obtain ⟨-, -, cells⟩ := s.committed.settled_keepsCells
  rw [State.commit_eq_postMode]
  exact State.cell_congr ((congrArg Book.cells book).trans cells) c

theorem State.commit_sensor (c : CellId) :
    s.commit.sensor c = { mode := s.map.working.cells[c].sensor, raw := .free, count := 0 } := by
  have posted := s.committed.settled.postMode_keepsBook.1.scanner
  obtain ⟨-, settled, -⟩ := s.committed.settled_keepsCells
  rw [State.commit_eq_postMode, State.sensor, posted, settled]
  exact s.committed_sensor c

theorem State.commit_signals_of_stop (h : ∀ a, (s.signal a).latch = .stop) : s.commit.signals = s.signals := by
  obtain ⟨-, -, -, signals⟩ := s.committed.settled.postMode_keepsBook
  have stop : ∀ a, (s.committed.signal a).latch = .stop := fun a => by
    rw [State.signal_congr s.committed_signals]
    exact h a
  rw [State.commit_eq_postMode, signals, State.settled_signals_of_stop _ stop, s.committed_signals]

theorem State.commit_pool_of_empty (h : ∀ p, s.passage p = none) : s.commit.book.pool = s.book.pool := by
  obtain ⟨-, book, -, -⟩ := s.committed.settled.postMode_keepsBook
  have empty : ∀ p, s.committed.passage p = none := fun p => by
    rw [State.passage_congr s.committed_pool]
    exact h p
  rw [State.commit_eq_postMode, book, State.settled_pool_of_empty _ empty, s.committed_pool]

/-- With no cause in the set before, the held causes are the emergency stop and the signal fault (R120). -/
theorem State.committed_heldCauses (h : s.control.causes = .empty) :
    s.committed.heldCauses =
      { haltPulse := false, estop := s.control.emergency.asserted, lineStuck := false
        signalFault := decide (∃ a, (s.signal a).fault = true) } := by
  have fault : s.committed.anyFault = s.anyFault := by rw [State.anyFault, s.committed_signals, State.anyFault]
  rw [State.heldCauses, s.committed_control, fault, State.anyFault_eq, h]
  simp [HaltCauses.empty]

theorem State.commit_control :
    s.commit.control =
      if s.committed.heldCauses = .empty then
        { s.control with mode := .settling, causes := .empty, settleCount := 0, risesDue := 0 }
      else
        { s.control with
          mode := .halted, prior := .settling, causes := s.committed.heldCauses, settleCount := 0, risesDue := 0 } := by
  have posted := s.committed.settled.postMode_keepsBook.1.control
  rw [State.commit_eq_postMode, posted, State.settled_control, s.committed_control]

/-! #### The Notice Unit after a commit -/

theorem postAll_eq (n : Notice) :
    (toAll n).foldl (fun u x => u.enqueue x.1 x.2) s = s.postTo (List.finRange 6) n := by
  rw [toAll, List.foldl_map, State.postTo]

theorem State.committed_fifo (k : MasterSlot) :
    s.committed.notices.fifos[k] = if s.slotChanged k then { queue := [], lost := false } else s.notices.fifos[k] := by
  rw [State.committed_notices, State.clearChangedSlots_eq, State.refill_fifos, State.withoutChangedSlots_fifo]
  rfl

/-- The MODE notice of the commit goes to every slot, in ascending order (R117). -/
theorem State.commit_eq_posted (v : Verdict) :
    s.commit =
      (toAll (modeNotice s (s.commit.giveTail v))).foldl (fun u x => u.enqueue x.1 x.2) s.committed.settled := by
  have floor : s.committed.settled.timer.floor = s.timer.floor :=
    congrArg Timer.floor (s.committed.settled_keepsOuter.timer.trans s.committed_timer)
  have notice := State.note_mode s.committed.settled v floor
  rw [← s.commit_eq_postMode] at notice
  rw [← notice, postAll_eq]
  exact s.commit_eq_postMode

/-- Filled again, with the new enrolment in force, the Notice Unit is what the posting starts from (R15, R161). -/
theorem State.commit_startsFrom (v : Verdict) :
    SameTx (s.identified.clearChangedSlots.withMap (s.commit.giveTail v).map) s.committed.settled := by
  obtain ⟨⟨liu, notices, map⟩, -, -⟩ := s.committed.settled_keepsCells
  refine ⟨?_, ?_, ?_⟩
  · rw [liu, s.committed_liu, State.withMap_liu]
  · rw [notices, s.committed_notices, State.withMap_notices]
  · rw [State.withMap_map, State.giveTail_map, s.commit_keepsOuter.map, map]

theorem State.commit_posts (v : Verdict) :
    Posts (s.identified.clearChangedSlots.withMap (s.commit.giveTail v).map) (s.commit.giveTail v)
      (toAll (modeNotice s (s.commit.giveTail v))) := by
  have posted := (s.commit_startsFrom v).enqueueAll (toAll (modeNotice s (s.commit.giveTail v)))
  rw [← s.commit_eq_posted v] at posted
  obtain ⟨liu, notices, -⟩ := posted
  refine ⟨⟨?_, ?_, ?_⟩, ?_⟩
  · rw [State.giveTail_notices, notices]
  · rw [State.giveTail_liu_shifter, liu]
  · rw [State.giveTail_liu_staged, liu]
  · rw [State.giveTail_liu_attempt, liu]

end

section
variable {s : State} {k : MasterSlot}

/-- The FIFO of a slot after the commit, if its entry is in use and the FIFO has room behind the clearing (R15, R160). -/
theorem State.commit_fifo_of_room (v : Verdict) (hu : s.map.working.masters[k].inUse = true)
    (hroom : s.committed.notices.fifos[k].queue.length < Config.fifoDepth) :
    s.commit.notices.fifos[k] =
      { s.committed.notices.fifos[k] with
        queue := s.committed.notices.fifos[k].queue ++ [modeNotice s (s.commit.giveTail v)] } := by
  obtain ⟨⟨-, notices, map⟩, -, -⟩ := s.committed.settled_keepsCells
  have inUse : s.committed.settled.map.enrolment[k].inUse = true := by rwa [map, State.committed_map]
  rw [← notices] at hroom ⊢
  rw [← State.postTo_fifo_of_room _ k _ inUse hroom (List.nodup_finRange 6) (List.mem_finRange k), ← postAll_eq,
    ← s.commit_eq_posted v]

theorem State.commit_fifo_of_unused (hu : s.map.working.masters[k].inUse = false) :
    s.commit.notices.fifos[k] = s.committed.notices.fifos[k] := by
  obtain ⟨⟨-, notices, map⟩, -, -⟩ := s.committed.settled_keepsCells
  have unused : s.committed.settled.map.enrolment[k].inUse = false := by rwa [map, State.committed_map]
  rw [s.commit_eq_postMode, ← notices, State.postMode, State.postTo_fifo_of_unused _ k _ unused]

end

end Sys2Proof.Machine

namespace Sys2Proof.Machine

/-! #### The places behind the clearing of the changed slots -/

section
variable {s : State}

theorem State.withoutChangedSlots_pointer (s : State) :
    s.withoutChangedSlots.notices.pointer = s.notices.pointer := rfl

/-- A frame of a changed slot is dropped from the shifter with its attempt and its counts (R15, R158). -/
theorem State.withoutChangedSlots_shifter_dropped (h : ∃ f, s.liu.shifter = some f ∧ s.slotChanged f.slot = true) :
    s.withoutChangedSlots.liu.shifter = none ∧ s.withoutChangedSlots.liu.attempt = none ∧
      s.withoutChangedSlots.notices.attempts = 0 ∧ s.withoutChangedSlots.notices.lateLoss = false := by
  obtain ⟨f, hf, changed⟩ := h
  simp [State.withoutChangedSlots, hf, changed]

theorem State.withoutChangedSlots_shifter_kept (h : ∀ f, s.liu.shifter = some f → ¬ s.slotChanged f.slot = true) :
    s.withoutChangedSlots.liu.shifter = s.liu.shifter ∧ s.withoutChangedSlots.liu.attempt = s.liu.attempt ∧
      s.withoutChangedSlots.notices.attempts = s.notices.attempts ∧
      s.withoutChangedSlots.notices.lateLoss = s.notices.lateLoss := by
  cases hf : s.liu.shifter with
  | none => simp [State.withoutChangedSlots, hf]
  | some f =>
    have kept : s.slotChanged f.slot = false := by simpa using h f hf
    simp [State.withoutChangedSlots, hf, kept]

theorem State.withoutChangedSlots_staged_dropped (h : ∃ f, s.liu.staged = some f ∧ s.slotChanged f.slot = true) :
    s.withoutChangedSlots.liu.staged = none := by
  obtain ⟨f, hf, changed⟩ := h
  simp [State.withoutChangedSlots, hf, changed]

theorem State.withoutChangedSlots_staged_kept (h : ∀ f, s.liu.staged = some f → ¬ s.slotChanged f.slot = true) :
    s.withoutChangedSlots.liu.staged = s.liu.staged := by
  cases hf : s.liu.staged with
  | none => simp [State.withoutChangedSlots, hf]
  | some f =>
    have kept : s.slotChanged f.slot = false := by simpa using h f hf
    simp [State.withoutChangedSlots, hf, kept]

end

/-! #### COMMIT_MAP -/

@[simp] theorem State.cell_giveTail (s : State) (v : Verdict) (c : CellId) : (s.giveTail v).cell c = s.cell c := rfl

@[simp] theorem State.sensor_giveTail (s : State) (v : Verdict) (c : CellId) :
    (s.giveTail v).sensor c = s.sensor c := rfl

/-- COMMIT_MAP from the service node in SERVICE is answered as the Map Store says (R7, R129). -/
theorem exec_commitMap {hd : FrameHead} {s : State} (heard : s.Hears (.commitMap hd)) (hm : s.control.mode = .service)
    (hs : s.decoder.service = some hd.src) :
    ∃ f, exec (.commitMap hd) s = .next ((s.readFrame f).commitMap.1.giveTail (s.readFrame f).commitMap.2) := by
  obtain ⟨f, hf, hears⟩ := heard
  have kind : f.kind ∈ Kind.mapStore := by cases hf; simp [Kind.mapStore]
  exact ⟨f, onServiceFrame_take hf hears (State.judge_mapStore _ hm kind) hs⟩

theorem State.commitMap_of_fault {s : State} {v : Verdict} (h : s.map.working.fault s.liu.own = some v) :
    s.commitMap = (s, v) := by
  rw [State.commitMap, h]

theorem State.commitMap_of_valid {s : State} (h : s.map.working.fault s.liu.own = none) :
    s.commitMap = (s.commit, .done (.commitMap s.map.working.options.tag s.map.working.crc)) := by
  rw [State.commitMap, h]

/-! #### The clauses of the commit, over the state with the frame read -/

section
variable (s : State)

/-- Locks and intruded flags clear, and the sensors are set up (R15, R103). -/
theorem State.commit_cells (c : CellId) :
    (s.commit.cell c).lock = .none ∧ (s.commit.cell c).intruded = false ∧
      (s.commit.cell c).stamp = s.timer.floor ∧
      (s.commit.cell c).occupancy =
        (if s.map.working.cells[c].inUse = true ∧ s.map.working.cells[c].sensor = .standby then .blind else .free) ∧
      (s.commit.cell c).heard = (s.commit.cell c).occupancy := by
  rw [s.commit_cell, s.committed_cell]
  simp only [Bool.and_eq_true, decide_eq_true_eq, and_self]

/-- The FIFO of a changed slot holds the MODE notice alone, if the new entry is in use (R15, R117). -/
theorem State.commit_fifo_of_changed (v : Verdict) {k : MasterSlot} (h : s.slotChanged k = true) :
    s.commit.notices.fifos[k] =
      { queue := if s.map.working.masters[k].inUse then [modeNotice s (s.commit.giveTail v)] else [], lost := false } := by
  have cleared : s.committed.notices.fifos[k] = { queue := [], lost := false } := by rw [s.committed_fifo, if_pos h]
  cases hu : s.map.working.masters[k].inUse with
  | true =>
    rw [State.commit_fifo_of_room v hu (by rw [cleared]; decide), cleared]
    rfl
  | false =>
    rw [State.commit_fifo_of_unused hu, cleared]
    rfl

theorem State.committed_fifo_of_unchanged {k : MasterSlot} (h : ¬ s.slotChanged k = true) :
    s.committed.notices.fifos[k] = s.notices.fifos[k] := by
  rw [s.committed_fifo, if_neg h]

/-- At an unchanged slot the MODE notice joins the FIFO (R117, R160). -/
theorem State.commit_joinsTail (v : Verdict) {k : MasterSlot} (h : ¬ s.slotChanged k = true) :
    JoinsTail s (s.commit.giveTail v) k (modeNotice s (s.commit.giveTail v)) := by
  intro hu hroom
  have inUse : s.map.working.masters[k].inUse = s.map.enrolment[k].inUse := by
    by_contra differs
    exact h (State.slotChanged_iff.2 (.inl differs))
  have same := s.committed_fifo_of_unchanged h
  rw [State.giveTail_notices, State.commit_fifo_of_room v (inUse.trans hu) (by rwa [same]), same]

/-- The Notice Unit with the changed slots cleared, then filled again, and the posting of the MODE notice from there (R15,
R161; log entry 34). -/
theorem State.commit_places (v : Verdict) : ∃ c d : State,
    (∀ k : MasterSlot, (s.slotChanged k = true → c.notices.fifos[k] = { queue := [], lost := false }) ∧
      (¬ s.slotChanged k = true → c.notices.fifos[k] = s.notices.fifos[k])) ∧
    c.notices.pointer = s.notices.pointer ∧
    ((∃ f, s.liu.shifter = some f ∧ s.slotChanged f.slot = true) →
      c.liu.shifter = none ∧ c.liu.attempt = none ∧ c.notices.attempts = 0 ∧ c.notices.lateLoss = false) ∧
    ((∀ f, s.liu.shifter = some f → ¬ s.slotChanged f.slot = true) →
      c.liu.shifter = s.liu.shifter ∧ c.liu.attempt = s.liu.attempt ∧ c.notices.attempts = s.notices.attempts ∧
        c.notices.lateLoss = s.notices.lateLoss) ∧
    ((∃ f, s.liu.staged = some f ∧ s.slotChanged f.slot = true) → c.liu.staged = none) ∧
    ((∀ f, s.liu.staged = some f → ¬ s.slotChanged f.slot = true) → c.liu.staged = s.liu.staged) ∧
    Refills c d ∧
    Posts { d with map := (s.commit.giveTail v).map } (s.commit.giveTail v)
      (toAll (modeNotice s (s.commit.giveTail v))) := by
  have refills : Refills s.identified.withoutChangedSlots s.identified.clearChangedSlots := by
    rw [State.clearChangedSlots_eq]
    exact State.refills_refill _
  exact ⟨s.identified.withoutChangedSlots, s.identified.clearChangedSlots,
    fun k => ⟨fun h => (State.withoutChangedSlots_fifo _ k).trans (if_pos h),
      fun h => (State.withoutChangedSlots_fifo _ k).trans (if_neg h)⟩,
    State.withoutChangedSlots_pointer _,
    State.withoutChangedSlots_shifter_dropped (s := s.identified),
    State.withoutChangedSlots_shifter_kept (s := s.identified),
    State.withoutChangedSlots_staged_dropped (s := s.identified),
    State.withoutChangedSlots_staged_kept (s := s.identified), refills, s.commit_posts v⟩

end

/-- Settles O59, part by part: the serialisation, a refusal, and the effects of a commit in the guide's order. -/
theorem commitTakesEffect : Obligations.CommitTakesEffect := by
  refine ⟨fun m => ?_, fun hd s heard mode service => ⟨fun v fault => ?_, fun valid causes => ?_⟩⟩
  · obtain ⟨bytes, length, options, cells, approaches, routes, masters, crc⟩ := m.serialisation
    refine ⟨bytes, length, options, cells, approaches, fun r => ⟨(routes r).1, fun i => ?_⟩, masters, crc⟩
    refine ((routes r).2 i).trans (congrArg some ?_)
    cases m.routes[r].list[i] <;> rfl
  · obtain ⟨f, exec_eq⟩ := exec_commitMap heard mode service
    rw [State.commitMap_of_fault (by exact fault)] at exec_eq
    exact ⟨_, exec_eq, (s.sameButTail_answer f v).2, (s.sameButTail_answer f v).1⟩
  · obtain ⟨f, exec_eq⟩ := exec_commitMap heard mode service
    rw [State.commitMap_of_valid (by exact valid)] at exec_eq
    obtain ⟨u, hu⟩ : ∃ u, u = s.readFrame f := ⟨_, rfl⟩
    have map : u.map = s.map := by rw [hu, State.readFrame_map]
    have control : u.control = s.control := by rw [hu, State.readFrame_control]
    have timer : u.timer = s.timer := by rw [hu, State.readFrame_timer]
    have signals : u.signals = s.signals := by rw [hu, State.readFrame_signals]
    have book : u.book = s.book := by rw [hu, State.readFrame_book]
    have notices : u.notices = s.notices := by rw [hu, State.readFrame_notices]
    have shifter : u.liu.shifter = s.liu.shifter := by rw [hu, State.readFrame_liu_shifter]
    have staged : u.liu.staged = s.liu.staged := by rw [hu, State.readFrame_liu_staged]
    have attempt : u.liu.attempt = s.liu.attempt := by rw [hu, State.readFrame_liu_attempt]
    rw [← hu, map] at exec_eq
    dsimp only at exec_eq
    intro m held changed
    have noCause := causes (by simp [mode])
    have held_eq : u.committed.heldCauses = held := by
      rw [u.committed_heldCauses (control ▸ noCause), control]
      simp only [State.signal_congr signals]
      rfl
    have changed_iff : ∀ k, changed k ↔ u.slotChanged k = true := fun k => by
      rw [State.slotChanged_iff, map]
    have note : ∀ t, modeNotice s t = modeNotice u t := fun t => by rw [modeNotice, modeNotice, timer]
    refine ⟨_, exec_eq, State.giveTail_liu_tail _ _, ?_, ?_, fun c => ?_, fun empty => ?_, fun some => ?_, fun k => ?_,
      ?_, fun stop => ?_, fun closed => ?_, ?_, ?_, ?_, ?_⟩
    · rw [State.giveTail_map, u.commit_map, map]
    · rw [State.giveTail_decoder, u.commit_decoder, hu, State.readFrame_decoder]
    · have cells := u.commit_cells c
      have sensor := u.commit_sensor c
      rw [map] at cells sensor
      rw [timer] at cells
      obtain ⟨lock, intruded, stamp, occupancy, heardAs⟩ := cells
      rw [State.cell_giveTail, State.sensor_giveTail]
      exact ⟨lock, intruded, stamp, occupancy, heardAs, sensor⟩
    · rw [State.giveTail_control, u.commit_control, if_pos (held_eq.trans empty), control, ← noCause]
    · rw [State.giveTail_control, u.commit_control, if_neg (held_eq ▸ some), control, held_eq]
    · rw [State.giveTail_notices, note]
      refine ⟨fun h => ?_, fun h => ?_, fun h unused => ?_⟩
      · rw [u.commit_fifo_of_changed _ ((changed_iff k).1 h), map]
      · have joins := u.commit_joinsTail (.done (.commitMap m.options.tag m.crc)) fun e => h ((changed_iff k).2 e)
        rwa [JoinsTail, map, notices] at joins
      · have unused : u.map.working.masters[k].inUse = false := by rw [map]; exact unused
        rw [State.commit_fifo_of_unused unused, u.committed_fifo_of_unchanged fun e => h ((changed_iff k).2 e), notices]
    · have places := u.commit_places (.done (.commitMap m.options.tag m.crc))
      simp only [← changed_iff, ← note, notices, shifter, staged, attempt] at places
      exact places
    · rw [State.giveTail_signals, u.commit_signals_of_stop fun a => ?_, signals]
      rw [State.signal_congr signals]
      exact stop a
    · rw [State.giveTail_book, u.commit_pool_of_empty fun p => ?_, book]
      rw [State.passage_congr (congrArg Book.pool book)]
      exact closed (.inr mode) p
    · rw [State.giveTail_timer, u.commit_timer, timer]
    · rw [State.giveTail_liu_error, u.commit_error, hu, State.readFrame_liu_error]
    · rw [State.giveTail_power, u.commit_power, hu, State.readFrame_power]
    · rw [State.giveTail_pending, u.commit_pending, hu, State.readFrame_pending]

end Sys2Proof.Machine

namespace Sys2Proof.Machine

/-! ## The laws of the book: locks, names, lists and holding (R18, R22, R29, R33, R43, R50 to R52)

### What the laws read -/

/-- The fields of a passage record that a law of the book reads. -/
structure PassageCore where
  master : MasterSlot
  carrier : CarrierId
  route : RouteId
  state : PassageState
  blocking : Bool
  skips : Nat
  firstHeld : Nat

/-- What the laws of the book read of a passage record. -/
def Passage.core (q : Passage) : PassageCore :=
  { master := q.master, carrier := q.carrier, route := q.route, state := q.state, blocking := q.blocking
    skips := q.skips, firstHeld := q.firstHeld }

/-- The fields of a cell record that a law of the book reads. -/
structure CellCore where
  holder : Option Slot
  reservation : Option Slot
  lock : Lock

/-- What the laws of the book read of a cell record. -/
def CellRec.core (r : CellRec) : CellCore := { holder := r.holder, reservation := r.reservation, lock := r.lock }

/-- Two states agree in everything that the laws of the book read. -/
structure SameCore (s t : State) : Prop where
  working : t.map.working = s.map.working
  arrivals : t.book.arrivals = s.book.arrivals
  queues : t.book.queues = s.book.queues
  cell : ∀ c, (t.cell c).core = (s.cell c).core
  passage : ∀ p, (t.passage p).map Passage.core = (s.passage p).map Passage.core

theorem SameCore.rfl {s : State} : SameCore s s := ⟨.refl _, .refl _, .refl _, fun _ => .refl _, fun _ => .refl _⟩

theorem SameCore.trans {s t u : State} (h : SameCore s t) (k : SameCore t u) : SameCore s u :=
  ⟨k.working.trans h.working, k.arrivals.trans h.arrivals, k.queues.trans h.queues,
    fun c => (k.cell c).trans (h.cell c), fun p => (k.passage p).trans (h.passage p)⟩

theorem SameCore.symm {s t : State} (h : SameCore s t) : SameCore t s :=
  ⟨h.working.symm, h.arrivals.symm, h.queues.symm, fun c => (h.cell c).symm, fun p => (h.passage p).symm⟩

theorem sameCore_foldl {α : Type} {f : State → α → State} (h : ∀ s x, SameCore s (f s x)) (l : List α) (s : State) :
    SameCore s (l.foldl f s) := by
  induction l generalizing s with
  | nil => exact .rfl
  | cons x rest ih => exact (h s x).trans (ih _)

/-- What leaves the map and the whole book alone leaves the core alone. -/
theorem SameCore.of_book {s t : State} (hm : t.map.working = s.map.working) (hb : t.book = s.book) : SameCore s t :=
  ⟨hm, by rw [hb], by rw [hb], fun c => by rw [State.cell_congr (congrArg Book.cells hb)],
    fun p => by rw [State.passage_congr (congrArg Book.pool hb)]⟩

theorem KeepsBook.sameCore {s t : State} (h : KeepsBook s t) : SameCore s t :=
  .of_book (congrArg MapStore.working h.1.map) h.2.1

section
variable {s t : State}

theorem CellRec.core_eq_iff {r x : CellRec} :
    r.core = x.core ↔ r.holder = x.holder ∧ r.reservation = x.reservation ∧ r.lock = x.lock := by
  simp [CellRec.core]

theorem Passage.core_eq_iff {q r : Passage} :
    q.core = r.core ↔ q.master = r.master ∧ q.carrier = r.carrier ∧ q.route = r.route ∧ q.state = r.state ∧
      q.blocking = r.blocking ∧ q.skips = r.skips ∧ q.firstHeld = r.firstHeld := by
  simp [Passage.core]

theorem SameCore.holder (h : SameCore s t) (c : CellId) : (t.cell c).holder = (s.cell c).holder :=
  congrArg CellCore.holder (h.cell c)

theorem SameCore.reservation (h : SameCore s t) (c : CellId) : (t.cell c).reservation = (s.cell c).reservation :=
  congrArg CellCore.reservation (h.cell c)

theorem SameCore.lock (h : SameCore s t) (c : CellId) : (t.cell c).lock = (s.cell c).lock :=
  congrArg CellCore.lock (h.cell c)

theorem SameCore.queue (h : SameCore s t) (a : ApproachId) : t.queue a = s.queue a := by
  rw [State.queue, State.queue, h.queues]

/-- A passage of the later state stands in the earlier one, with the same core. -/
theorem SameCore.passage_some (h : SameCore s t) {p : Slot} {r : Passage} (hr : t.passage p = some r) :
    ∃ q, s.passage p = some q ∧ q.core = r.core := by
  have same := h.passage p
  rw [hr, Option.map_some] at same
  exact Option.map_eq_some_iff.1 same.symm

/-- A free slot stays free. -/
theorem SameCore.passage_none (h : SameCore s t) {p : Slot} (hp : s.passage p = none) : t.passage p = none := by
  simpa [hp] using h.passage p

/-- A condition on the core of a passage holds of a slot in both states or in neither. -/
theorem SameCore.any (h : SameCore s t) {f g : Passage → Bool} (hfg : ∀ q r, q.core = r.core → g r = f q) (p : Slot) :
    (t.passage p).any g = (s.passage p).any f := by
  cases hr : t.passage p with
  | none => rw [h.symm.passage_none hr]; rfl
  | some r =>
    obtain ⟨q, hq, core⟩ := h.passage_some hr
    rw [hq]
    exact hfg q r core

/-! ### What a passage has by its route -/

theorem State.approachOf_congr (hm : t.map.working = s.map.working) {q r : Passage} (hr : r.route = q.route) :
    t.approachOf r = s.approachOf q := by
  simp only [State.approachOf, State.routeOf, hm, hr]

theorem State.cellsOf_congr (hm : t.map.working = s.map.working) {q r : Passage} (hr : r.route = q.route) :
    t.cellsOf r = s.cellsOf q := by
  simp only [State.cellsOf, State.routeOf, hm, hr]

theorem Passage.live_congr {q r : Passage} (h : r.state = q.state) : r.live = q.live := by
  rw [Passage.live, Passage.live, h]

theorem State.heldRun_congr (hm : t.map.working = s.map.working) {q r : Passage} (hr : r.route = q.route)
    (hl : r.live = q.live) (hf : r.firstHeld = q.firstHeld) : t.heldRun r = s.heldRun q := by
  rw [State.heldRun, State.heldRun, State.cellsOf_congr hm hr, hl, hf]

theorem Passage.live_eq_false_iff {q : Passage} : q.live = false ↔ q.state = .queued := by simp [Passage.live]

theorem Passage.live_eq_true_iff {q : Passage} : q.live = true ↔ q.state ≠ .queued := by simp [Passage.live]

theorem State.heldRun_of_queued {q : Passage} (h : q.state = .queued) : s.heldRun q = [] := by
  simp [State.heldRun, Passage.live_eq_false_iff.2 h]

theorem State.heldRun_of_live {q : Passage} (h : q.live = true) : s.heldRun q = (s.cellsOf q).drop q.firstHeld := by
  simp [State.heldRun, h]

theorem State.mem_cellsOf_of_mem_heldRun {q : Passage} {c : CellId} (h : c ∈ s.heldRun q) : c ∈ s.cellsOf q := by
  unfold State.heldRun at h
  split at h
  · exact List.mem_of_mem_drop h
  · cases h

theorem SameCore.approachOf (h : SameCore s t) {q r : Passage} (core : q.core = r.core) :
    t.approachOf r = s.approachOf q :=
  State.approachOf_congr h.working (congrArg PassageCore.route core).symm

theorem SameCore.cellsOf (h : SameCore s t) {q r : Passage} (core : q.core = r.core) : t.cellsOf r = s.cellsOf q :=
  State.cellsOf_congr h.working (congrArg PassageCore.route core).symm

theorem SameCore.heldRun (h : SameCore s t) {q r : Passage} (core : q.core = r.core) : t.heldRun r = s.heldRun q :=
  State.heldRun_congr h.working (congrArg PassageCore.route core).symm
    (Passage.live_congr (congrArg PassageCore.state core).symm) (congrArg PassageCore.firstHeld core).symm

theorem SameCore.grantedAt (h : SameCore s t) {p : Slot} {a : ApproachId} (hg : t.GrantedAt p a) : s.GrantedAt p a := by
  obtain ⟨r, hr, granted, approach⟩ := hg
  obtain ⟨q, hq, core⟩ := h.passage_some hr
  exact ⟨q, hq, (congrArg PassageCore.state core).trans granted, (h.approachOf core).symm.trans approach⟩

/-! ### The laws, apart from the mode and the map -/

/-- The law of the lists without that of the closed modes (R22, R50, R51). -/
def State.Listed (s : State) : Prop :=
  s.SkipsBounded ∧ s.book.arrivals.Nodup ∧
  (∀ p, p ∈ s.book.arrivals ↔ ∃ q, s.passage p = some q ∧ q.state = .queued) ∧
  (∀ a, s.queue a = s.book.arrivals.filter fun p => (s.passage p).any fun q => decide (s.approachOf q = a)) ∧
  ∀ a, (s.queue a).length ≤ s.map.working.approaches[a].limit

theorem State.listLaw_iff : s.ListLaw ↔ s.ClosedEmpty ∧ s.Listed := Iff.rfl

/-- The routes in use repeat no cell while a map is in force. -/
def State.RoutesPlain (s : State) : Prop :=
  s.control.mode.operating = true → ∀ r : RouteId, s.map.working.routes[r].inUse = true →
    s.map.working.routes[r].cells.Nodup

/-- No reservation but a blocking QUEUED passage's on its own route (R52). -/
def State.ReservationsOwned (s : State) : Prop :=
  ∀ c p, (s.cell c).reservation = some p →
    ∃ q, s.passage p = some q ∧ q.state = .queued ∧ q.blocking = true ∧ c ∈ s.cellsOf q

/-- A cell has a holder exactly while it stands in that passage's held run (R18). -/
def State.HoldersOwn (s : State) : Prop :=
  ∀ c p, (s.cell c).holder = some p ↔ ∃ q, s.passage p = some q ∧ c ∈ s.heldRun q

/-- Every passage's route repeats no cell, and a GRANTED passage holds all of it (R47). -/
def State.PassagesPlain (s : State) : Prop :=
  ∀ p q, s.passage p = some q → (s.cellsOf q).Nodup ∧ (q.state = .granted → q.firstHeld = 0)

/-- The laws of holding and of reservations, apart from the lists and the map (R18, R43, R52). -/
def State.Held (s : State) : Prop := s.SingleGrant ∧ s.PassagesPlain ∧ s.ReservationsOwned ∧ s.HoldersOwn

theorem State.holderLaw_iff : s.HolderLaw ↔ s.ListLaw ∧ s.RoutesPlain ∧ s.Held :=
  ⟨fun ⟨lists, single, routes, plain, reserved, held⟩ => ⟨lists, routes, single, plain, reserved, held⟩,
    fun ⟨lists, routes, single, plain, reserved, held⟩ => ⟨lists, single, routes, plain, reserved, held⟩⟩

theorem SameCore.lockLaw (h : SameCore s t) (law : s.LockLaw) : t.LockLaw := fun c => by
  rw [h.lock, h.holder]
  exact law c

theorem SameCore.listed (h : SameCore s t) (law : s.Listed) : t.Listed := by
  obtain ⟨skips, nodup, mem, queues, limits⟩ := law
  refine ⟨fun p r hr => ?_, h.arrivals ▸ nodup, fun p => ?_, fun a => ?_, fun a => ?_⟩
  · obtain ⟨q, hq, core⟩ := h.passage_some hr
    obtain ⟨-, -, -, state, blocking, count, -⟩ := Passage.core_eq_iff.1 core
    rw [h.working, ← state, ← blocking, ← count]
    exact skips p q hq
  · rw [h.arrivals, mem p]
    constructor
    · rintro ⟨q, hq, queued⟩
      obtain ⟨r, hr, core⟩ := h.symm.passage_some hq
      exact ⟨r, hr, (congrArg PassageCore.state core).trans queued⟩
    · rintro ⟨r, hr, queued⟩
      obtain ⟨q, hq, core⟩ := h.passage_some hr
      exact ⟨q, hq, (congrArg PassageCore.state core).trans queued⟩
  · rw [h.queue, h.arrivals, queues a]
    refine List.filter_congr fun p _ => (h.any (fun q r core => ?_) p).symm
    rw [h.approachOf core]
  · rw [h.queue, h.working]
    exact limits a

theorem SameCore.held (h : SameCore s t) (law : s.Held) : t.Held := by
  obtain ⟨single, plain, reserved, holders⟩ := law
  refine ⟨fun a p x hp hx => single a p x (h.grantedAt hp) (h.grantedAt hx), fun p r hr => ?_, fun c p hc => ?_,
    fun c p => ?_⟩
  · obtain ⟨q, hq, core⟩ := h.passage_some hr
    obtain ⟨-, -, -, state, -, -, first⟩ := Passage.core_eq_iff.1 core
    rw [h.cellsOf core, ← state, ← first]
    exact plain p q hq
  · rw [h.reservation] at hc
    obtain ⟨q, hq, queued, blocking, mem⟩ := reserved c p hc
    obtain ⟨r, hr, core⟩ := h.symm.passage_some hq
    obtain ⟨-, -, -, state, block, -, -⟩ := Passage.core_eq_iff.1 core
    exact ⟨r, hr, state.trans queued, block.trans blocking, h.cellsOf core.symm ▸ mem⟩
  · rw [h.holder, holders c p]
    constructor
    · rintro ⟨q, hq, mem⟩
      obtain ⟨r, hr, core⟩ := h.symm.passage_some hq
      exact ⟨r, hr, h.heldRun core.symm ▸ mem⟩
    · rintro ⟨r, hr, mem⟩
      obtain ⟨q, hq, core⟩ := h.passage_some hr
      exact ⟨q, hq, h.heldRun core ▸ mem⟩

end

/-! ### What work on the book does to its laws -/

/-- Two records of one passage: master, carrier id and route never change. -/
def Passage.SameName (q r : Passage) : Prop := r.master = q.master ∧ r.carrier = q.carrier ∧ r.route = q.route

theorem Passage.SameName.rfl {q : Passage} : q.SameName q := ⟨.refl _, .refl _, .refl _⟩

theorem Passage.SameName.trans {q r x : Passage} (h : q.SameName r) (k : r.SameName x) : q.SameName x :=
  ⟨k.1.trans h.1, k.2.1.trans h.2.1, k.2.2.trans h.2.2⟩

theorem Passage.sameName_of_core {q r : Passage} (h : q.core = r.core) : q.SameName r := by
  obtain ⟨master, carrier, route, -⟩ := Passage.core_eq_iff.1 h
  exact ⟨master.symm, carrier.symm, route.symm⟩

/-- From `s` to `t` the map stays, no passage comes in, a lock changes only from LOCK_PENDING to LOCKED, and the laws of
the book pass on. -/
structure Tends (s t : State) : Prop where
  working : t.map.working = s.map.working
  names : ∀ p r, t.passage p = some r → ∃ q, s.passage p = some q ∧ q.SameName r
  locks : ∀ c, (t.cell c).lock = (s.cell c).lock ∨ (s.cell c).lock = .pending ∧ (t.cell c).lock = .locked
  lockLaw : s.LockLaw → t.LockLaw
  listed : s.Listed → t.Listed
  held : s.Listed → s.Held → t.Held

section
variable {s t u : State}

theorem SameCore.tends (h : SameCore s t) : Tends s t where
  working := h.working
  names p r hr := by
    obtain ⟨q, hq, core⟩ := h.passage_some hr
    exact ⟨q, hq, Passage.sameName_of_core core⟩
  locks c := .inl (h.lock c)
  lockLaw := h.lockLaw
  listed := h.listed
  held _ := h.held

theorem Tends.rfl {s : State} : Tends s s := SameCore.rfl.tends

theorem Tends.trans (h : Tends s t) (k : Tends t u) : Tends s u where
  working := k.working.trans h.working
  names p x hx := by
    obtain ⟨r, hr, name'⟩ := k.names p x hx
    obtain ⟨q, hq, name⟩ := h.names p r hr
    exact ⟨q, hq, name.trans name'⟩
  locks c := by
    rcases h.locks c with e | ⟨e, e'⟩ <;> rcases k.locks c with f | ⟨f, f'⟩
    · exact .inl (f.trans e)
    · exact .inr ⟨e ▸ f, f'⟩
    · exact .inr ⟨e, f.trans e'⟩
    · rw [e'] at f; cases f
  lockLaw i := k.lockLaw (h.lockLaw i)
  listed i := k.listed (h.listed i)
  held i j := k.held (h.listed i) (h.held i j)

theorem tends_foldl {α : Type} {f : State → α → State} (h : ∀ s x, Tends s (f s x)) (l : List α) (s : State) :
    Tends s (l.foldl f s) := by
  induction l generalizing s with
  | nil => exact .rfl
  | cons x rest ih => exact (h s x).trans (ih _)

/-- No passage comes in: an empty slot stays empty. -/
theorem Tends.passage_none (h : Tends s t) {p : Slot} (hp : s.passage p = none) : t.passage p = none := by
  cases hr : t.passage p with
  | none => rfl
  | some r =>
    obtain ⟨q, hq, -⟩ := h.names p r hr
    rw [hp] at hq
    cases hq

theorem Tends.namesUnique (h : Tends s t) (law : s.NamesUnique) : t.NamesUnique := by
  intro p x q r hq hr master carrier
  obtain ⟨q', hq', master', carrier', -⟩ := h.names p q hq
  obtain ⟨r', hr', master'', carrier'', -⟩ := h.names x r hr
  exact law p x q' r' hq' hr' (by rw [← master', master, master'']) (by rw [← carrier', carrier, carrier''])

end

end Sys2Proof.Machine

namespace Sys2Proof.Machine

/-! ### Work that the laws of the book do not see -/

section
variable (s : State)

theorem State.setCell_sameCore (c : CellId) {r : CellRec} (h : r.core = (s.cell c).core) :
    SameCore s (s.setCell c r) := by
  refine ⟨rfl, rfl, rfl, fun d => ?_, fun p => rfl⟩
  rw [State.cell_setCell]
  split
  · rename_i e; exact e ▸ h
  · rfl

theorem State.setMark_sameCore (a : ApproachId) (m : Option Slot) : SameCore s (s.setMark a m) := .of_book rfl rfl
theorem State.setSignal_sameCore (a : ApproachId) (r : SignalRec) : SameCore s (s.setSignal a r) := .of_book rfl rfl
theorem State.setSensor_sameCore (c : CellId) (r : SensorRec) : SameCore s (s.setSensor c r) := .of_book rfl rfl
theorem State.setControl_sameCore (c : Control) : SameCore s (s.setControl c) := .of_book rfl rfl
theorem State.setLiu_sameCore (l : Liu) : SameCore s (s.setLiu l) := .of_book rfl rfl

theorem State.modPassage_sameCore (p : Slot) {f : Passage → Passage} (hf : ∀ q, (f q).core = q.core) :
    SameCore s (s.modPassage p f) := by
  refine ⟨rfl, rfl, rfl, fun c => rfl, fun x => ?_⟩
  rw [State.passage_modPassage]
  split
  · rename_i e
    rw [← e, Option.map_map]
    exact Option.map_congr fun q _ => hf q
  · rfl

theorem State.modDeadline_sameCore (p : Slot) (f : Deadline → Deadline) : SameCore s (s.modDeadline p f) :=
  s.modPassage_sameCore p fun _ => rfl

theorem State.modLiveDeadlines_sameCore (f : Deadline → Deadline) : SameCore s (s.modLiveDeadlines f) := by
  refine ⟨by simp, by simp, by simp, fun c => by rw [State.cell_congr (s := s) (by simp)],
    fun p => ?_⟩
  rw [State.passage_modLiveDeadlines, Option.map_map]
  refine Option.map_congr fun q _ => ?_
  rw [Function.comp_apply]
  split <;> rfl

theorem State.setLatch_sameCore (a : ApproachId) (l : Latch) : SameCore s (s.setLatch a l) := by
  unfold State.setLatch
  dsimp only
  split
  · exact .rfl
  · split
    · split
      · exact s.setSignal_sameCore _ _
      · exact (s.setSignal_sameCore _ _).trans (State.modDeadline_sameCore _ _ _)
    · exact s.setSignal_sameCore _ _

theorem State.intrude_sameCore (c : CellId) (reason : IntrusionReason) (who : Option (Slot × Passage)) (stamp : Time) :
    SameCore s (s.intrude c reason who stamp) :=
  (s.setCell_sameCore c (r := { s.cell c with intruded := true }) rfl).trans (State.postSafety_keepsBook _ _).sameCore

theorem State.armDwell_sameCore (p : Slot) (c : CellId) : SameCore s (s.armDwell p c) :=
  s.modPassage_sameCore p fun _ => rfl

theorem State.armBlindClear_sameCore (p : Slot) : SameCore s (s.armBlindClear p) :=
  s.modPassage_sameCore p fun q => by split <;> rfl

theorem State.advance_sameCore (p : Slot) (k : Nat) (c : CellId) : SameCore s (s.advance p k c) :=
  (s.modPassage_sameCore p (f := fun q => { q with position := some k, overdue := .normal }) fun _ => rfl).trans
    (State.armDwell_sameCore _ _ _)

theorem State.occupiedAhead_sameCore (p : Slot) (q : Passage) (c : CellId) (stamp : Time) :
    SameCore s (s.occupiedAhead p q c stamp) := by
  unfold State.occupiedAhead
  dsimp only
  split
  · exact .rfl
  · split
    · exact s.advance_sameCore _ _ _
    · exact s.intrude_sameCore _ _ _ _

theorem State.stopLatches_sameCore : SameCore s s.stopLatches :=
  sameCore_foldl (fun s a => s.setLatch_sameCore a .stop) _ s

theorem State.goLatches_sameCore : SameCore s s.goLatches :=
  sameCore_foldl (fun s a => by split; exacts [s.setLatch_sameCore a .go, .rfl]) _ s

theorem State.halt_sameCore (prior : PriorMode) (causes : HaltCauses) : SameCore s (s.halt prior causes) :=
  ((s.setControl_sameCore _).trans (State.modLiveDeadlines_sameCore _ _)).trans (State.stopLatches_sameCore _)

theorem State.postMode_sameCore : SameCore s s.postMode := s.postMode_keepsBook.sameCore

theorem State.joinCause_sameCore (add : HaltCauses → HaltCauses) : SameCore s (s.joinCause add) := by
  have halted : ∀ prior causes, SameCore s (s.halt prior causes).postMode := fun prior causes =>
    (s.halt_sameCore prior causes).trans (State.postMode_sameCore _)
  unfold State.joinCause
  dsimp only
  split
  · exact halted _ _
  · exact halted _ _
  · exact halted _ _
  · split
    · exact .rfl
    · exact (s.setControl_sameCore _).trans (State.postMode_sameCore _)
  · exact .rfl
  · exact .rfl

theorem State.leaveCause_sameCore (f : HaltCauses → HaltCauses) : SameCore s (s.leaveCause f) := by
  unfold State.leaveCause
  dsimp only
  split
  · exact (s.setControl_sameCore _).trans (State.postMode_sameCore _)
  · exact .rfl

theorem State.setUpSensors_sameCore : SameCore s s.setUpSensors := by
  unfold State.setUpSensors
  exact ⟨rfl, rfl, rfl, fun c => by simp [State.cell, CellRec.core],
    fun p => by simp only [State.passage]⟩

theorem State.restCells_sameCore : SameCore s s.restCells := by
  unfold State.restCells
  exact ⟨rfl, rfl, rfl, fun c => by simp [State.cell, CellRec.core],
    fun p => by simp only [State.passage]⟩

theorem scannedCell_core (levels : BitVec 32) (c : CellId) : (s.scannedCell levels c).2.core = (s.cell c).core := by
  unfold State.scannedCell
  split
  · unfold filterCell
    split
    · rfl
    · split <;> rfl
  · rfl

theorem State.scan_sameCore (cells : BitVec 32) (signals : BitVec 8) (emergency : Bool) :
    SameCore s (s.scan cells signals emergency) := by
  have scanned : ∀ c, (s.scannedCell cells c).2.core = (s.cell c).core := scannedCell_core s cells
  unfold State.scan
  exact ⟨rfl, rfl, rfl, fun c => by simpa [State.cell] using scanned c,
    fun p => by simp only [State.passage]⟩

end

/-! ### Updating the records of a list of cells -/

/-- Every cell of a list has its record changed in the same way. -/
def State.updateCells (s : State) (f : CellRec → CellRec) (l : List CellId) : State :=
  l.foldl (fun s c => s.setCell c (f (s.cell c))) s

section
variable (s : State) (f : CellRec → CellRec) (l : List CellId)

@[simp] theorem State.updateCells_cons (c : CellId) :
    s.updateCells f (c :: l) = (s.setCell c (f (s.cell c))).updateCells f l := rfl

/-- Nothing but cell records is written. -/
theorem State.updateCells_eq : ∃ cells, s.updateCells f l = { s with book := { s.book with cells := cells } } := by
  induction l generalizing s with
  | nil => exact ⟨s.book.cells, rfl⟩
  | cons c rest ih =>
    obtain ⟨cells, h⟩ := ih (s.setCell c (f (s.cell c)))
    exact ⟨cells, h⟩

@[simp] theorem State.updateCells_map : (s.updateCells f l).map = s.map := by
  obtain ⟨cells, h⟩ := s.updateCells_eq f l; rw [h]

@[simp] theorem State.updateCells_pool : (s.updateCells f l).book.pool = s.book.pool := by
  obtain ⟨cells, h⟩ := s.updateCells_eq f l; rw [h]

@[simp] theorem State.updateCells_arrivals : (s.updateCells f l).book.arrivals = s.book.arrivals := by
  obtain ⟨cells, h⟩ := s.updateCells_eq f l; rw [h]

@[simp] theorem State.updateCells_queues : (s.updateCells f l).book.queues = s.book.queues := by
  obtain ⟨cells, h⟩ := s.updateCells_eq f l; rw [h]

@[simp] theorem State.updateCells_marks : (s.updateCells f l).marks = s.marks := by
  obtain ⟨cells, h⟩ := s.updateCells_eq f l; rw [h]

@[simp] theorem State.updateCells_signals : (s.updateCells f l).signals = s.signals := by
  obtain ⟨cells, h⟩ := s.updateCells_eq f l; rw [h]

@[simp] theorem State.updateCells_passage (p : Slot) : (s.updateCells f l).passage p = s.passage p :=
  State.passage_congr (s.updateCells_pool f l) p

@[simp] theorem State.updateCells_queue (a : ApproachId) : (s.updateCells f l).queue a = s.queue a := by
  rw [State.queue, State.queue, s.updateCells_queues]

theorem State.updateCells_keeps : Keeps s (s.updateCells f l) := keeps_foldl (fun s c => s.setCell_keeps c _) l s

theorem State.updateCells_sameTx : SameTx s (s.updateCells f l) := by
  obtain ⟨cells, h⟩ := s.updateCells_eq f l
  rw [h]
  exact ⟨rfl, rfl, rfl⟩

/-- A change that done twice is done once reaches each record of the list, however often its cell stands there. -/
theorem State.cell_updateCells {f : CellRec → CellRec} (idem : ∀ r, f (f r) = f r) (l : List CellId) (d : CellId) :
    (s.updateCells f l).cell d = if d ∈ l then f (s.cell d) else s.cell d := by
  induction l generalizing s with
  | nil => rfl
  | cons c rest ih =>
    rw [State.updateCells_cons, ih, State.cell_setCell]
    by_cases hc : c = d
    · subst hc; simp [idem]
    · have hd : d ≠ c := fun e => hc e.symm
      simp [hc, hd]

end

/-! ### Releases -/

/-- A cell's record after its release (R23, steps 1 to 3). -/
def CellRec.freed (r : CellRec) : CellRec :=
  { r with
    holder := none
    lock := if r.lock = .pending then .locked else r.lock
    intruded := r.intruded || decide (r.heard = .occupied) }

theorem CellRec.freed_freed (r : CellRec) : r.freed.freed = r.freed := by
  unfold CellRec.freed
  by_cases h : r.lock = .pending <;> simp [h]

theorem State.setCell_setCell (s : State) (c : CellId) (r x : CellRec) :
    (s.setCell c r).setCell c x = s.setCell c x := by
  simp [State.setCell]

theorem KeepsBook.setCell {s t : State} (h : KeepsBook s t) (c : CellId) (r : CellRec) :
    KeepsBook (s.setCell c r) (t.setCell c r) := by
  obtain ⟨⟨outer, control, scanner, fifos⟩, book, marks, signals⟩ := h
  exact ⟨⟨outer, control, scanner, fifos⟩, congrArg (fun b : Book => { b with cells := b.cells.set c r }) book, marks,
    signals⟩

theorem KeepsBook.of_eq {s t : State} (h : s = t) : KeepsBook s t := h ▸ .rfl

theorem KeepsBook.cell {s t : State} (h : KeepsBook s t) (c : CellId) : t.cell c = s.cell c :=
  State.cell_congr (congrArg Book.cells h.2.1) c

theorem KeepsBook.passage {s t : State} (h : KeepsBook s t) (p : Slot) : t.passage p = s.passage p :=
  State.passage_congr (congrArg Book.pool h.2.1) p

theorem KeepsBook.updateCells {s t : State} (h : KeepsBook s t) (f : CellRec → CellRec) (l : List CellId) :
    KeepsBook (s.updateCells f l) (t.updateCells f l) := by
  induction l generalizing s t with
  | nil => exact h
  | cons c rest ih =>
    rw [State.updateCells_cons, State.updateCells_cons, h.cell c]
    exact ih (h.setCell c _)

theorem KeepsBook.setPassage {s t : State} (h : KeepsBook s t) (p : Slot) (q : Option Passage) :
    KeepsBook (s.setPassage p q) (t.setPassage p q) := by
  obtain ⟨⟨outer, control, scanner, fifos⟩, book, marks, signals⟩ := h
  exact ⟨⟨outer, control, scanner, fifos⟩, congrArg (fun b : Book => { b with pool := b.pool.set p q }) book, marks,
    signals⟩

theorem KeepsBook.modPassage {s t : State} (h : KeepsBook s t) (p : Slot) (f : Passage → Passage) :
    KeepsBook (s.modPassage p f) (t.modPassage p f) := by
  rw [State.modPassage, State.modPassage, h.passage p]
  exact h.setPassage p _

section
variable (s : State) (p : Slot) (q : Passage)

/-- A release writes the one cell record and posts (R23). -/
theorem State.release_keepsBook (c : CellId) : KeepsBook (s.setCell c (s.cell c).freed) (s.release p q c) := by
  obtain ⟨u, hu⟩ : ∃ u, u = s.setCell c
      { s.cell c with holder := none, lock := if (s.cell c).lock = .pending then .locked else (s.cell c).lock } :=
    ⟨_, rfl⟩
  have locked : KeepsBook u (if (s.cell c).lock = .pending then u.postSafety (u.note (.locked c) none) else u) := by
    split
    · exact u.postSafety_keepsBook _
    · exact .rfl
  unfold State.release
  dsimp only
  rw [← hu]
  generalize (if (s.cell c).lock = .pending then u.postSafety (u.note (.locked c) none) else u) = v at locked ⊢
  have twice : ∀ r, u.setCell c r = s.setCell c r := fun r => by rw [hu, State.setCell_setCell]
  have freed : (s.cell c).freed =
      { u.cell c with intruded := (s.cell c).intruded || decide ((s.cell c).heard = .occupied) } := by
    simp [hu, CellRec.freed]
  split
  · rename_i intrudes
    obtain ⟨occupied, -⟩ := Bool.and_eq_true_iff.1 intrudes
    rw [occupied, Bool.or_true] at freed
    have marked := locked.setCell c { u.cell c with intruded := true }
    rw [twice, ← freed] at marked
    refine marked.trans ?_
    rw [freed, ← locked.cell c]
    exact State.postSafety_keepsBook _ _
  · rename_i stays
    have same : ((s.cell c).intruded || decide ((s.cell c).heard = .occupied)) = (u.cell c).intruded := by
      have cell : (u.cell c).intruded = (s.cell c).intruded := by simp [hu]
      rw [cell]
      cases h : (s.cell c).intruded <;> simp_all
    rw [same] at freed
    rw [freed, ← twice, State.setCell_self]
    exact locked

theorem State.releases_keepsBook (l : List CellId) :
    KeepsBook (s.updateCells CellRec.freed l) (l.foldl (fun s c => s.release p q c) s) := by
  induction l generalizing s with
  | nil => exact .rfl
  | cons c rest ih => exact ((s.release_keepsBook p q c).updateCells _ rest).trans (ih _)

/-- The releases of a held run write its cell records and post (R24, step 2). -/
theorem State.releaseRun_keepsBook : KeepsBook (s.updateCells CellRec.freed (s.heldRun q)) (s.releaseRun p q) :=
  s.releases_keepsBook p q _

end

/-! ### Leaving the lists -/

section
variable (s : State) (p : Slot) (a : ApproachId)

@[simp] theorem State.leaveLists_map : (s.leaveLists p a).map = s.map := by
  unfold State.leaveLists; dsimp only; split <;> rfl

@[simp] theorem State.leaveLists_cells : (s.leaveLists p a).book.cells = s.book.cells := by
  unfold State.leaveLists; dsimp only; split <;> rfl

@[simp] theorem State.leaveLists_pool : (s.leaveLists p a).book.pool = s.book.pool := by
  unfold State.leaveLists; dsimp only; split <;> rfl

@[simp] theorem State.leaveLists_signals : (s.leaveLists p a).signals = s.signals := by
  unfold State.leaveLists; dsimp only; split <;> rfl

@[simp] theorem State.leaveLists_arrivals :
    (s.leaveLists p a).book.arrivals = s.book.arrivals.filter fun x => x ≠ p := by
  unfold State.leaveLists; dsimp only; split <;> rfl

theorem State.queue_leaveLists (b : ApproachId) :
    (s.leaveLists p a).queue b = if b = a then (s.queue a).filter (fun x => x ≠ p) else s.queue b := by
  have same : ∀ m, ((((s.setArrivals (s.book.arrivals.filter fun x => x ≠ p)).setQueue a
      ((s.queue a).filter fun x => x ≠ p))).setMark a m).queue b =
        if b = a then (s.queue a).filter (fun x => x ≠ p) else s.queue b := fun m => by
    refine (State.queue_setQueue _ a b _).trans ?_
    by_cases h : b = a
    · rw [if_pos h, if_pos h.symm]
    · rw [if_neg h, if_neg fun e => h e.symm]; rfl
  unfold State.leaveLists
  dsimp only
  split
  · exact same none
  · exact same (s.marks[a])

theorem State.marks_leaveLists (b : ApproachId) :
    (s.leaveLists p a).marks[b] = if b = a ∧ s.marks[a] = some p then none else s.marks[b] := by
  have marks : (s.leaveLists p a).marks = if s.marks[a] = some p then s.marks.set a none else s.marks := by
    unfold State.leaveLists; dsimp only; split <;> simp_all
  rw [marks]
  by_cases named : s.marks[a] = some p
  · rw [if_pos named]
    by_cases h : b = a
    · subst h; simp [named]
    · have : a.val ≠ b.val := fun e => h (Fin.ext e.symm)
      simp [h, this]
  · rw [if_neg named, if_neg fun h => named h.2]

end

end Sys2Proof.Machine

namespace Sys2Proof.Machine

/-! ### The laws when one slot changes -/

/-- What the lists read of a passage record: its route, and whether it has left them. -/
def Passage.listing (q : Passage) : RouteId × Bool := (q.route, q.live)

section
variable {s t : State} {p : Slot} {q : Passage}

theorem State.Listed.mem_arrivals (law : s.Listed) :
    p ∈ s.book.arrivals ↔ ∃ q, s.passage p = some q ∧ q.state = .queued := by
  obtain ⟨-, -, mem, -, -⟩ := law
  exact mem p

/-- An approach queue holds the QUEUED passages of its approach (R22). -/
theorem State.Listed.mem_queue (law : s.Listed) {a : ApproachId} :
    p ∈ s.queue a ↔ ∃ q, s.passage p = some q ∧ q.state = .queued ∧ s.approachOf q = a := by
  obtain ⟨-, -, mem, queues, -⟩ := law
  rw [queues a, List.mem_filter, mem p]
  constructor
  · rintro ⟨⟨q, hq, queued⟩, approach⟩
    exact ⟨q, hq, queued, by simpa [hq] using approach⟩
  · rintro ⟨q, hq, queued, approach⟩
    exact ⟨⟨q, hq, queued⟩, by simpa [hq] using approach⟩

theorem State.Listed.notMem_arrivals (law : s.Listed) (hq : s.passage p = some q) (live : q.live = true) :
    p ∉ s.book.arrivals := by
  rw [law.mem_arrivals]
  rintro ⟨r, hr, queued⟩
  cases hq.symm.trans hr
  exact Passage.live_eq_true_iff.1 live queued

theorem State.Listed.notMem_queue (law : s.Listed) (hq : s.passage p = some q) (a : ApproachId)
    (h : q.live = true ∨ s.approachOf q ≠ a) : p ∉ s.queue a := by
  rw [law.mem_queue]
  rintro ⟨r, hr, queued, approach⟩
  cases hq.symm.trans hr
  rcases h with live | other
  · exact Passage.live_eq_true_iff.1 live queued
  · exact other approach

theorem filter_ne_of_notMem {l : List Slot} (h : p ∉ l) : l.filter (fun x => x ≠ p) = l := by
  rw [List.filter_eq_self]
  intro x hx
  simpa using fun e : x = p => h (e ▸ hx)

/-- The lists stay lawful while every slot keeps its route and its place in them. -/
theorem State.Listed.same_listing (law : s.Listed) (working : t.map.working = s.map.working)
    (arrivals : t.book.arrivals = s.book.arrivals) (queues : t.book.queues = s.book.queues)
    (listing : ∀ x, (t.passage x).map Passage.listing = (s.passage x).map Passage.listing)
    (skips : t.SkipsBounded) : t.Listed := by
  obtain ⟨-, nodup, mem, filters, limits⟩ := law
  have transfer : ∀ {u v : State} {x : Slot} {r : Passage},
      (v.passage x).map Passage.listing = (u.passage x).map Passage.listing → v.passage x = some r →
        ∃ y, u.passage x = some y ∧ y.route = r.route ∧ y.live = r.live := by
    intro u v x r same hr
    rw [hr, Option.map_some] at same
    obtain ⟨y, hy, e⟩ := Option.map_eq_some_iff.1 same.symm
    exact ⟨y, hy, congrArg Prod.fst e, congrArg Prod.snd e⟩
  have queue : ∀ a, t.queue a = s.queue a := fun a => by rw [State.queue, State.queue, queues]
  refine ⟨skips, arrivals ▸ nodup, fun x => ?_, fun a => ?_, fun a => ?_⟩
  · rw [arrivals, mem x]
    constructor
    · rintro ⟨y, hy, queued⟩
      obtain ⟨r, hr, -, live⟩ := transfer (listing x).symm hy
      exact ⟨r, hr, Passage.live_eq_false_iff.1 (live.trans (Passage.live_eq_false_iff.2 queued))⟩
    · rintro ⟨r, hr, queued⟩
      obtain ⟨y, hy, -, live⟩ := transfer (listing x) hr
      exact ⟨y, hy, Passage.live_eq_false_iff.1 (live.trans (Passage.live_eq_false_iff.2 queued))⟩
  · rw [queue, arrivals, filters a]
    refine List.filter_congr fun x _ => ?_
    cases hr : t.passage x with
    | none =>
      have none : s.passage x = none := by simpa [hr] using listing x
      rw [none]; rfl
    | some r =>
      obtain ⟨y, hy, route, -⟩ := transfer (listing x) hr
      rw [hy]
      simp only [Option.any_some]
      rw [State.approachOf_congr working route.symm]
  · rw [queue, working]
    exact limits a

/-- The lists stay lawful when a slot leaves them all and is QUEUED no more (R22, R24, R47). -/
theorem State.Listed.leave (law : s.Listed) (p : Slot) (working : t.map.working = s.map.working)
    (others : ∀ x, x ≠ p → t.passage x = s.passage x)
    (gone : ∀ r, t.passage p = some r → r.state ≠ .queued ∧ r.skips ≤ s.map.working.options.skipLimit)
    (arrivals : t.book.arrivals = s.book.arrivals.filter fun x => x ≠ p)
    (queues : ∀ a, t.queue a = (s.queue a).filter fun x => x ≠ p) : t.Listed := by
  obtain ⟨skips, nodup, mem, filters, limits⟩ := law
  refine ⟨fun x r hr => ?_, arrivals ▸ nodup.filter _, fun x => ?_, fun a => ?_, fun a => ?_⟩
  · rw [working]
    by_cases hx : x = p
    · subst hx
      obtain ⟨left, bounded⟩ := gone r hr
      exact ⟨bounded, fun queued => (left queued).elim⟩
    · exact skips x r (others x hx ▸ hr)
  · rw [arrivals, List.mem_filter, mem x]
    by_cases hx : x = p
    · subst hx
      simp only [ne_eq, not_true_eq_false, decide_false, Bool.false_eq_true, and_false, false_iff]
      rintro ⟨r, hr, queued⟩
      exact (gone r hr).1 queued
    · simp [hx, others x hx]
  · rw [queues, arrivals, filters a, List.filter_filter, List.filter_filter]
    refine List.filter_congr fun x _ => ?_
    by_cases hx : x = p
    · simp [hx]
    · rw [others x hx]
      have same : ∀ y, t.approachOf y = s.approachOf y := fun y => State.approachOf_congr working rfl
      simp [hx, same]
  · rw [queues, working]
    exact (List.length_filter_le ..).trans (limits a)

/-- Holding stays lawful when one slot changes, with the cells that are its own. -/
theorem State.Held.update (law : s.Held) (p : Slot) (working : t.map.working = s.map.working)
    (others : ∀ x, x ≠ p → t.passage x = s.passage x)
    (single : ∀ r, t.passage p = some r → r.state = .granted → ∀ x, x ≠ p → ¬ s.GrantedAt x (t.approachOf r))
    (plain : ∀ r, t.passage p = some r → (t.cellsOf r).Nodup ∧ (r.state = .granted → r.firstHeld = 0))
    (reserved : ∀ c x, (t.cell c).reservation = some x → x ≠ p ∧ (s.cell c).reservation = some x ∨
      x = p ∧ ∃ r, t.passage p = some r ∧ r.state = .queued ∧ r.blocking = true ∧ c ∈ t.cellsOf r)
    (holders : ∀ c x, x ≠ p → ((t.cell c).holder = some x ↔ (s.cell c).holder = some x))
    (own : ∀ c, (t.cell c).holder = some p ↔ ∃ r, t.passage p = some r ∧ c ∈ t.heldRun r) : t.Held := by
  obtain ⟨single', plain', reserved', holders'⟩ := law
  have approach : ∀ r, t.approachOf r = s.approachOf r := fun r => State.approachOf_congr working rfl
  have cells : ∀ r, t.cellsOf r = s.cellsOf r := fun r => State.cellsOf_congr working rfl
  have runs : ∀ r, t.heldRun r = s.heldRun r := fun r => State.heldRun_congr working rfl rfl rfl
  have before : ∀ {x a}, x ≠ p → t.GrantedAt x a → s.GrantedAt x a := by
    rintro x a hx ⟨r, hr, granted, at_a⟩
    exact ⟨r, others x hx ▸ hr, granted, (approach r).symm.trans at_a⟩
  refine ⟨fun a x y hx hy => ?_, fun x r hr => ?_, fun c x hc => ?_, fun c x => ?_⟩
  · by_cases ex : x = p <;> by_cases ey : y = p
    · rw [ex, ey]
    · subst ex
      obtain ⟨r, hr, granted, rfl⟩ := hx
      exact (single r hr granted y ey (before ey hy)).elim
    · subst ey
      obtain ⟨r, hr, granted, rfl⟩ := hy
      exact (single r hr granted x ex (before ex hx)).elim
    · exact single' a x y (before ex hx) (before ey hy)
  · by_cases hx : x = p
    · subst hx; exact plain r hr
    · rw [cells]; exact plain' x r (others x hx ▸ hr)
  · rcases reserved c x hc with ⟨hx, hc⟩ | ⟨rfl, own⟩
    · obtain ⟨r, hr, rest⟩ := reserved' c x hc
      exact ⟨r, (others x hx).trans hr, by rwa [cells]⟩
    · exact own
  · by_cases hx : x = p
    · subst hx; exact own c
    · simp only [holders c x hx, others x hx, runs]
      exact holders' c x

/-- No reservation names a passage that is not QUEUED and blocking (R52). -/
theorem State.Held.not_reserved (law : s.Held) (hq : s.passage p = some q) (h : q.state ≠ .queued ∨ q.blocking = false)
    (c : CellId) : (s.cell c).reservation ≠ some p := by
  intro hc
  obtain ⟨-, -, reserved, -⟩ := law
  obtain ⟨r, hr, queued, blocking, -⟩ := reserved c p hc
  cases hq.symm.trans hr
  rcases h with h | h
  · exact h queued
  · rw [h] at blocking; cases blocking

theorem State.Held.holder_iff (law : s.Held) (hq : s.passage p = some q) {c : CellId} :
    (s.cell c).holder = some p ↔ c ∈ s.heldRun q := by
  obtain ⟨-, -, -, holders⟩ := law
  rw [holders c p]
  constructor
  · rintro ⟨r, hr, mem⟩
    cases hq.symm.trans hr
    exact mem
  · exact fun mem => ⟨q, hq, mem⟩

theorem State.Held.nodup (law : s.Held) (hq : s.passage p = some q) : (s.cellsOf q).Nodup := by
  obtain ⟨-, plain, -, -⟩ := law
  exact (plain p q hq).1

theorem SameCore.setPassage (h : SameCore s t) (p : Slot) (x : Option Passage) :
    SameCore (s.setPassage p x) (t.setPassage p x) where
  working := h.working
  arrivals := h.arrivals
  queues := h.queues
  cell := h.cell
  passage y := by
    rw [State.passage_setPassage, State.passage_setPassage]
    split
    · rfl
    · exact h.passage y

theorem State.setPassage_self (hq : s.passage p = some q) : s.setPassage p (some q) = s := by
  rw [← hq]
  simp [State.setPassage, State.passage]

/-! ### Releases and removals -/

theorem CellRec.freed_lockLaw {r : CellRec} : (r.freed.lock = .locked → r.freed.holder = none) ∧
    (r.freed.lock = .pending → r.freed.holder ≠ none) := by
  unfold CellRec.freed
  refine ⟨fun _ => rfl, fun h => ?_⟩
  dsimp only at h
  split at h
  · cases h
  · contradiction

/-- A live passage gives up the front of its held run, and with the whole of it its slot (R23, R24, R67). -/
theorem State.free_tends (hq : s.passage p = some q) (live : q.live = true) {front rest : List CellId}
    (run : s.heldRun q = front ++ rest) (x : Option Passage) (hnone : x = none → rest = [])
    (hsome : ∀ r, x = some r → q.state ≠ .granted ∧ q.SameName r ∧ r.state = q.state ∧ r.skips = q.skips ∧
      r.firstHeld = q.firstHeld + front.length) :
    Tends s ((s.updateCells CellRec.freed front).setPassage p x) := by
  have cells : ∀ c, ((s.updateCells CellRec.freed front).setPassage p x).cell c =
      if c ∈ front then (s.cell c).freed else s.cell c := fun c => s.cell_updateCells CellRec.freed_freed front c
  have pool : ∀ y, ((s.updateCells CellRec.freed front).setPassage p x).passage y =
      if p = y then x else s.passage y := fun y => by rw [State.passage_setPassage, State.updateCells_passage]
  have working : ((s.updateCells CellRec.freed front).setPassage p x).map.working = s.map.working := by simp
  have lists : ((s.updateCells CellRec.freed front).setPassage p x).book.arrivals = s.book.arrivals := by simp
  have queues : ∀ a, ((s.updateCells CellRec.freed front).setPassage p x).queue a = s.queue a := fun a =>
    s.updateCells_queue _ _ a
  generalize (s.updateCells CellRec.freed front).setPassage p x = t at *
  have at_p : t.passage p = x := by simp [pool]
  have others : ∀ y, y ≠ p → t.passage y = s.passage y := fun y hy => by rw [pool, if_neg fun e => hy e.symm]
  refine ⟨working, fun y r hr => ?_, fun c => ?_, fun law c => ?_, fun law => ?_, fun lists law => ?_⟩
  · by_cases hy : y = p
    · subst hy
      obtain ⟨-, name, -⟩ := hsome r (at_p ▸ hr)
      exact ⟨q, hq, name⟩
    · exact ⟨r, others y hy ▸ hr, .rfl⟩
  · rw [cells]
    split
    · by_cases pending : (s.cell c).lock = .pending <;> simp [CellRec.freed, pending]
    · exact .inl rfl
  · rw [cells]
    split
    · exact CellRec.freed_lockLaw
    · exact law c
  · refine law.leave p working others (fun r hr => ?_) ?_ fun a => ?_
    · obtain ⟨-, -, state, count, -⟩ := hsome r (at_p ▸ hr)
      obtain ⟨skips, -⟩ := law
      rw [state, count]
      exact ⟨Passage.live_eq_true_iff.1 live, (skips p q hq).1⟩
    · rw [lists, filter_ne_of_notMem (law.notMem_arrivals hq live)]
    · rw [queues, filter_ne_of_notMem (law.notMem_queue hq a (.inl live))]
  · have nodup : (front ++ rest).Nodup := by
      rw [← run, State.heldRun_of_live live]
      exact (law.nodup hq).sublist (List.drop_sublist ..)
    have disjoint := (List.nodup_append'.1 nodup).2.2
    refine law.update p working others (fun r hr granted => ?_) (fun r hr => ?_) (fun c y hc => .inl ?_) (fun c y hy => ?_)
      fun c => ?_
    · obtain ⟨entered, -, state, -⟩ := hsome r (at_p ▸ hr)
      exact (entered (state ▸ granted)).elim
    · obtain ⟨entered, ⟨-, -, route⟩, state, -⟩ := hsome r (at_p ▸ hr)
      rw [State.cellsOf_congr working route, state]
      exact ⟨law.nodup hq, fun granted => (entered granted).elim⟩
    · have hc : (s.cell c).reservation = some y := by
        rw [cells] at hc
        split at hc <;> exact hc
      refine ⟨fun e => ?_, hc⟩
      subst e
      exact law.not_reserved hq (.inl (Passage.live_eq_true_iff.1 live)) c hc
    · rw [cells]
      split
      · rename_i mem
        have held : (s.cell c).holder = some p := (law.holder_iff hq).2 (run ▸ List.mem_append_left _ mem)
        simp [CellRec.freed, held, Ne.symm hy]
      · rfl
    · have left : ∀ r, x = some r → t.heldRun r = rest := fun r hr => by
        obtain ⟨-, ⟨-, -, route⟩, state, -, first⟩ := hsome r hr
        have live' : r.live = true := (Passage.live_congr state).trans live
        rw [State.heldRun_of_live live', first, State.cellsOf_congr working route, ← List.drop_drop,
          ← State.heldRun_of_live live, run, List.drop_left]
      have after : (∃ r, t.passage p = some r ∧ c ∈ t.heldRun r) ↔ c ∈ rest := by
        rw [at_p]
        cases hx : x with
        | none => simp [hnone hx]
        | some r => simp [left r hx]
      have held := law.holder_iff hq (c := c)
      rw [run, List.mem_append] at held
      rw [cells, after]
      split
      · rename_i mem
        simpa [CellRec.freed] using fun h => disjoint mem h
      · rename_i notMem
        rw [held, or_iff_right notMem]

/-- A passage leaves the lists and gives up its reservations (R22, R53). -/
def State.unlisted (s : State) (p : Slot) (q : Passage) : State :=
  if q.blocking then (s.leaveLists p (s.approachOf q)).clearReservations p else s.leaveLists p (s.approachOf q)

theorem State.unlisted_map : (s.unlisted p q).map = s.map := by
  unfold State.unlisted; split <;> simp

theorem State.unlisted_arrivals : (s.unlisted p q).book.arrivals = s.book.arrivals.filter fun x => x ≠ p := by
  unfold State.unlisted; split <;> simp

theorem State.unlisted_passage (x : Slot) : (s.unlisted p q).passage x = s.passage x :=
  State.passage_congr (by unfold State.unlisted; split <;> simp) x

theorem State.queue_clearReservations (s : State) (p : Slot) (a : ApproachId) :
    (s.clearReservations p).queue a = s.queue a := by
  simp [State.queue]

theorem State.queue_unlisted (a : ApproachId) :
    (s.unlisted p q).queue a = if a = s.approachOf q then (s.queue a).filter (fun x => x ≠ p) else s.queue a := by
  have left := s.queue_leaveLists p (s.approachOf q) a
  have same : (s.unlisted p q).queue a = (s.leaveLists p (s.approachOf q)).queue a := by
    unfold State.unlisted
    split
    · rw [State.queue_clearReservations]
    · rfl
  rw [same, left]
  by_cases h : a = s.approachOf q
  · rw [if_pos h, if_pos h, h]
  · rw [if_neg h, if_neg h]

theorem State.cell_leaveLists (s : State) (p : Slot) (a : ApproachId) (c : CellId) :
    (s.leaveLists p a).cell c = s.cell c := State.cell_congr (s.leaveLists_cells p a) c

theorem State.cell_unlisted (c : CellId) :
    (s.unlisted p q).cell c =
      { s.cell c with
        reservation := if q.blocking = true ∧ (s.cell c).reservation = some p then none
          else (s.cell c).reservation } := by
  unfold State.unlisted
  by_cases blocking : q.blocking = true
  · rw [if_pos blocking, State.cell_clearReservations, State.cell_leaveLists]
    by_cases h : (s.cell c).reservation = some p <;> simp [blocking, h]
  · rw [if_neg blocking, State.cell_leaveLists]
    simp [blocking]

/-- Under the law of the lists a passage leaves every queue by leaving its own. -/
theorem State.Listed.queue_unlisted (law : s.Listed) (hq : s.passage p = some q) (a : ApproachId) :
    (s.unlisted p q).queue a = (s.queue a).filter fun x => x ≠ p := by
  rw [State.queue_unlisted]
  split
  · rfl
  · rename_i h
    exact (filter_ne_of_notMem (law.notMem_queue hq a (.inr fun e => h e.symm))).symm

/-- A QUEUED passage leaves its slot, the lists and its reservations (R24, step 3). -/
theorem State.unlist_tends (hq : s.passage p = some q) (queued : q.state = .queued) :
    Tends s ((s.unlisted p q).setPassage p none) := by
  have cells : ∀ c, ((s.unlisted p q).setPassage p none).cell c = (s.unlisted p q).cell c := fun c => rfl
  have others : ∀ y, y ≠ p → ((s.unlisted p q).setPassage p none).passage y = s.passage y := fun y hy => by
    rw [State.passage_setPassage, if_neg fun e => hy e.symm, State.unlisted_passage]
  have gone : ((s.unlisted p q).setPassage p none).passage p = none := by simp
  have working : ((s.unlisted p q).setPassage p none).map.working = s.map.working := by
    rw [State.setPassage_map, State.unlisted_map]
  refine ⟨working, fun y r hr => ?_, fun c => .inl ?_, fun law c => ?_, fun law => ?_, fun lists law => ?_⟩
  · by_cases hy : y = p
    · subst hy; rw [gone] at hr; cases hr
    · exact ⟨r, others y hy ▸ hr, .rfl⟩
  · rw [cells, State.cell_unlisted]
  · rw [cells, State.cell_unlisted]
    exact law c
  · refine law.leave p working others (fun r hr => ?_) ?_ fun a => ?_
    · rw [gone] at hr; cases hr
    · rw [State.setPassage_book_arrivals, State.unlisted_arrivals]
    · exact law.queue_unlisted hq a
  · refine law.update p working others (fun r hr => ?_) (fun r hr => ?_) (fun c y hc => .inl ?_) (fun c y _ => ?_)
      fun c => ?_
    · rw [gone] at hr; cases hr
    · rw [gone] at hr; cases hr
    · rw [cells, State.cell_unlisted] at hc
      dsimp only at hc
      split at hc
      · cases hc
      · rename_i kept
        refine ⟨fun e => ?_, hc⟩
        subst e
        have unblocked : q.blocking = false := by simpa using fun b => kept ⟨b, hc⟩
        exact law.not_reserved hq (.inr unblocked) c hc
    · rw [cells, State.cell_unlisted]
    · rw [cells, State.cell_unlisted, gone]
      have none : (s.cell c).holder ≠ some p := by
        rw [Ne, law.holder_iff hq, State.heldRun_of_queued queued]
        exact List.not_mem_nil
      simp [none]

/-- What a removal leaves of the book, apart from deadlines (R24). -/
def State.removedCore (s : State) (p : Slot) (q : Passage) : State :=
  if q.live then (s.updateCells CellRec.freed (s.heldRun q)).setPassage p none
  else (s.unlisted p q).setPassage p none

theorem State.remove_sameCore (hq : s.passage p = some q) (o : Outcome) :
    SameCore (s.removedCore p q) (s.remove p o) := by
  unfold State.remove
  rw [hq]
  dsimp only
  have post : ∀ u : State, SameCore (u.setPassage p none)
      (match o.body with
        | none => u.setPassage p none
        | some body => (u.setPassage p none).postOwner body p q) := by
    intro u
    split
    · exact .rfl
    · exact (State.postOwner_keepsBook _ _ _ _).sameCore
  refine SameCore.trans ?_ (post _)
  unfold State.removedCore
  by_cases live : q.live = true
  · simp only [live, if_true]
    have released := (s.releaseRun_keepsBook p q).sameCore.trans
      (State.modDeadline_sameCore _ p fun d => { d with run := none })
    split
    · exact (released.trans (State.setLatch_sameCore _ _ _)).setPassage p none
    · exact released.setPassage p none
  · simp only [live]
    exact .rfl

/-- A removal keeps the laws of the book (R24). -/
theorem State.remove_tends (s : State) (p : Slot) (o : Outcome) : Tends s (s.remove p o) := by
  cases hq : s.passage p with
  | none => rw [State.remove, hq]; exact .rfl
  | some q =>
    refine Tends.trans ?_ (State.remove_sameCore hq o).tends
    unfold State.removedCore
    split
    · rename_i live
      exact State.free_tends hq live (List.append_nil _).symm none (fun _ => .refl _) fun r hr => by cases hr
    · rename_i live
      exact State.unlist_tends hq (Passage.live_eq_false_iff.1 (by simpa using live))

theorem State.flush_tends (s : State) (which : Passage → Bool) : Tends s (s.flush which) :=
  tends_foldl (fun s p => s.remove_tends p .flushed) _ s

end

end Sys2Proof.Machine

namespace Sys2Proof.Machine

/-! ### The release examination -/

/-- How many cells at the front of a held run that begins at route index `i` meet their condition one after another
(R67, R68). -/
def frontCount (heard : CellId → Occupancy) (pos : Nat) : Nat → List CellId → Nat
  | _, [] => 0
  | i, c :: rest => if meetsCondition heard pos i (c :: rest) then frontCount heard pos (i + 1) rest + 1 else 0

theorem frontCount_le (heard : CellId → Occupancy) (pos : Nat) (l : List CellId) :
    ∀ i, frontCount heard pos i l ≤ l.length := by
  induction l with
  | nil => exact fun _ => Nat.le_refl 0
  | cons c rest ih =>
    intro i
    unfold frontCount
    split
    · exact Nat.succ_le_succ (ih _)
    · exact Nat.zero_le _

section
variable {s : State} {p : Slot} {q : Passage}

theorem State.setPassage_setPassage (s : State) (p : Slot) (x y : Option Passage) :
    (s.setPassage p x).setPassage p y = s.setPassage p y := by
  simp [State.setPassage]

theorem State.updateCells_setPassage (s : State) (f : CellRec → CellRec) (l : List CellId) (x : Option Passage) :
    (s.setPassage p x).updateCells f l = (s.updateCells f l).setPassage p x := by
  induction l generalizing s with
  | nil => rfl
  | cons c rest ih => exact ih (s.setCell c (f (s.cell c)))

/-- One release of an examination frees the cell and moves the first held index up (R23, R67). -/
theorem State.releaseStep_keepsBook (hq : s.passage p = some q) (c : CellId) (i : Nat) :
    KeepsBook ((s.setCell c (s.cell c).freed).setPassage p (some { q with firstHeld := i + 1 }))
      ((s.release p q c).modPassage p fun q => { q with firstHeld := i + 1 }) := by
  have moved := (s.release_keepsBook p q c).modPassage p fun q => { q with firstHeld := i + 1 }
  have at_p : (s.setCell c (s.cell c).freed).passage p = some q := hq
  rwa [State.modPassage, at_p] at moved

section
variable {pos i : Nat} {c : CellId} {rest : List CellId}

theorem State.releaseFront_of_meets (hq : s.passage p = some q)
    (meets : meetsCondition s.heard pos i (c :: rest) = true) :
    State.releaseFront p pos i (c :: rest) s = State.releaseFront p pos (i + 1) rest
      ((s.release p q c).modPassage p fun q => { q with firstHeld := i + 1 }) := by
  rw [State.releaseFront, hq]
  exact if_pos meets

theorem State.releaseFront_of_stops (hq : s.passage p = some q)
    (stops : ¬ meetsCondition s.heard pos i (c :: rest) = true) :
    State.releaseFront p pos i (c :: rest) s = (s, c :: rest) := by
  rw [State.releaseFront, hq]
  exact if_neg stops

/-- A release does not change what the Tracker has heard. -/
theorem State.heard_release {t : State} (step : KeepsBook ((s.setCell c (s.cell c).freed).setPassage p
    (some { q with firstHeld := i + 1 })) t) : t.heard = s.heard := by
  funext d
  rw [State.heard, State.heard, step.cell d]
  refine congrArg CellRec.heard (State.cell_setCell s c d _) |>.trans ?_
  split
  · rename_i e; rw [← e]; rfl
  · rfl

end

/-- The examination releases the front of the run that meets its condition, and moves the first held index past it
(R67). -/
theorem State.releaseFront_eq (pos : Nat) (l : List CellId) : ∀ (i : Nat) (s : State) (q : Passage),
    s.passage p = some q → q.firstHeld = i →
      (State.releaseFront p pos i l s).2 = l.drop (frontCount s.heard pos i l) ∧
      KeepsBook
        ((s.updateCells CellRec.freed (l.take (frontCount s.heard pos i l))).setPassage p
          (some { q with firstHeld := i + frontCount s.heard pos i l }))
        (State.releaseFront p pos i l s).1 := by
  induction l with
  | nil =>
    intro i s q hq hi
    subst hi
    exact ⟨rfl, .of_eq (State.setPassage_self hq)⟩
  | cons c rest ih =>
    intro i s q hq hi
    by_cases meets : meetsCondition s.heard pos i (c :: rest) = true
    · have step := State.releaseStep_keepsBook hq c i
      rw [State.releaseFront_of_meets hq meets]
      generalize (s.release p q c).modPassage p (fun q => { q with firstHeld := i + 1 }) = u at step ⊢
      have at_p : u.passage p = some { q with firstHeld := i + 1 } := by rw [step.passage p]; simp
      obtain ⟨left, book⟩ := ih (i + 1) u _ at_p rfl
      have count : frontCount s.heard pos i (c :: rest) = frontCount s.heard pos (i + 1) rest + 1 := by
        rw [frontCount, if_pos meets]
      rw [State.heard_release step] at left book
      rw [count]
      refine ⟨left, ?_⟩
      generalize frontCount s.heard pos (i + 1) rest = n at book ⊢
      have before := (step.updateCells CellRec.freed (rest.take n)).setPassage p
        (some { q with firstHeld := i + 1 + n })
      rw [State.updateCells_setPassage, State.setPassage_setPassage] at before
      rw [List.take_succ_cons, State.updateCells_cons, Nat.add_comm n 1, ← Nat.add_assoc]
      exact before.trans book
    · have count : frontCount s.heard pos i (c :: rest) = 0 := by rw [frontCount, if_neg meets]
      subst hi
      rw [State.releaseFront_of_stops hq meets, count]
      exact ⟨rfl, .of_eq (State.setPassage_self hq)⟩

/-- The releases of an examination keep the laws of the book. -/
theorem State.releaseFront_tends (hq : s.passage p = some q) (entered : q.state = .entered) (pos : Nat) :
    Tends s (State.releaseFront p pos q.firstHeld (s.heldRun q) s).1 := by
  obtain ⟨-, book⟩ := State.releaseFront_eq pos (s.heldRun q) q.firstHeld s q hq rfl
  have bound := frontCount_le s.heard pos (s.heldRun q) q.firstHeld
  refine Tends.trans ?_ book.sameCore.tends
  refine State.free_tends hq (Passage.live_eq_true_iff.2 (by simp [entered]))
    (List.take_append_drop (frontCount s.heard pos q.firstHeld (s.heldRun q)) _).symm _ (fun h => by cases h) ?_
  rintro r ⟨⟩
  exact ⟨by simp [entered], .rfl, rfl, rfl, by simp [bound]⟩

theorem State.examination_tends (s : State) (p : Slot) (toBlind : Bool) : Tends s (s.examination p toBlind).1 := by
  unfold State.examination
  split
  · exact .rfl
  · rename_i q hq
    split
    · rename_i entered
      have released := State.releaseFront_tends hq entered (q.position.getD 0)
      dsimp only
      split
      · split
        · exact released.trans (State.remove_tends _ p .cleared)
        · exact released
      · split
        · exact released.trans (State.armBlindClear_sameCore _ _).tends
        · exact released
    · exact .rfl

/-! ### The Tracker -/

/-- A GRANTED passage becomes ENTERED, still holding its whole route (R63). -/
theorem State.setEntered_tends (hq : s.passage p = some q) (granted : q.state = .granted) (position : Option Nat) :
    Tends s (s.setPassage p (some { q with state := .entered, position := position, firstHeld := 0 })) := by
  have cells : ∀ c, (s.setPassage p (some { q with state := .entered, position := position, firstHeld := 0 })).cell c =
      s.cell c := fun c => rfl
  have pool : ∀ y, (s.setPassage p (some { q with state := .entered, position := position, firstHeld := 0 })).passage y =
      if p = y then some { q with state := .entered, position := position, firstHeld := 0 } else s.passage y :=
    fun y => State.passage_setPassage ..
  have others : ∀ y, y ≠ p → (s.setPassage p (some { q with state := .entered, position := position, firstHeld := 0 })).passage y =
      s.passage y := fun y hy => by rw [pool, if_neg fun e => hy e.symm]
  have at_p := pool p
  rw [if_pos rfl] at at_p
  have live : q.live = true := Passage.live_eq_true_iff.2 (by simp [granted])
  refine ⟨rfl, fun y r hr => ?_, fun c => .inl rfl, fun law => law, fun law => ?_, fun lists law => ?_⟩
  · by_cases hy : y = p
    · subst hy
      cases at_p.symm.trans hr
      exact ⟨q, hq, .rfl⟩
    · exact ⟨r, others y hy ▸ hr, .rfl⟩
  · have skips := law.1
    refine law.same_listing rfl rfl rfl (fun y => ?_) fun y r hr => ?_
    · rw [pool]
      split
      · rename_i e
        rw [← e, hq]
        simp [Passage.listing, Passage.live, granted]
      · rfl
    · by_cases hy : y = p
      · subst hy
        cases at_p.symm.trans hr
        exact ⟨(skips y q hq).1, fun h => by cases h⟩
      · exact skips y r (others y hy ▸ hr)
  · have first := (law.2.1 p q hq).2 granted
    refine law.update p rfl others (fun r hr => ?_) (fun r hr => ?_) (fun c y hc => .inl ⟨fun e => ?_, hc⟩)
      (fun c y _ => .rfl) fun c => ?_
    · cases at_p.symm.trans hr
      exact fun h => by cases h
    · cases at_p.symm.trans hr
      have nodup := law.nodup hq
      exact ⟨nodup, fun h => by cases h⟩
    · subst e
      exact law.not_reserved hq (.inl (Passage.live_eq_true_iff.1 live)) c hc
    · rw [cells, law.holder_iff hq, at_p]
      have run : (s.setPassage p (some { q with state := .entered, position := position, firstHeld := 0 })).heldRun
          { q with state := .entered, position := position, firstHeld := 0 } = s.heldRun q :=
        State.heldRun_congr rfl rfl (by simp [Passage.live, granted]) first.symm
      simp [run]

theorem State.enter_tends (hq : s.passage p = some q) (granted : q.state = .granted) (k : Nat) (c : CellId) :
    Tends s (s.enter p q k c) :=
  ((State.setEntered_tends hq granted (some k)).trans
    ((State.setLatch_sameCore _ _ _).trans (State.armDwell_sameCore _ _ _)).tends).trans (State.examination_tends _ _ _)

/-- A change report keeps the laws of the book (R59). -/
theorem State.takeChange_tends (s : State) (c : CellId) (occ : Occupancy) (stamp : Time) :
    Tends s (s.takeChange c occ stamp).1 := by
  unfold State.takeChange
  dsimp only
  have told : SameCore s
      (s.setCell c { s.cell c with heard := occ, intruded := (s.cell c).intruded && !decide (occ ≠ .occupied) }) :=
    s.setCell_sameCore c rfl
  generalize s.setCell c { s.cell c with heard := occ, intruded := (s.cell c).intruded && !decide (occ ≠ .occupied) } =
    u at told
  refine told.tends.trans ?_
  split
  · split
    · exact .rfl
    · exact (u.intrude_sameCore _ _ _ _).tends
  · rename_i p q found
    have hq : u.passage p = some q := by
      obtain ⟨x, -, hx⟩ := Option.bind_eq_some_iff.1 found
      obtain ⟨y, hy, e⟩ := Option.map_eq_some_iff.1 hx
      cases e
      exact hy
    split
    · exact .rfl
    · rename_i granted
      split
      · exact .rfl
      · split
        · split
          · exact State.enter_tends hq granted _ _
          · exact (u.intrude_sameCore _ _ _ _).tends
        · exact (u.intrude_sameCore _ _ _ _).tends
    · refine Tends.trans ?_ (State.examination_tends _ _ _)
      split
      · exact .rfl
      · exact (u.occupiedAhead_sameCore _ _ _ _).tends

end

/-! ### Sensors and SETTLING -/

section
variable (s : State)

theorem State.toStandby_tends (c : CellId) : Tends s (s.toStandby c).1 :=
  ((s.setSensor_sameCore c { s.sensor c with mode := .standby, count := 0 }).trans
    (State.setCell_sameCore _ c (r := { s.cell c with occupancy := .blind, stamp := s.timer.floor }) rfl)).tends.trans
      (State.takeChange_tends _ _ _ _)

theorem State.restartFilter_tends (c : CellId) : Tends s (s.restartFilter c).1 := by
  have rested : SameCore s ((s.setSensor c { s.sensor c with raw := .free, count := 0 }).setCell c
      { s.cell c with
        occupancy := .free
        stamp := if (s.cell c).occupancy = .free then (s.cell c).stamp else s.timer.floor }) :=
    (s.setSensor_sameCore c _).trans (State.setCell_sameCore _ c rfl)
  unfold State.restartFilter
  dsimp only
  split
  · exact rested.tends
  · exact rested.tends.trans (State.takeChange_tends _ _ _ _)

theorem State.toActive_tends (c : CellId) : Tends s (s.toActive c).1 :=
  (s.setSensor_sameCore c _).tends.trans (State.restartFilter_tends _ c)

theorem State.changeSensor_tends (c : CellId) (m : SensorMode) : Tends s (s.changeSensor c m).1 := by
  cases m
  · exact s.toActive_tends c
  · exact s.toStandby_tends c

theorem State.restartFilters_tends : Tends s s.restartFilters :=
  tends_foldl (fun s c => by split; exacts [s.restartFilter_tends c, .rfl]) _ s

theorem State.returnSensor_tends (c : CellId) : Tends s (s.returnSensor c) := by
  unfold State.returnSensor
  split
  · exact .rfl
  · split
    · exact s.restartFilter_tends c
    · exact .rfl
    · exact s.toStandby_tends c
    · exact s.toActive_tends c

theorem State.enterSettling_tends : Tends s s.enterSettling := by
  unfold State.enterSettling
  dsimp only
  refine s.restartFilters_tends.trans (SameCore.tends (SameCore.trans ?_ (State.postMode_sameCore _)))
  split
  · exact State.setControl_sameCore _ _
  · exact (State.setControl_sameCore _ _).trans (State.halt_sameCore _ _ _)

end

end Sys2Proof.Machine

namespace Sys2Proof.Machine

/-! ### The grant pass: skips and reservations -/

section
variable {q : Passage} {limit : Nat}

/-- A skip changes the count and the blocking flag alone (R50, R51). -/
theorem Passage.gainSkip_eq (q : Passage) (limit : Nat) :
    ∃ n b, q.gainSkip limit = { q with skips := n, blocking := b } ∧ (q.blocking = true → b = true) ∧
      (q.skips ≤ limit → n ≤ limit) ∧ (n = limit → n = q.skips ∧ b = q.blocking ∨ b = true) := by
  unfold Passage.gainSkip
  split
  · refine ⟨_, _, rfl, fun h => by simp [h], fun _ => by omega, fun h => .inr (by simp [h])⟩
  · exact ⟨_, _, rfl, id, id, fun _ => .inl ⟨rfl, rfl⟩⟩

end

section
variable {s t u : State} {p : Slot} {q : Passage}

/-- Skip accounting keeps the laws of the book (R49 to R51). -/
theorem State.gainSkip_tends (s : State) (p : Slot) :
    Tends s (s.modPassage p fun q => q.gainSkip s.map.working.options.skipLimit) := by
  cases hq : s.passage p with
  | none =>
    have same : s.modPassage p (fun q => q.gainSkip s.map.working.options.skipLimit) = s := by
      rw [State.modPassage, hq, Option.map_none, ← hq]
      simp [State.setPassage, State.passage]
    rw [same]
    exact .rfl
  | some q =>
    rw [State.modPassage, hq, Option.map_some]
    obtain ⟨n, b, skip, keeps, bound, full⟩ := q.gainSkip_eq s.map.working.options.skipLimit
    rw [skip]
    have pool : ∀ y, (s.setPassage p (some { q with skips := n, blocking := b })).passage y =
        if p = y then some { q with skips := n, blocking := b } else s.passage y :=
      fun y => State.passage_setPassage ..
    have others : ∀ y, y ≠ p → (s.setPassage p (some { q with skips := n, blocking := b })).passage y = s.passage y :=
      fun y hy => by rw [pool, if_neg fun e => hy e.symm]
    have at_p := pool p
    rw [if_pos rfl] at at_p
    refine ⟨rfl, fun y r hr => ?_, fun c => .inl rfl, fun law => law, fun law => ?_, fun lists law => ?_⟩
    · by_cases hy : y = p
      · subst hy
        cases at_p.symm.trans hr
        exact ⟨q, hq, .rfl⟩
      · exact ⟨r, others y hy ▸ hr, .rfl⟩
    · have skips := law.1
      refine law.same_listing rfl rfl rfl (fun y => ?_) fun y r hr => ?_
      · rw [pool]
        split
        · rename_i e; rw [← e, hq]; rfl
        · rfl
      · by_cases hy : y = p
        · subst hy
          cases at_p.symm.trans hr
          obtain ⟨bounded, blocks⟩ := skips y q hq
          refine ⟨bound bounded, fun queued atLimit positive => ?_⟩
          dsimp only at queued atLimit positive ⊢
          rcases full atLimit with ⟨same, same'⟩ | blocking
          · rw [same']
            exact blocks queued (same ▸ atLimit) (same ▸ positive)
          · exact blocking
        · exact skips y r (others y hy ▸ hr)
    · obtain ⟨single, plain, reserved, -⟩ := id law
      refine law.update p rfl others (fun r hr granted y hy hg => ?_) (fun r hr => ?_) (fun c y hc => ?_)
        (fun c y _ => .rfl) fun c => ?_
      · cases at_p.symm.trans hr
        exact hy (single _ y p hg ⟨q, hq, granted, rfl⟩)
      · cases at_p.symm.trans hr
        exact plain p q hq
      · by_cases hy : y = p
        · subst hy
          obtain ⟨r, hr, queued, blocking, mem⟩ := reserved c y hc
          cases hq.symm.trans hr
          exact .inr ⟨rfl, _, at_p, queued, keeps blocking, mem⟩
        · exact .inl ⟨hy, hc⟩
      · rw [at_p]
        refine (law.holder_iff hq (c := c)).trans ?_
        have run : (s.setPassage p (some { q with skips := n, blocking := b })).heldRun
            { q with skips := n, blocking := b } = s.heldRun q := State.heldRun_congr rfl rfl rfl rfl
        simp [run]

/-- A cell's record with the reservation of a passage (R52). -/
def CellRec.reservedFor (p : Slot) (r : CellRec) : CellRec := { r with reservation := some p }

/-- A cell's record with a passage as its holder (R47). -/
def CellRec.heldBy (p : Slot) (r : CellRec) : CellRec := { r with holder := some p }

theorem State.account_tends (s : State) (order : List Slot) (ordered granted : List Entrant) :
    Tends s (s.account order ordered granted) :=
  tends_foldl (fun s h => by split; exacts [s.gainSkip_tends h.1, .rfl]) ordered s

/-- The reservations of one blocking passage keep the laws of the book (R52). -/
theorem State.reserve_tends (hq : s.passage p = some q) (queued : q.state = .queued) (blocking : q.blocking = true) :
    Tends s (s.updateCells (CellRec.reservedFor p) (s.cellsOf q)) := by
  have cells : ∀ c, (s.updateCells (CellRec.reservedFor p) (s.cellsOf q)).cell c =
      if c ∈ s.cellsOf q then CellRec.reservedFor p (s.cell c) else s.cell c :=
    fun c => s.cell_updateCells (f := CellRec.reservedFor p) (fun _ => rfl) _ c
  have pool : ∀ y, (s.updateCells (CellRec.reservedFor p) (s.cellsOf q)).passage y = s.passage y :=
    fun y => s.updateCells_passage _ _ y
  have working := congrArg MapStore.working
    (s.updateCells_map (CellRec.reservedFor p) (s.cellsOf q))
  have arrivals := s.updateCells_arrivals (CellRec.reservedFor p) (s.cellsOf q)
  have queues := s.updateCells_queues (CellRec.reservedFor p) (s.cellsOf q)
  generalize s.updateCells (CellRec.reservedFor p) (s.cellsOf q) = t at *
  have holder : ∀ c, (t.cell c).holder = (s.cell c).holder := fun c => by rw [cells]; split <;> rfl
  have lock : ∀ c, (t.cell c).lock = (s.cell c).lock := fun c => by rw [cells]; split <;> rfl
  refine ⟨working, fun y r hr => ⟨r, pool y ▸ hr, .rfl⟩, fun c => .inl (lock c), fun law c => ?_, fun law => ?_,
    fun lists law => ?_⟩
  · rw [lock, holder]
    exact law c
  · have skips := law.1
    refine law.same_listing working arrivals queues (fun y => by rw [pool]) fun y r hr => ?_
    rw [working]
    exact skips y r (pool y ▸ hr)
  · have sameCells : ∀ x, t.cellsOf x = s.cellsOf x := fun x => State.cellsOf_congr working rfl
    obtain ⟨single, plain, reserved, holders⟩ := law
    refine ⟨fun a x y hx hy => ?_, fun y r hr => ?_, fun c y hc => ?_, fun c y => ?_⟩
    · have before : ∀ {y}, t.GrantedAt y a → s.GrantedAt y a := by
        rintro y ⟨r, hr, granted, approach⟩
        exact ⟨r, pool y ▸ hr, granted, (State.approachOf_congr working rfl).symm.trans approach⟩
      exact single a x y (before hx) (before hy)
    · rw [sameCells]
      exact plain y r (pool y ▸ hr)
    · simp only [pool, sameCells]
      rw [cells] at hc
      split at hc
      · rename_i mem
        cases hc
        exact ⟨q, hq, queued, blocking, mem⟩
      · exact reserved c y hc
    · have runs : ∀ x, t.heldRun x = s.heldRun x := fun x => State.heldRun_congr working rfl rfl rfl
      simp only [holder, pool, runs]
      exact holders c y

theorem State.reserveFor_tends (s : State) (p : Slot) : Tends s (s.reserveFor p) := by
  unfold State.reserveFor
  split
  · exact .rfl
  · rename_i q hq
    dsimp only
    split
    · rename_i h
      simp only [Bool.and_eq_true, decide_eq_true_eq] at h
      obtain ⟨⟨⟨queued, blocking⟩, -⟩, -⟩ := h
      exact State.reserve_tends hq queued blocking
    · exact .rfl

theorem State.sweep_tends (s : State) : Tends s s.sweep := tends_foldl State.reserveFor_tends _ s

/-! ### The grant pass: one grant -/

theorem State.grantedOn_some {a : ApproachId} (h : s.grantedOn a = some p) : s.GrantedAt p a := by
  have mem := List.mem_of_mem_head? h
  rw [State.slotsWhere, List.mem_filter] at mem
  obtain ⟨-, mem⟩ := mem
  obtain ⟨q, hq, granted⟩ := Option.any_eq_true _ _ |>.1 mem
  simp only [Bool.and_eq_true, decide_eq_true_eq] at granted
  exact ⟨q, hq, granted.1, granted.2⟩

theorem State.grantedOn_none {a : ApproachId} (h : s.grantedOn a = none) (p : Slot) : ¬ s.GrantedAt p a := by
  rintro ⟨q, hq, granted, approach⟩
  have empty := List.head?_eq_none_iff.1 h
  rw [State.slotsWhere, List.filter_eq_nil_iff] at empty
  exact empty p (List.mem_finRange p) (by simp [hq, granted, approach])

/-- Setting a latch leaves the passages that are not GRANTED on its approach (R109). -/
theorem State.setLatch_passage {a : ApproachId} (h : ¬ s.GrantedAt p a) (l : Latch) :
    (s.setLatch a l).passage p = s.passage p := by
  unfold State.setLatch
  dsimp only
  split
  · rfl
  · split
    · split
      · rfl
      · rename_i x hx
        have granted : s.GrantedAt x a := State.grantedOn_some hx
        have other : x ≠ p := fun e => h (e ▸ granted)
        rw [State.passage_modDeadline, if_neg other]
        rfl
    · rfl

/-- A candidate as it stands in the pool: QUEUED, and no passage of its approach is GRANTED (R43). -/
def State.Awaits (s : State) (x : Entrant) : Prop :=
  s.passage x.1 = some x.2 ∧ x.2.state = .queued ∧ ∀ y, ¬ s.GrantedAt y (s.approachOf x.2)

/-- The record of a passage as it is granted, before its ARRIVAL is armed (R47). -/
def Passage.asGranted (q : Passage) : Passage :=
  { q with state := .granted, firstHeld := 0, position := none, skips := 0, blocking := false }

/-- What a grant leaves of the book, apart from deadlines (R47). -/
def State.grantedCore (s : State) (p : Slot) (q : Passage) : State :=
  (((s.updateCells (CellRec.heldBy p) (s.cellsOf q)).clearReservations p).leaveLists p
    (s.approachOf q)).setPassage p (some q.asGranted)

theorem State.takeCells_eq (s : State) (p : Slot) (l : List CellId) :
    s.takeCells p l = s.updateCells (CellRec.heldBy p) l := rfl

theorem Passage.armFor_core (q : Passage) (kind : ArmedKind) (o : Options) (ms : Nat) (now : Time) :
    (q.armFor kind o ms now).core = q.core := rfl

theorem State.grant_sameCore (s : State) (quiet : Option Slot) (p : Slot) (q : Passage) :
    SameCore (s.grantedCore p q) (s.grant quiet p q) := by
  have armed : ∀ (u : State) (x : Passage), x.core = q.asGranted.core →
      SameCore (u.setPassage p (some q.asGranted)) (u.setPassage p (some x)) := by
    intro u x core
    refine ⟨rfl, rfl, rfl, fun c => rfl, fun y => ?_⟩
    rw [State.passage_setPassage, State.passage_setPassage]
    split
    · rw [Option.map_some, Option.map_some, core]
    · rfl
  have latched : ∀ (u : State) (x : Passage) (a : ApproachId), x.core = q.asGranted.core →
      SameCore (u.setPassage p (some q.asGranted)) ((u.setPassage p (some x)).setLatch a .go) := fun u x a core =>
    (armed u x core).trans (State.setLatch_sameCore _ a .go)
  unfold State.grant State.grantedCore
  dsimp only
  rw [State.takeCells_eq]
  generalize ((s.updateCells (CellRec.heldBy p) (s.cellsOf q)).clearReservations p).leaveLists p (s.approachOf q) = u
  have marked := latched u _ (s.approachOf q)
    (q.asGranted.armFor_core .arrival u.map.working.options (u.arrivalMs q.asGranted) u.timer.floor)
  split
  · exact marked
  · exact marked.trans (State.postOwner_keepsBook _ _ _ _).sameCore

theorem State.grantedCore_map : (s.grantedCore p q).map = s.map := by
  unfold State.grantedCore; simp

theorem State.grantedCore_passage (y : Slot) :
    (s.grantedCore p q).passage y = if p = y then some q.asGranted else s.passage y := by
  unfold State.grantedCore
  rw [State.passage_setPassage]
  refine if_congr .rfl rfl ?_
  exact State.passage_congr (by simp) y

theorem State.grantedCore_arrivals : (s.grantedCore p q).book.arrivals = s.book.arrivals.filter fun x => x ≠ p := by
  unfold State.grantedCore; simp

theorem State.grantedCore_cell (c : CellId) :
    (s.grantedCore p q).cell c =
      { s.cell c with
        holder := if c ∈ s.cellsOf q then some p else (s.cell c).holder
        reservation := if (s.cell c).reservation = some p then none else (s.cell c).reservation } := by
  have cell : (s.grantedCore p q).cell c =
      ((s.updateCells (CellRec.heldBy p) (s.cellsOf q)).clearReservations p).cell c :=
    State.cell_leaveLists _ _ _ c
  rw [cell, State.cell_clearReservations, s.cell_updateCells (f := CellRec.heldBy p) (fun _ => rfl)]
  by_cases mem : c ∈ s.cellsOf q <;> by_cases res : (s.cell c).reservation = some p <;> simp [mem, res, CellRec.heldBy]

theorem State.grantedCore_queue (a : ApproachId) :
    (s.grantedCore p q).queue a = if a = s.approachOf q then (s.queue a).filter (fun x => x ≠ p) else s.queue a := by
  have queue : (s.grantedCore p q).queue a =
      (((s.updateCells (CellRec.heldBy p) (s.cellsOf q)).clearReservations p).leaveLists p
        (s.approachOf q)).queue a := rfl
  have same : ∀ b, ((s.updateCells (CellRec.heldBy p) (s.cellsOf q)).clearReservations p).queue b =
      s.queue b := fun b => by rw [State.queue_clearReservations, State.updateCells_queue]
  rw [queue, State.queue_leaveLists, same, same]
  by_cases h : a = s.approachOf q
  · rw [if_pos h, if_pos h, h]
  · rw [if_neg h, if_neg h]

theorem State.eligible_iff : s.eligible p q = true ↔ ∀ c ∈ s.cellsOf q, (s.cell c).holder = none ∧
    (s.cell c).lock = .none ∧ (s.cell c).intruded = false ∧
      ((s.cell c).reservation = none ∨ (s.cell c).reservation = some p) := by
  simp [State.eligible, CellRec.eligible, and_assoc]

theorem State.grantedCore_listed (law : s.Listed) (ready : s.Awaits (p, q)) : (s.grantedCore p q).Listed := by
  obtain ⟨hq, -, -⟩ := ready
  refine law.leave p (by rw [State.grantedCore_map]) (fun y hy => ?_) (fun r hr => ?_) State.grantedCore_arrivals
    fun a => ?_
  · rw [State.grantedCore_passage, if_neg fun e => hy e.symm]
  · rw [State.grantedCore_passage, if_pos rfl] at hr
    cases hr
    exact ⟨by simp [Passage.asGranted], Nat.zero_le _⟩
  · rw [State.grantedCore_queue]
    split
    · rfl
    · rename_i h
      exact (filter_ne_of_notMem (law.notMem_queue hq a (.inr fun e => h e.symm))).symm

theorem State.grantedCore_held (law : s.Held) (ready : s.Awaits (p, q)) (el : s.eligible p q = true) :
    (s.grantedCore p q).Held := by
  obtain ⟨hq, queued, free⟩ := ready
  have working : (s.grantedCore p q).map.working = s.map.working := by rw [State.grantedCore_map]
  have at_p : (s.grantedCore p q).passage p = some q.asGranted := by rw [State.grantedCore_passage, if_pos rfl]
  have cells : (s.grantedCore p q).cellsOf q.asGranted = s.cellsOf q := State.cellsOf_congr working rfl
  have run : (s.grantedCore p q).heldRun q.asGranted = s.cellsOf q := by
    rw [State.heldRun_of_live rfl, cells]; rfl
  rw [State.eligible_iff] at el
  refine law.update p working (fun y hy => ?_) (fun r hr _ y _ hg => ?_) (fun r hr => ?_) (fun c y hc => .inl ?_)
    (fun c y hy => ?_) fun c => ?_
  · rw [State.grantedCore_passage, if_neg fun e => hy e.symm]
  · cases at_p.symm.trans hr
    rw [State.approachOf_congr (q := q) (r := q.asGranted) working rfl] at hg
    exact free y hg
  · cases at_p.symm.trans hr
    rw [cells]
    exact ⟨law.nodup hq, fun _ => rfl⟩
  · rw [State.grantedCore_cell] at hc
    dsimp only at hc
    split at hc
    · cases hc
    · rename_i other
      exact ⟨fun e => other (e ▸ hc), hc⟩
  · rw [State.grantedCore_cell]
    dsimp only
    split
    · rename_i mem
      simp [(el c mem).1, Ne.symm hy]
    · rfl
  · rw [State.grantedCore_cell, at_p]
    dsimp only
    have before : (s.cell c).holder ≠ some p := by
      rw [Ne, law.holder_iff hq, State.heldRun_of_queued queued]
      exact List.not_mem_nil
    split
    · rename_i mem
      simp [run, mem]
    · rename_i mem
      simp [run, mem, before]

/-- A grant of an eligible candidate keeps the laws of the book (R46, R47). -/
theorem Tends.grant (h : Tends s u) (quiet : Option Slot) (name : ∃ r, u.passage p = some r ∧ r.SameName q)
    (el : u.eligible p q = true) (ready : s.Listed → u.Awaits (p, q)) : Tends s (u.grant quiet p q) := by
  have core := u.grant_sameCore quiet p q
  have locks : ∀ c, ((u.grantedCore p q).cell c).lock = (u.cell c).lock := fun c => by rw [State.grantedCore_cell]
  refine Tends.trans ⟨?_, fun y r hr => ?_, fun c => ?_, fun law => ?_, fun law => ?_, fun lists law => ?_⟩ core.tends
  · rw [State.grantedCore_map, h.working]
  · rw [State.grantedCore_passage] at hr
    split at hr
    · rename_i e
      subst e
      cases hr
      obtain ⟨x, hx, sameName⟩ := name
      obtain ⟨y, hy, sameName'⟩ := h.names p x hx
      exact ⟨y, hy, sameName'.trans sameName⟩
    · exact h.names y r hr
  · rw [locks]
    exact h.locks c
  · intro c
    rw [locks, State.grantedCore_cell]
    dsimp only
    split
    · rename_i mem
      obtain ⟨-, unlocked, -⟩ := State.eligible_iff.1 el c mem
      rw [unlocked]
      exact ⟨nofun, nofun⟩
    · exact h.lockLaw law c
  · exact State.grantedCore_listed (h.listed law) (ready law)
  · exact State.grantedCore_held (h.held lists law) (ready lists) el

end

end Sys2Proof.Machine

namespace Sys2Proof.Machine

/-! ### The grant pass: candidates and their order -/

/-- The head of an approach queue that no GRANTED passage of its approach keeps waiting, as the pool holds it (R43). -/
def State.HeadOf (s : State) (a : ApproachId) (x : Entrant) : Prop :=
  (s.queue a).head? = some x.1 ∧ s.passage x.1 = some x.2 ∧ s.grantedOn a = none

theorem State.grantedOn_congr {s t : State} (hb : t.book = s.book) (hm : t.map = s.map) (a : ApproachId) :
    t.grantedOn a = s.grantedOn a := by
  have approach : ∀ q, t.approachOf q = s.approachOf q :=
    fun q => State.approachOf_congr (congrArg MapStore.working hm) rfl
  rw [State.grantedOn, State.grantedOn]
  refine congrArg List.head? (List.filter_congr fun p _ => ?_)
  simp only [State.passage_congr (congrArg Book.pool hb), approach]

theorem State.HeadOf.congr {s t : State} {a : ApproachId} {x : Entrant} (h : t.HeadOf a x) (hb : t.book = s.book)
    (hm : t.map = s.map) : s.HeadOf a x := by
  rw [State.HeadOf, State.grantedOn_congr hb hm] at h
  simpa only [State.HeadOf, State.queue, State.passage, hb] using h

/-- Stage 1 writes marks and notices alone (R42). -/
theorem State.considerHead_book (a : ApproachId) (sc : State × List Entrant) :
    (State.considerHead a sc).1.book = sc.1.book := by
  unfold State.considerHead
  dsimp only
  split
  · rfl
  · split
    · split
      · rfl
      · split
        · rfl
        · rw [State.setMark_book]
          split
          · rfl
          · exact (State.postSafety_keepsBook _ _).2.1
    · rfl

/-- An approach gives the candidates its head or none (R43). -/
theorem State.considerHead_candidate (a : ApproachId) (sc : State × List Entrant) :
    (State.considerHead a sc).2 = sc.2 ∨ ∃ x, sc.1.HeadOf a x ∧ (State.considerHead a sc).2 = sc.2 ++ [x] := by
  unfold State.considerHead
  dsimp only
  split
  · exact .inl rfl
  · rename_i p rest hp
    split
    · rename_i q hg hq
      split
      · exact .inr ⟨(p, q), ⟨by rw [hp]; rfl, hq, hg⟩, rfl⟩
      · split <;> exact .inl rfl
    · exact .inl rfl

/-- What stage 1 has formed so far from `s`: the book is as it was, and the candidates are heads of different
approaches. -/
def State.Formed (s : State) (sc : State × List Entrant) : Prop :=
  sc.1.book = s.book ∧ (∀ x ∈ sc.2, ∃ a, s.HeadOf a x) ∧
    sc.2.Pairwise fun x y => ∃ a b, a ≠ b ∧ s.HeadOf a x ∧ s.HeadOf b y

/-- Stage 1 leaves the book, and its candidates are heads of different approaches (R42, R43). -/
theorem State.candidates_heads (s : State) :
    s.Formed s.candidates := by
  have each : ∀ (l : List ApproachId) (sc : State × List Entrant), l.Nodup → sc.1.book = s.book → sc.1.map = s.map →
      (∀ x ∈ sc.2, ∃ a, a ∉ l ∧ s.HeadOf a x) →
      sc.2.Pairwise (fun x y => ∃ a b, a ≠ b ∧ s.HeadOf a x ∧ s.HeadOf b y) →
      s.Formed (l.foldl (fun sc a => State.considerHead a sc) sc) := by
    intro l
    induction l with
    | nil =>
      intro sc _ book _ heads apart
      exact ⟨book, fun x hx => (heads x hx).imp fun a h => h.2, apart⟩
    | cons a rest ih =>
      intro sc nodup book map heads apart
      obtain ⟨notMem, nodup⟩ := List.nodup_cons.1 nodup
      have old : ∀ x ∈ sc.2, ∃ b, b ∉ rest ∧ s.HeadOf b x := fun x hx =>
        (heads x hx).imp fun b h => ⟨fun mem => h.1 (List.mem_cons_of_mem _ mem), h.2⟩
      refine ih _ nodup ((State.considerHead_book a sc).trans book) ((State.considerHead_keeps a sc).map.trans map) ?_ ?_
      · rcases State.considerHead_candidate a sc with same | ⟨x, hx, joined⟩
        · rw [same]
          exact old
        · rw [joined]
          intro y hy
          rcases List.mem_append.1 hy with hy | hy
          · exact old y hy
          · cases List.mem_singleton.1 hy
            exact ⟨a, notMem, hx.congr book map⟩
      · rcases State.considerHead_candidate a sc with same | ⟨x, hx, joined⟩
        · rwa [same]
        · rw [joined, List.pairwise_append]
          refine ⟨apart, List.pairwise_singleton .., fun y hy z hz => ?_⟩
          cases List.mem_singleton.1 hz
          obtain ⟨b, hb, h⟩ := heads y hy
          exact ⟨b, a, fun e => hb (e ▸ List.mem_cons_self ..), h, hx.congr book map⟩
  exact each (List.finRange 8) (s, []) (List.nodup_finRange 8) rfl rfl (fun x hx => nomatch hx) List.Pairwise.nil

theorem insertCandidate_perm (order : List Slot) (x : Entrant) (l : List Entrant) :
    (insertCandidate order x l).Perm (x :: l) := by
  induction l with
  | nil => exact .refl _
  | cons y rest ih =>
    unfold insertCandidate
    split
    · exact .refl _
    · exact (ih.cons y).trans (.swap x y rest)

/-- Stage 2 orders the candidates and does nothing else (R45). -/
theorem grantOrder_perm (order : List Slot) (l : List Entrant) : (grantOrder order l).Perm l := by
  induction l with
  | nil => exact .refl _
  | cons x rest ih => exact (insertCandidate_perm order x _).trans (ih.cons x)

/-! ### The grant pass: examination of the candidates -/

section
variable {s u : State}

/-- The candidates still to be examined: each names its slot's passage, and under the law of the lists each waits in the
pool, no two on one approach. `lawful` is the law of the lists at the start of the pass. -/
def State.Ready (u : State) (lawful : Prop) (l : List Entrant) : Prop :=
  (∀ x ∈ l, ∃ r, u.passage x.1 = some r ∧ r.SameName x.2) ∧
    (lawful → (∀ x ∈ l, u.Awaits x) ∧ l.Pairwise fun x y => u.approachOf x.2 ≠ u.approachOf y.2)

/-- A grant leaves the other passages alone, where none of its approach was GRANTED (R43). -/
theorem State.grant_passage_of_ne {p : Slot} {q : Passage} (free : ∀ y, ¬ u.GrantedAt y (u.approachOf q)) {x : Slot}
    (hx : x ≠ p) (quiet : Option Slot) : (u.grant quiet p q).passage x = u.passage x := by
  have latched : ∀ (v : State), (∀ y, v.passage y = if p = y then some q.asGranted else u.passage y) →
      v.map.working = u.map.working → ∀ r, r.core = q.asGranted.core →
        ((v.setPassage p (some r)).setLatch (u.approachOf q) .go).passage x = u.passage x := by
    intro v pool working r _
    rw [State.setLatch_passage, State.passage_setPassage, if_neg fun e => hx e.symm, pool, if_neg fun e => hx e.symm]
    rintro ⟨y, hy, granted, approach⟩
    rw [State.passage_setPassage, if_neg fun e => hx e.symm, pool, if_neg fun e => hx e.symm] at hy
    exact free x ⟨y, hy, granted, (State.approachOf_congr working rfl).symm.trans approach⟩
  have core := latched (u.grantedCore p q) (fun y => State.grantedCore_passage y) (by rw [State.grantedCore_map])
  unfold State.grant
  dsimp only
  rw [State.takeCells_eq]
  unfold State.grantedCore at core
  simp only [State.setPassage_setPassage] at core
  revert core
  generalize ((u.updateCells (CellRec.heldBy p) (u.cellsOf q)).clearReservations p).leaveLists p (u.approachOf q) = v
  intro core
  have same := core _ (q.asGranted.armFor_core .arrival v.map.working.options (v.arrivalMs q.asGranted) v.timer.floor)
  split
  · exact same
  · exact ((State.postOwner_keepsBook _ _ _ _).passage x).trans same

/-- The granted passage itself, apart from its deadline (R47). -/
theorem State.grant_passage_self (p : Slot) (q : Passage) (quiet : Option Slot) :
    ∃ r, (u.grant quiet p q).passage p = some r ∧ r.core = q.asGranted.core := by
  have at_p : (u.grantedCore p q).passage p = some q.asGranted := by rw [State.grantedCore_passage, if_pos rfl]
  exact (u.grant_sameCore quiet p q).symm.passage_some at_p |>.imp fun r h => ⟨h.1, h.2⟩

theorem State.grant_working (p : Slot) (q : Passage) (quiet : Option Slot) :
    (u.grant quiet p q).map.working = u.map.working := congrArg MapStore.working (u.grant_keeps quiet p q).map

/-- The other candidates wait on while one is granted. -/
theorem State.Ready.grant {lawful : Prop} {x : Entrant} {rest : List Entrant} (h : u.Ready lawful (x :: rest))
    (quiet : Option Slot) : (u.grant quiet x.1 x.2).Ready lawful rest := by
  obtain ⟨names, waits⟩ := h
  have working := State.grant_working (u := u) x.1 x.2 quiet
  have approach : ∀ q, (u.grant quiet x.1 x.2).approachOf q = u.approachOf q :=
    fun q => State.approachOf_congr working rfl
  refine ⟨fun y hy => ?_, fun law => ?_⟩
  · obtain ⟨r, hr, name⟩ := names y (List.mem_cons_of_mem _ hy)
    have core := u.grant_sameCore quiet x.1 x.2
    by_cases e : y.1 = x.1
    · obtain ⟨r', hr', name'⟩ := names x (List.mem_cons_self ..)
      obtain ⟨v, hv, granted⟩ := State.grant_passage_self (u := u) x.1 x.2 quiet
      rw [e] at hr ⊢
      cases hr.symm.trans hr'
      obtain ⟨master, carrier, route, -⟩ := Passage.core_eq_iff.1 granted
      obtain ⟨m, c, t⟩ := name
      obtain ⟨m', c', t'⟩ := name'
      exact ⟨v, hv, m.trans (m'.symm.trans master.symm), c.trans (c'.symm.trans carrier.symm),
        t.trans (t'.symm.trans route.symm)⟩
    · have before : (u.grantedCore x.1 x.2).passage y.1 = some r := by
        rw [State.grantedCore_passage, if_neg fun h => e h.symm, hr]
      obtain ⟨v, hv, same⟩ := core.symm.passage_some before
      exact ⟨v, hv, (Passage.sameName_of_core same).trans name⟩
  · obtain ⟨awaits, apart⟩ := waits law
    obtain ⟨hx, -, free⟩ := awaits x (List.mem_cons_self ..)
    obtain ⟨far, apart⟩ := List.pairwise_cons.1 apart
    simp only [approach]
    refine ⟨fun y hy => ?_, apart⟩
    obtain ⟨pool, queued, freeY⟩ := awaits y (List.mem_cons_of_mem _ hy)
    have other : y.1 ≠ x.1 := fun e => by
      rw [e, hx, Option.some.injEq] at pool
      exact far y hy (by rw [pool])
    refine ⟨(State.grant_passage_of_ne free other quiet).trans pool, queued, fun z hz => ?_⟩
    obtain ⟨r, hr, granted, at_y⟩ := hz
    rw [approach, approach] at at_y
    by_cases e : z = x.1
    · obtain ⟨v, hv, core⟩ := State.grant_passage_self (u := u) x.1 x.2 quiet
      subst e
      cases hr.symm.trans hv
      obtain ⟨-, -, route, -⟩ := Passage.core_eq_iff.1 core
      exact far y hy ((State.approachOf_congr (q := r) (r := x.2) rfl route.symm).trans at_y)
    · exact freeY z ⟨r, (State.grant_passage_of_ne free e quiet).symm.trans hr, granted, at_y⟩

theorem State.Ready.tail {lawful : Prop} {x : Entrant} {rest : List Entrant} (h : u.Ready lawful (x :: rest)) :
    u.Ready lawful rest :=
  ⟨fun y hy => h.1 y (List.mem_cons_of_mem _ hy), fun law =>
    ⟨fun y hy => (h.2 law).1 y (List.mem_cons_of_mem _ hy), (List.pairwise_cons.1 (h.2 law).2).2⟩⟩

/-- Stage 3 keeps the laws of the book (R42, R46). -/
theorem Tends.examine (h : Tends s u) (quiet : Option Slot) {l : List Entrant} (ready : u.Ready s.Listed l) :
    Tends s (u.examine quiet l).1 := by
  have each : ∀ (l : List Entrant) (sg : State × List Entrant), Tends s sg.1 → sg.1.Ready s.Listed l →
      Tends s (l.foldl (State.examineOne quiet) sg).1 := by
    intro l
    induction l with
    | nil => exact fun _ h _ => h
    | cons x rest ih =>
      intro sg h ready
      rw [List.foldl_cons]
      by_cases el : sg.1.eligible x.1 x.2 = true
      · have one : State.examineOne quiet sg x = (sg.1.grant quiet x.1 x.2, sg.2 ++ [x]) := if_pos el
        rw [one]
        exact ih _ (h.grant quiet (ready.1 x (List.mem_cons_self ..)) el
          fun law => (ready.2 law).1 x (List.mem_cons_self ..)) (ready.grant quiet)
      · have one : State.examineOne quiet sg x = sg := if_neg el
        rw [one]
        exact ih _ h ready.tail
  exact each l (u, []) h ready

theorem State.Listed.head_awaits (law : s.Listed) {a : ApproachId} {x : Entrant} (h : s.HeadOf a x) :
    s.Awaits x ∧ s.approachOf x.2 = a := by
  obtain ⟨head, hx, free⟩ := h
  obtain ⟨q, hq, queued, approach⟩ := law.mem_queue.1 (List.mem_of_mem_head? head)
  cases hx.symm.trans hq
  exact ⟨⟨hx, queued, fun y => approach ▸ State.grantedOn_none free y⟩, approach⟩

theorem State.Awaits.congr {t : State} {x : Entrant} (h : s.Awaits x) (hb : t.book = s.book) (hm : t.map = s.map) :
    t.Awaits x := by
  simpa only [State.Awaits, State.GrantedAt, State.passage, State.approachOf, State.routeOf, hb, hm] using h

/-- The candidates of stage 1, in whatever order, are ready for stage 3. -/
theorem State.candidates_ready (s : State) (order : List Slot) :
    s.candidates.1.Ready s.Listed (grantOrder order s.candidates.2) := by
  obtain ⟨book, heads, apart⟩ := s.candidates_heads
  have map := s.candidates_keeps.map
  have perm := grantOrder_perm order s.candidates.2
  have approach : ∀ q, s.candidates.1.approachOf q = s.approachOf q :=
    fun q => State.approachOf_congr (congrArg MapStore.working map) rfl
  refine ⟨fun x hx => ?_, fun law => ⟨fun x hx => ?_, ?_⟩⟩
  · obtain ⟨a, -, pool, -⟩ := heads x (perm.mem_iff.1 hx)
    exact ⟨x.2, (State.passage_congr (congrArg Book.pool book) _).trans pool, .rfl⟩
  · obtain ⟨a, head⟩ := heads x (perm.mem_iff.1 hx)
    exact (law.head_awaits head).1.congr book map
  · simp only [approach]
    refine (perm.pairwise_iff fun h => Ne.symm h).2 (apart.imp ?_)
    rintro x y ⟨a, b, hab, hx, hy⟩
    rwa [(law.head_awaits hx).2, (law.head_awaits hy).2]

/-- A grant pass keeps the laws of the book (R42). -/
theorem State.grantPass_tends (s : State) (quiet : Option Slot) : Tends s (s.grantPass quiet) := by
  unfold State.grantPass
  split
  · obtain ⟨book, -⟩ := s.candidates_heads
    have formed : Tends s s.candidates.1 :=
      (SameCore.of_book (congrArg MapStore.working s.candidates_keeps.map) book).tends
    exact ((formed.examine quiet (s.candidates_ready _)).trans (State.account_tends _ _ _ _)).trans
      (State.sweep_tends _)
  · exact .rfl

theorem State.afterEvent_tends (before s : State) (b : Bool) : Tends s (State.afterEvent before s b) := by
  have drained : Tends s
      (if s.control.mode = .draining && 0 < before.liveCount && s.liveCount = 0 then s.postMode else s) := by
    split
    · exact s.postMode_sameCore.tends
    · exact .rfl
  unfold State.afterEvent
  dsimp only
  split
  · exact drained.trans (State.grantPass_tends _ _)
  · exact drained

end

end Sys2Proof.Machine

namespace Sys2Proof.Machine

/-! ### Commands and the laws of the book -/

/-- The laws of O6, O8, O10 and O11 pass from `s` to `t`. -/
structure KeepsBookLaws (s t : State) : Prop where
  locks : s.LockLaw → t.LockLaw
  names : s.NamesUnique → t.NamesUnique
  lists : s.ListLaw → t.ListLaw
  holding : s.HolderLaw → t.HolderLaw

section
variable {s t u : State}

theorem KeepsBookLaws.rfl {s : State} : KeepsBookLaws s s := ⟨id, id, id, id⟩

theorem KeepsBookLaws.trans (h : KeepsBookLaws s t) (k : KeepsBookLaws t u) : KeepsBookLaws s u :=
  ⟨fun i => k.locks (h.locks i), fun i => k.names (h.names i), fun i => k.lists (h.lists i),
    fun i => k.holding (h.holding i)⟩

theorem Mode.closed_iff {m : Mode} : m = .unmapped ∨ m = .service ↔ m.operating = false := by
  cases m <;> simp [Mode.operating]

/-- Work on the book keeps its laws while the junction stays open or stays closed. -/
theorem Tends.laws (h : Tends s t) (mode : t.control.mode.operating = s.control.mode.operating) :
    KeepsBookLaws s t := by
  have closed : s.ClosedEmpty → t.ClosedEmpty := fun law shut p => by
    rw [Mode.closed_iff, mode, ← Mode.closed_iff] at shut
    exact h.passage_none (law shut p)
  have routes : s.RoutesPlain → t.RoutesPlain := fun law op => by
    rw [h.working]
    exact law (mode ▸ op)
  refine ⟨h.lockLaw, h.namesUnique, fun law => ?_, fun law => ?_⟩
  · rw [State.listLaw_iff] at law ⊢
    exact ⟨closed law.1, h.listed law.2⟩
  · rw [State.holderLaw_iff, State.listLaw_iff] at law ⊢
    obtain ⟨⟨shut, lists⟩, plain, held⟩ := law
    exact ⟨⟨closed shut, h.listed lists⟩, routes plain, h.held lists held⟩

theorem Tends.laws_of_control (h : Tends s t) (mode : t.control = s.control) : KeepsBookLaws s t :=
  h.laws (by rw [mode])

theorem SameCore.laws (h : SameCore s t) (mode : t.control = s.control) : KeepsBookLaws s t := h.tends.laws_of_control mode

/-- Work that keeps the book and the Mode Controller keeps the laws of the book. -/
theorem KeepsBookLaws.of_book (hm : t.map.working = s.map.working) (hb : t.book = s.book)
    (hc : t.control = s.control) : KeepsBookLaws s t := (SameCore.of_book hm hb).laws hc

/-! #### The empty pool -/

/-- With no passage in the pool the lists are lawful under any map. -/
theorem State.Listed.of_empty (law : s.Listed) (hb : t.book = s.book) (empty : ∀ p, s.passage p = none) : t.Listed := by
  obtain ⟨-, nodup, mem, queues, -⟩ := law
  have none : ∀ p, t.passage p = none := fun p => (State.passage_congr (congrArg Book.pool hb) p).trans (empty p)
  have arrivals : s.book.arrivals = [] := List.eq_nil_iff_forall_not_mem.2 fun p hp => by
    obtain ⟨q, hq, -⟩ := (mem p).1 hp
    rw [empty] at hq
    cases hq
  have queue : ∀ a, t.queue a = [] := fun a => by
    have same : t.queue a = s.queue a := by rw [State.queue, State.queue, hb]
    rw [same, queues a, arrivals]
    rfl
  refine ⟨fun p q hq => ?_, hb ▸ nodup, fun p => ?_, fun a => ?_, fun a => ?_⟩
  · rw [none] at hq; cases hq
  · rw [hb, arrivals]; simp [none]
  · rw [queue, hb, arrivals]; rfl
  · rw [queue]; exact Nat.zero_le _

/-- With no passage in the pool holding is lawful under any map. -/
theorem State.Held.of_empty (law : s.Held) (hb : t.book = s.book) (empty : ∀ p, s.passage p = none) : t.Held := by
  obtain ⟨-, -, reserved, holders⟩ := law
  have none : ∀ p, t.passage p = none := fun p => (State.passage_congr (congrArg Book.pool hb) p).trans (empty p)
  have cell : ∀ c, t.cell c = s.cell c := fun c => State.cell_congr (congrArg Book.cells hb) c
  refine ⟨fun a p x hp _ => ?_, fun p q hq => ?_, fun c p hc => ?_, fun c p => ?_⟩
  · obtain ⟨q, hq, -⟩ := hp; rw [none] at hq; cases hq
  · rw [none] at hq; cases hq
  · rw [cell] at hc
    obtain ⟨q, hq, -⟩ := reserved c p hc
    rw [empty] at hq; cases hq
  · rw [cell, holders c p]
    simp [none, empty]

/-- In SERVICE any map may be written: the pool is empty. -/
theorem State.setWorking_laws (m : WorkingMap) (service : s.control.mode = .service) :
    KeepsBookLaws s (s.setWorking m) := by
  have lists : s.ListLaw → (s.setWorking m).ListLaw := fun law => by
    rw [State.listLaw_iff] at law ⊢
    exact ⟨law.1, law.2.of_empty rfl (law.1 (.inr service))⟩
  refine ⟨id, id, lists, fun law => ?_⟩
  rw [State.holderLaw_iff] at law ⊢
  obtain ⟨before, -, held⟩ := law
  refine ⟨lists before, fun op => ?_, held.of_empty rfl (before.1 (.inr service))⟩
  have closed : s.control.mode.operating = true := op
  rw [service] at closed
  cases closed

theorem State.load_laws (map : Except Verdict WorkingMap) (service : s.control.mode = .service) :
    KeepsBookLaws s (s.load map).1 := by
  unfold State.load
  split
  · exact .rfl
  · exact State.setWorking_laws _ service

/-! #### Locks -/

/-- Holding does not read the locks. -/
theorem State.Held.same_holding (law : s.Held) (working : t.map.working = s.map.working)
    (pool : ∀ p, t.passage p = s.passage p) (holder : ∀ c, (t.cell c).holder = (s.cell c).holder)
    (reservation : ∀ c, (t.cell c).reservation = (s.cell c).reservation) : t.Held := by
  obtain ⟨single, plain, reserved, holders⟩ := law
  have cells : ∀ q, t.cellsOf q = s.cellsOf q := fun q => State.cellsOf_congr working rfl
  have approach : ∀ q, t.approachOf q = s.approachOf q := fun q => State.approachOf_congr working rfl
  have runs : ∀ q, t.heldRun q = s.heldRun q := fun q => State.heldRun_congr working rfl rfl rfl
  refine ⟨?_, ?_, ?_, ?_⟩
  · simpa only [State.SingleGrant, State.GrantedAt, pool, approach] using single
  · simpa only [State.PassagesPlain, pool, cells] using plain
  · simpa only [State.ReservationsOwned, reservation, pool, cells] using reserved
  · simpa only [State.HoldersOwn, holder, pool, runs] using holders

/-- A change of locks alone keeps the laws of the book if it keeps that of locks. -/
theorem KeepsBookLaws.of_locks (hm : t.map = s.map) (hc : t.control = s.control) (pool : t.book.pool = s.book.pool)
    (arrivals : t.book.arrivals = s.book.arrivals) (queues : t.book.queues = s.book.queues)
    (holder : ∀ c, (t.cell c).holder = (s.cell c).holder)
    (reservation : ∀ c, (t.cell c).reservation = (s.cell c).reservation) (locks : s.LockLaw → t.LockLaw) :
    KeepsBookLaws s t := by
  have passage := State.passage_congr pool
  have lists : s.ListLaw → t.ListLaw := fun law => by
    rw [State.listLaw_iff] at law ⊢
    obtain ⟨closed, listed⟩ := law
    have skips := listed.1
    refine ⟨by simpa only [State.ClosedEmpty, hc, passage] using closed,
      listed.same_listing (by rw [hm]) arrivals queues (fun p => by rw [passage]) ?_⟩
    simpa only [State.SkipsBounded, passage, hm] using skips
  refine ⟨locks, fun law => by simpa only [State.NamesUnique, passage] using law, lists, fun law => ?_⟩
  rw [State.holderLaw_iff] at law ⊢
  obtain ⟨before, plain, held⟩ := law
  exact ⟨lists before, by simpa only [State.RoutesPlain, hc, hm] using plain,
    held.same_holding (by rw [hm]) passage holder reservation⟩

theorem State.lockCell_laws (s : State) (c : CellId) : KeepsBookLaws s (s.lockCell c) := by
  have set : ∀ lock, (lock = .locked → (s.cell c).holder = none) → (lock = .pending → (s.cell c).holder ≠ none) →
      KeepsBookLaws s (s.setCell c { s.cell c with lock := lock }) := by
    intro lock locked pending
    refine .of_locks rfl rfl rfl rfl rfl (fun d => ?_) (fun d => ?_) fun law d => ?_
    · rw [State.cell_setCell]; split <;> simp_all
    · rw [State.cell_setCell]; split <;> simp_all
    · rw [State.cell_setCell]
      split
      · exact ⟨locked, pending⟩
      · exact law d
  unfold State.lockCell
  dsimp only
  split
  · exact .rfl
  · split
    · rename_i held
      exact set .pending (fun e => by cases e) fun _ e => by simp [e] at held
    · rename_i free
      exact (set .locked (fun _ => by simpa using free) fun e => by cases e).trans
        ((State.postSafety_keepsBook _ _).sameCore.laws (State.postSafety_keepsBook _ _).1.control)

theorem keepsBookLaws_foldl {α : Type} {f : State → α → State} (h : ∀ s x, KeepsBookLaws s (f s x)) (l : List α)
    (s : State) : KeepsBookLaws s (l.foldl f s) := by
  induction l generalizing s with
  | nil => exact .rfl
  | cons x rest ih => exact (h s x).trans (ih _)

theorem State.lockCells_laws (s : State) (set : BitVec 32) : KeepsBookLaws s (s.lockCells set).1 := by
  unfold State.lockCells
  split
  · exact .rfl
  · exact keepsBookLaws_foldl State.lockCell_laws _ _

theorem State.unlockCell_laws (s : State) (c : CellId) : KeepsBookLaws s (s.unlockCell c) := by
  unfold State.unlockCell
  refine .of_locks rfl rfl rfl rfl rfl (fun d => ?_) (fun d => ?_) fun law d => ?_
  · rw [State.cell_setCell]; split <;> simp_all
  · rw [State.cell_setCell]; split <;> simp_all
  · rw [State.cell_setCell]
    split
    · exact ⟨nofun, nofun⟩
    · exact law d

theorem State.grantPass_laws (s : State) (quiet : Option Slot) : KeepsBookLaws s (s.grantPass quiet) :=
  (s.grantPass_tends quiet).laws_of_control (s.grantPass_keeps quiet).control

theorem State.unlockCells_laws (s : State) (set : BitVec 32) : KeepsBookLaws s (s.unlockCells set).1 := by
  unfold State.unlockCells
  split
  · exact .rfl
  · have unlocked := keepsBookLaws_foldl State.unlockCell_laws (cellsIn set) s
    dsimp only
    split
    · exact unlocked.trans (State.grantPass_laws _ _)
    · exact unlocked

/-! #### Admissions -/

/-- A request that passes the checks (R27). -/
theorem State.checkRequest_passed {m : MasterSlot} {carrier : CarrierId} {route : Byte} {length : BitVec 16}
    {r : RouteId} {p : Slot} (h : s.checkRequest m carrier route length = .ok (r, p)) :
    s.map.working.routes[r].inUse = true ∧ s.passage p = none ∧
      (∀ x q, s.passage x = some q → ¬ (q.master = m ∧ q.carrier = carrier)) ∧
      (s.queue s.map.working.routes[r].approach).length <
        s.map.working.approaches[s.map.working.routes[r].approach].limit := by
  unfold State.checkRequest at h
  split at h
  · cases h
  · dsimp only at h
    split at h
    · cases h
    · rename_i used
      split at h
      · cases h
      · split at h
        · cases h
        · rename_i unnamed
          split at h
          · cases h
          · rename_i free
            split at h
            · cases h
            · rename_i room
              cases h
              refine ⟨by simpa using used, ?_, fun x q hq hn => ?_, Nat.lt_of_not_le room⟩
              · simpa using List.find?_some free
              · have all := List.findSome?_eq_none_iff.1 unnamed x (List.mem_finRange x)
                rw [hq, Option.bind_some, if_pos hn] at all
                cases all

/-- An admission into a free slot, with room in the queue, keeps the laws of the book (R27, R29). -/
theorem State.admission_laws {p : Slot} {q : Passage} (hp : s.passage p = none) (queued : q.state = .queued)
    (unskipped : q.skips = 0) (op : s.control.mode.operating = true)
    (used : s.map.working.routes[q.route].inUse = true)
    (unnamed : ∀ x r, s.passage x = some r → ¬ (r.master = q.master ∧ r.carrier = q.carrier))
    (room : (s.queue (s.approachOf q)).length < s.map.working.approaches[s.approachOf q].limit) :
    KeepsBookLaws s (s.admission p q) := by
  have pool : ∀ y, (s.admission p q).passage y = if p = y then some q else s.passage y :=
    fun y => State.passage_setPassage ..
  have others : ∀ y, y ≠ p → (s.admission p q).passage y = s.passage y := fun y hy => by
    rw [pool, if_neg fun e => hy e.symm]
  have at_p : (s.admission p q).passage p = some q := by rw [pool, if_pos rfl]
  have queue : ∀ a, (s.admission p q).queue a = s.queue a ++ if s.approachOf q = a then [p] else [] := fun a => by
    refine (State.queue_setQueue _ (s.approachOf q) a _).trans ?_
    split
    · rename_i e; rw [← e]
    · exact (List.append_nil _).symm
  have listed : s.Listed → (s.admission p q).Listed := fun law => by
    obtain ⟨skips, nodup, mem, queues, limits⟩ := law
    have absent : p ∉ s.book.arrivals := fun h => by
      obtain ⟨x, hx, -⟩ := (mem p).1 h
      rw [hp] at hx; cases hx
    refine ⟨fun y r hr => ?_, ?_, fun y => ?_, fun a => ?_, fun a => ?_⟩
    · by_cases hy : y = p
      · subst hy
        cases at_p.symm.trans hr
        rw [unskipped]
        exact ⟨Nat.zero_le _, fun _ _ h => by cases h⟩
      · exact skips y r (others y hy ▸ hr)
    · exact List.nodup_append'.2 ⟨nodup, List.nodup_singleton p, by simpa using absent⟩
    · have joined : y ∈ (s.admission p q).book.arrivals ↔ y ∈ s.book.arrivals ∨ y = p := by
        rw [← List.mem_singleton, ← List.mem_append]; rfl
      rw [joined]
      by_cases hy : y = p
      · subst hy
        exact iff_of_true (.inr rfl) ⟨q, at_p, queued⟩
      · rw [others y hy, mem y, or_iff_left hy]
    · have arrivals : (s.admission p q).book.arrivals = s.book.arrivals ++ [p] := rfl
      rw [queue, arrivals, List.filter_append, queues a]
      congr 1
      · refine List.filter_congr fun y hy => ?_
        rw [others y fun e => absent (e ▸ hy)]
        rfl
      · have same : (s.admission p q).approachOf q = s.approachOf q := rfl
        rw [List.filter_singleton, at_p, Option.any_some, same]
        by_cases e : s.approachOf q = a <;> simp [e]
    · rw [queue]
      split
      · rename_i e
        rw [← e, List.length_append]
        exact room
      · rw [List.append_nil]
        exact limits a
  have held : s.RoutesPlain → s.Held → (s.admission p q).Held := fun plain law => by
    obtain ⟨-, -, reserved, holders⟩ := id law
    refine law.update p rfl others (fun r hr granted => ?_) (fun r hr => ?_) (fun c y hc => .inl ⟨fun e => ?_, hc⟩)
      (fun c y _ => .rfl) fun c => ?_
    · cases at_p.symm.trans hr
      rw [queued] at granted; cases granted
    · cases at_p.symm.trans hr
      exact ⟨plain op q.route used, fun granted => by rw [queued] at granted; cases granted⟩
    · obtain ⟨x, hx, -⟩ := reserved c y hc
      rw [e, hp] at hx; cases hx
    · have none : (s.cell c).holder ≠ some p := fun h => by
        obtain ⟨x, hx, -⟩ := (holders c p).1 h
        rw [hp] at hx; cases hx
      rw [at_p]
      refine iff_of_false none ?_
      rintro ⟨r, hr, mem⟩
      cases hr
      rw [State.heldRun_of_queued queued] at mem
      cases mem
  have open' : (s.admission p q).ClosedEmpty := fun closed => by
    have closed := Mode.closed_iff.1 closed
    have op : (s.admission p q).control.mode.operating = true := op
    rw [closed] at op; cases op
  refine ⟨fun law => law, fun law x y r v hr hv master carrier => ?_, fun law => ⟨open', listed law.2⟩, fun law => ?_⟩
  · by_cases hx : x = p <;> by_cases hy : y = p
    · rw [hx, hy]
    · subst hx
      cases at_p.symm.trans hr
      exact (unnamed y v (others y hy ▸ hv) ⟨master.symm, carrier.symm⟩).elim
    · subst hy
      cases at_p.symm.trans hv
      exact (unnamed x r (others x hx ▸ hr) ⟨master, carrier⟩).elim
    · exact law x y r v (others x hx ▸ hr) (others y hy ▸ hv) master carrier
  · rw [State.holderLaw_iff] at law ⊢
    obtain ⟨lists, plain, holding⟩ := law
    exact ⟨⟨open', listed lists.2⟩, plain, held plain holding⟩

theorem State.request_laws (m : MasterSlot) (carrier : CarrierId) (route cls speed : Byte) (length : BitVec 16)
    (op : s.control.mode.operating = true) : KeepsBookLaws s (s.request m carrier route cls speed length).1 := by
  unfold State.request
  split
  · exact .rfl
  · rename_i r p passed
    obtain ⟨used, free, unnamed, room⟩ := State.checkRequest_passed passed
    exact (State.admission_laws (q := s.newPassage m carrier r cls speed length) free rfl rfl op used unnamed room).trans
      (State.grantPass_laws _ _)

end

end Sys2Proof.Machine

namespace Sys2Proof.Machine

/-! #### Commands of the book and of the modes -/

section
variable {s t : State}

theorem KeepsBook.laws (h : KeepsBook s t) : KeepsBookLaws s t := h.sameCore.laws h.1.control

theorem KeepsMode.laws (h : KeepsMode s t) (core : Tends s t) : KeepsBookLaws s t := core.laws_of_control h.2

/-- What the Decoder hands on, it takes in this mode, or from any node (R129, R143). -/
theorem State.judge_take {k : Kind} {n : Node} (h : s.judge k n = .take) :
    Kind.takenIn k s.control.mode s.control.prior = true ∨ Kind.anyNode k = true := by
  unfold State.judge at h
  dsimp only at h
  cases taken : Kind.takenIn k s.control.mode s.control.prior with
  | true => exact .inl rfl
  | false =>
    rw [taken] at h
    split at h
    · split at h
      · split at h
        · exact .inr (by assumption)
        · cases h
      · simp at h
    · simp at h

theorem State.afterRemoval_laws (s : State) (p : Slot) (o : Outcome) :
    KeepsBookLaws s (s.afterEvent (s.remove p o) true) :=
  ((s.remove_tends p o).trans (State.afterEvent_tends _ _ _)).laws_of_control (s.afterRemoval_keeps p o).control

theorem State.withdraw_laws (s : State) (src : Node) (slot : Byte) (carrier : CarrierId) :
    KeepsBookLaws s (s.withdraw src slot carrier).1 := by
  unfold State.withdraw
  split
  · exact .rfl
  · split
    · exact .rfl
    · split
      · exact .rfl
      · exact s.afterRemoval_laws _ _

theorem State.forceRelease_laws (s : State) (slot : Byte) (carrier : CarrierId) :
    KeepsBookLaws s (s.forceRelease slot carrier).1 := by
  unfold State.forceRelease
  split
  · exact .rfl
  · exact s.afterRemoval_laws _ _

theorem State.setSensorMode_laws (s : State) (cell mode : Byte) : KeepsBookLaws s (s.setSensorMode cell mode).1 := by
  unfold State.setSensorMode
  split
  · exact .rfl
  · dsimp only
    split
    · exact .rfl
    · exact ((s.changeSensor_keepsMode _ _).laws (s.changeSensor_tends _ _)).trans
        ((State.afterEvent_tends _ _ _).laws_of_control (State.afterEvent_keeps _ _ _).control)

/-- From one open mode to another. -/
theorem Tends.laws_of_open (h : Tends s t) (before : s.control.mode.operating = true)
    (after : t.control.mode.operating = true) : KeepsBookLaws s t := h.laws (after.trans before.symm)

theorem State.enterSettling_operating (s : State) : s.enterSettling.control.mode.operating = true := by
  rcases s.enterSettling_mode with ⟨mode, -⟩ | ⟨mode, -⟩ <;> rw [mode] <;> rfl

theorem State.setMode_sameCore (s : State) (m : Mode) : SameCore s (s.setMode m) := s.setControl_sameCore _

theorem State.setMode_mode (s : State) (m : Mode) : (s.setMode m).control.mode = m := rfl

/-- A change from one open mode to another, with its MODE notice. -/
theorem State.setMode_postMode_laws (m : Mode) (before : s.control.mode.operating = true)
    (after : m.operating = true) : KeepsBookLaws s (s.setMode m).postMode := by
  refine ((s.setMode_sameCore m).trans (State.postMode_sameCore _)).tends.laws_of_open before ?_
  rw [(State.postMode_keepsBook _).1.control, State.setMode_mode, after]

theorem State.drain_laws (s : State) : KeepsBookLaws s s.drain.1 := by
  unfold State.drain
  dsimp only
  split
  · rename_i running
    exact State.setMode_postMode_laws .draining (by rw [running]; rfl) rfl
  · exact .rfl

/-- The way out of HALTED without settling: the deadlines and latches of RESUME, the MODE notice and a pass (R127). -/
theorem State.leaveHalted_laws (m : Mode) (before : s.control.mode.operating = true) (after : m.operating = true) :
    KeepsBookLaws s (s.leaveHalted m) := by
  have mode : (s.setMode m).control.mode.operating = true := after
  have opened : KeepsBookLaws s (s.setMode m) := (s.setMode_sameCore m).tends.laws_of_open before mode
  unfold State.leaveHalted
  dsimp only
  generalize s.setMode m = u at opened
  have core := ((u.modLiveDeadlines_sameCore fun d => d.leaveHalt u.timer.floor).trans
    (State.goLatches_sameCore _)).trans (State.postMode_sameCore _)
  have keeps := ((u.modLiveDeadlines_keeps fun d => d.leaveHalt u.timer.floor).trans
    (State.goLatches_keeps _)).trans (State.postMode_keepsBook _).1
  exact (opened.trans (core.laws keeps.control)).trans (State.grantPass_laws _ none)

theorem State.resume_laws (s : State) : KeepsBookLaws s s.resume.1 := by
  unfold State.resume
  split
  · rename_i halted
    have before : s.control.mode.operating = true := by rw [halted]; rfl
    split
    · exact .rfl
    · dsimp only
      split
      · exact State.leaveHalted_laws _ before rfl
      · exact State.leaveHalted_laws _ before rfl
      · exact s.enterSettling_tends.laws_of_open before s.enterSettling_operating
      · exact s.enterSettling_tends.laws_of_open before s.enterSettling_operating
  · rename_i draining
    dsimp only
    exact (State.setMode_postMode_laws .running (by rw [draining]; rfl) rfl).trans (State.grantPass_laws _ none)
  all_goals exact .rfl

theorem State.restart_tends (s : State) : Tends s s.restart.1 := by
  unfold State.restart
  dsimp only
  have rested := (s.flush_tends fun _ => true).trans (tends_foldl State.returnSensor_tends (List.finRange 32) _)
  split
  · exact rested.trans ((State.setControl_sameCore _ _).trans (State.postMode_sameCore _)).tends
  · exact rested.trans (State.enterSettling_tends _)

theorem State.restart_operating (s : State) : s.restart.1.control.mode.operating = true := by
  unfold State.restart
  dsimp only
  split
  · rename_i halted
    rw [(State.postMode_keepsBook _).1.control]
    dsimp only [State.setControl]
    rw [halted]
    rfl
  · exact State.enterSettling_operating _

theorem State.slotsWhere_mem {f : Passage → Bool} {p : Slot} {q : Passage} (hq : s.passage p = some q) :
    p ∈ s.slotsWhere f ↔ f q = true := by
  simp [State.slotsWhere, hq]

/-- A flush empties the slots whose passages it takes (R25). -/
theorem State.flush_passage_none {which : Passage → Bool} {p : Slot}
    (h : ∀ q, s.passage p = some q → which q = true) : (s.flush which).passage p = none := by
  have each : ∀ (l : List Slot) (u : State), (p ∈ l ∨ u.passage p = none) →
      (l.foldl (fun s x => s.remove x .flushed) u).passage p = none := by
    intro l
    induction l with
    | nil => exact fun u hu => hu.resolve_left List.not_mem_nil
    | cons x rest ih =>
      intro u hu
      refine ih _ ?_
      rcases hu with mem | gone
      · rcases List.mem_cons.1 mem with rfl | mem
        · exact .inr (u.remove_passage p .flushed)
        · exact .inl mem
      · exact .inr ((u.remove_tends x .flushed).passage_none gone)
  refine each _ s ?_
  cases hq : s.passage p with
  | none => exact .inr rfl
  | some q => exact .inl ((State.slotsWhere_mem hq).2 (h q hq))

theorem State.live_of_liveCount (h : ¬ 0 < s.liveCount) {p : Slot} {q : Passage} (hq : s.passage p = some q) :
    q.state = .queued := by
  have none : s.slotsWhere Passage.live = [] := List.eq_nil_of_length_eq_zero (Nat.eq_zero_of_not_pos h)
  rw [← Passage.live_eq_false_iff, ← Bool.not_eq_true, ← State.slotsWhere_mem hq, none]
  exact List.not_mem_nil

theorem State.nameServiceNode_sameCore (s : State) (n : Node) : SameCore s (s.nameServiceNode n) := .of_book rfl rfl

/-- The entry into SERVICE leaves what the laws of the book read. -/
theorem State.enterService_sameCore (s : State) (n : Node) : SameCore s (s.enterService n) := by
  have emptied : ∀ u : State,
      SameCore u { u with decoder := { u.decoder with latches := Vector.replicate 15 none } } := fun u =>
    .of_book rfl rfl
  exact (((s.setControl_sameCore _).trans ((State.nameServiceNode_sameCore _ n).trans (emptied _))).trans
    (State.restCells_sameCore _)).trans (State.postMode_sameCore _)

theorem State.enterService_mode (s : State) (n : Node) : (s.enterService n).control.mode = .service := by
  unfold State.enterService
  dsimp only
  rw [(State.postMode_keepsBook _).1.control]
  rfl

/-- SERVICE is entered with the pool empty (R118). -/
theorem State.enterService_laws {u : State} (h : Tends s u) (n : Node)
    (empty : s.ClosedEmpty → ∀ p, u.passage p = none) : KeepsBookLaws s (u.enterService n) := by
  have core := u.enterService_sameCore n
  have all := h.trans core.tends
  have closed : s.ClosedEmpty → (u.enterService n).ClosedEmpty := fun law _ p => core.passage_none (empty law p)
  have plain : (u.enterService n).RoutesPlain := fun op => by
    rw [u.enterService_mode n] at op; cases op
  refine ⟨all.lockLaw, all.namesUnique, fun law => ⟨closed law.1, all.listed law.2⟩, fun law => ?_⟩
  rw [State.holderLaw_iff] at law ⊢
  obtain ⟨lists, -, held⟩ := law
  exact ⟨⟨closed lists.1, all.listed lists.2⟩, plain, all.held lists.2 held⟩

theorem State.openService_laws (s : State) (src : Node) : KeepsBookLaws s (s.openService src).1 := by
  unfold State.openService
  split
  case h_1 =>
    rename_i unmapped
    dsimp only
    exact State.enterService_laws .rfl src fun law => law (.inl unmapped)
  case h_2 => exact (s.nameServiceNode_sameCore src).laws rfl
  case h_3 | h_4 =>
    split
    · exact .rfl
    · rename_i idle
      dsimp only
      exact State.enterService_laws (s.flush_tends _) src fun _ p => State.flush_passage_none fun q hq => by
        simpa using State.live_of_liveCount idle hq
  all_goals exact .rfl

theorem State.junctionPart1_laws (s : State) (src : Node) : KeepsBookLaws s (s.junctionPart1 src).1 := by
  unfold State.junctionPart1 State.storeSnapshot
  dsimp only
  split
  · exact .rfl
  · exact .of_book rfl rfl rfl

theorem State.junctionPart2_laws (s : State) (src : Node) : KeepsBookLaws s (s.junctionPart2 src).1 := by
  unfold State.junctionPart2
  split <;> exact .rfl

theorem State.junctionPart_laws (s : State) (src : Node) (part : Byte) :
    KeepsBookLaws s (s.junctionPart src part).1 := by
  unfold State.junctionPart
  split
  · exact s.junctionPart1_laws src
  · split
    · exact s.junctionPart2_laws src
    · exact .rfl

/-! #### COMMIT_MAP -/

/-- A route that passes the commit check repeats no cell (R12, step 4). -/
theorem WorkingMap.RouteGood.nodup {m : WorkingMap} {r : RouteId} (h : m.RouteGood r)
    (used : m.routes[r].inUse = true) : m.routes[r].cells.Nodup := by
  obtain ⟨⟨-, short⟩, -, positions⟩ := h used
  refine List.Nodup.filterMap (fun a b c ha hb => ?_) (List.pairwise_iff_getElem.2 fun i j hi hj hij e => ?_)
  · rw [Option.mem_def] at ha hb
    rw [show a = some c from ha, show b = some c from hb]
  · rw [List.length_take] at hj
    refine (positions j (by omega)).2 ⟨i, hij, ?_⟩
    rw [List.getElem_take, List.getElem_take] at e
    have hi : i < m.routes[r].list.toList.length := by omega
    have hj : j < m.routes[r].list.toList.length := by omega
    rw [RouteEntry.at?, RouteEntry.at?, List.getElem?_eq_getElem hi, List.getElem?_eq_getElem hj, e]

theorem State.committed_working (s : State) : s.committed.map.working = s.map.working := by
  rw [State.committed_map]

theorem State.committed_arrivals (s : State) : s.committed.book.arrivals = s.book.arrivals := by
  obtain ⟨-, book, -, -⟩ := s.identified_clear_keepsBook
  have before : s.committed.book.arrivals = s.identified.clearChangedSlots.book.arrivals := by
    unfold State.committed State.setUpSensors State.enrolled State.withMap
    dsimp only
  rw [before, book, State.identified]

theorem State.committed_queues (s : State) : s.committed.book.queues = s.book.queues := by
  obtain ⟨-, book, -, -⟩ := s.identified_clear_keepsBook
  have before : s.committed.book.queues = s.identified.clearChangedSlots.book.queues := by
    unfold State.committed State.setUpSensors State.enrolled State.withMap
    dsimp only
  rw [before, book, State.identified]

/-- What a commit sets up before SETTLING clears the locks and keeps the rest of what the laws of the book read. -/
theorem State.committed_laws (s : State) : s.committed.LockLaw ∧ (s.NamesUnique → s.committed.NamesUnique) ∧
    (s.Listed → s.committed.Listed) ∧ (s.Held → s.committed.Held) := by
  have pool := State.passage_congr s.committed_pool
  have arrivals := s.committed_arrivals
  have queues := s.committed_queues
  refine ⟨fun c => ?_, fun law => ?_, fun law => ?_, fun law => ?_⟩
  · rw [State.committed_cell]
    exact ⟨nofun, nofun⟩
  · simpa only [State.NamesUnique, pool] using law
  · have skips := law.1
    refine law.same_listing s.committed_working arrivals queues (fun p => by rw [pool]) ?_
    simpa only [State.SkipsBounded, pool, s.committed_working] using skips
  · exact law.same_holding s.committed_working pool (fun c => by rw [State.committed_cell])
      fun c => by rw [State.committed_cell]

/-- A commit opens the junction on a map whose routes repeat no cell (R12, R15). -/
theorem State.commitMap_laws : KeepsBookLaws s s.commitMap.1 := by
  unfold State.commitMap
  split
  · exact .rfl
  · rename_i valid
    dsimp only
    obtain ⟨routes, -⟩ := WorkingMap.fault_eq_none_iff.1 valid
    obtain ⟨locks, names, listed, held⟩ := s.committed_laws
    have settling := s.committed.enterSettling_tends
    rw [s.commit_eq_enterSettling]
    have open' : s.committed.enterSettling.ClosedEmpty := fun closed => by
      have closed := Mode.closed_iff.1 closed
      rw [State.enterSettling_operating] at closed
      cases closed
    have plain : s.committed.enterSettling.RoutesPlain := fun _ r => by
      rw [settling.working, s.committed_working]
      exact (routes r).nodup
    refine ⟨fun _ => settling.lockLaw locks, fun law => settling.namesUnique (names law),
      fun law => ⟨open', settling.listed (listed law.2)⟩, fun law => ?_⟩
    rw [State.holderLaw_iff] at law ⊢
    obtain ⟨lists, -, holding⟩ := law
    exact ⟨⟨open', settling.listed (listed lists.2)⟩, plain, settling.held (listed lists.2) (held holding)⟩

end

end Sys2Proof.Machine

namespace Sys2Proof.Machine

/-! ### Steps and the laws of the book -/

section
variable {s t u : State}

/-- A frame command keeps the laws if its owner does wherever the Decoder hands a frame on to it (R135, R143). -/
theorem onFrame_laws {c : Instr} {owner : State → State × Verdict}
    (ho : ∀ f u, frameOf c = some f → u.judge f.kind f.head.src = .take → KeepsBookLaws u (owner u).1)
    (h : onFrame c s owner = .next t) : KeepsBookLaws s t := by
  have read : ∀ f, KeepsBookLaws s (s.readFrame f) := fun f => .of_book rfl rfl rfl
  have tail : ∀ (u : State) v, KeepsBookLaws u (u.giveTail v) := fun u v => .of_book rfl rfl rfl
  rcases onFrame_cases h with rfl | ⟨f, hf, -, ⟨-, rfl⟩ | ⟨v, -, rfl⟩ | ⟨hj, rfl⟩⟩
  · exact .rfl
  · exact read f
  · exact (read f).trans (tail _ v)
  · exact ((read f).trans (ho f _ hf hj)).trans (tail _ _)

/-- A frame of the Map Store is taken in SERVICE alone (R7, R129). -/
theorem onServiceFrame_laws {c : Instr} {n : Node} {owner : State → State × Verdict}
    (kind : ∀ f, frameOf c = some f → f.kind ∈ Kind.mapStore)
    (ho : ∀ u, u.control.mode = .service → KeepsBookLaws u (owner u).1)
    (h : onServiceFrame c n s owner = .next t) : KeepsBookLaws s t := by
  refine onFrame_laws (fun f u hf hj => ?_) h
  have service : u.control.mode = .service := by
    have taken := State.judge_take hj
    have known := kind f hf
    simp only [Kind.mapStore, List.mem_cons, List.not_mem_nil, or_false] at known
    rcases known with k | k | k | k | k | k | k <;> simpa [k, Kind.takenIn, Kind.anyNode] using taken
  split
  · exact ho u service
  · exact .rfl

/-- An event keeps the laws if its work does. -/
theorem whenRunning_laws {f : State → State} (hf : ∀ u, KeepsBookLaws u (f u))
    (h : s.whenRunning f = .next t) : KeepsBookLaws s t := by
  rcases whenRunning_eq h with rfl | ⟨-, rfl⟩
  · exact .rfl
  · exact hf s

variable (s)

/-! #### Causes, expiries and reports -/

theorem State.setLiu_laws (l : Liu) : KeepsBookLaws s (s.setLiu l) := .of_book rfl rfl rfl

theorem State.setControl_laws {c : Control} (mode : c.mode = s.control.mode) : KeepsBookLaws s (s.setControl c) :=
  (s.setControl_sameCore c).tends.laws (by rw [← mode]; rfl)

/-- A cause that joins leaves a closed junction closed and an open one open (R116). -/
theorem State.joinCause_operating (add : HaltCauses → HaltCauses) :
    (s.joinCause add).control.mode.operating = s.control.mode.operating := by
  have posted : ∀ u : State, u.postMode.control = u.control := fun u => u.postMode_keepsBook.1.control
  unfold State.joinCause
  dsimp only
  split
  case h_1 | h_2 | h_3 => rw [posted, State.halt_control]; simp_all [Mode.operating]
  case h_4 =>
    split
    · rfl
    · rw [posted]; rfl
  case h_5 | h_6 => rfl

theorem State.joinCause_laws (add : HaltCauses → HaltCauses) : KeepsBookLaws s (s.joinCause add) :=
  (s.joinCause_sameCore add).tends.laws (s.joinCause_operating add)

theorem State.leaveCause_laws (f : HaltCauses → HaltCauses) : KeepsBookLaws s (s.leaveCause f) := by
  refine (s.leaveCause_sameCore f).tends.laws ?_
  unfold State.leaveCause
  dsimp only
  split
  · rw [(State.postMode_keepsBook _).1.control]; rfl
  · rfl

theorem State.judgeReadback_laws (a : ApproachId) : KeepsBookLaws s (s.judgeReadback a) := by
  have signal : ∀ r, KeepsBookLaws s (s.setSignal a r) := fun r => (s.setSignal_sameCore a r).laws rfl
  have granted : ∀ (u : State) f, KeepsBookLaws u (u.modGranted a f) := fun u f => by
    unfold State.modGranted
    split
    · exact .rfl
    · exact (u.modDeadline_sameCore _ f).laws rfl
  unfold State.judgeReadback
  dsimp only
  split
  case h_1 | h_2 => exact (signal _).trans (granted _ _)
  case h_3 => exact (signal _).trans (State.joinCause_laws _ _)
  case h_4 =>
    split
    · exact signal _
    · exact (signal _).trans (State.leaveCause_laws _ _)

theorem State.emergencyStop_laws : KeepsBookLaws s s.emergencyStop := by
  unfold State.emergencyStop State.sendHaltPulse
  dsimp only
  split
  case h_1 | h_2 | h_3 => exact (s.joinCause_laws _).trans (State.setLiu_laws _ _)
  case h_4 | h_5 | h_6 => exact s.joinCause_laws _

/-- SETTLING ends with a MODE notice and a grant pass (R121). -/
theorem State.riseSettleCount_laws : KeepsBookLaws s s.riseSettleCount := by
  unfold State.riseSettleCount
  dsimp only
  split
  · rename_i settling
    have counted := s.setControl_laws (c := { s.control with settleCount := s.control.settleCount + 1 }) rfl
    split
    · refine counted.trans (KeepsBookLaws.trans ?_ (State.grantPass_laws _ _))
      exact State.setMode_postMode_laws (s := s.setControl _) .running (by rw [State.setControl, settling]; rfl) rfl
    · exact counted
  · exact .rfl

theorem State.expiry_laws (p : Slot) (k : ArmedKind) (o : Outcome) :
    KeepsBookLaws s (if s.expiryDue p k then s.afterEvent (s.remove p o) true else s) := by
  split
  · exact s.afterRemoval_laws p o
  · exact .rfl

theorem State.arrivalExpiry_laws (p : Slot) : KeepsBookLaws s (s.arrivalExpiry p) := s.expiry_laws p _ _

theorem State.blindClearExpiry_laws (p : Slot) : KeepsBookLaws s (s.blindClearExpiry p) := s.expiry_laws p _ _

/-- A DWELL expiry works on the deadline and the overdue level, which the laws do not read. -/
theorem State.dwellExpiry_laws (p : Slot) : KeepsBookLaws s (s.dwellExpiry p) := by
  unfold State.dwellExpiry
  split
  · exact .rfl
  · rename_i q hq
    dsimp only
    split
    · have posted := KeepsBook.laws (State.postOwnerAndSafety_keepsBook
        (s.setPassage p (some (q.afterDwell s.timer.floor))) q.overdue.body p (q.afterDwell s.timer.floor))
      refine KeepsBookLaws.trans ?_ posted
      refine SameCore.laws ⟨rfl, rfl, rfl, fun _ => rfl, fun x => ?_⟩ rfl
      rw [State.passage_setPassage]
      split
      · subst x; rw [hq]; rfl
      · rfl
    · exact .rfl

theorem State.expire_laws (p : Slot) : KeepsBookLaws s (s.expire p) :=
  ((s.arrivalExpiry_laws p).trans (State.dwellExpiry_laws _ p)).trans (State.blindClearExpiry_laws _ p)

theorem State.tick_laws (l : List Slot) : KeepsBookLaws s (l.foldl State.expire s).increment :=
  (keepsBookLaws_foldl State.expire_laws l s).trans (.of_book rfl rfl rfl)

theorem State.occupancyChange_laws (c : CellId) : KeepsBookLaws s (s.occupancyChange c) := by
  unfold State.occupancyChange
  split
  · dsimp only
    refine ((s.takeChange_tends c _ _).trans (State.afterEvent_tends _ _ _)).laws_of_control ?_
    exact ((s.takeChange_keeps c _ _).trans (State.afterEvent_keeps _ _ _)).control
  · exact .rfl

theorem State.scan_laws (cells : BitVec 32) (signals : BitVec 8) (emergency : Bool) :
    KeepsBookLaws s (s.scan cells signals emergency) := (s.scan_sameCore cells signals emergency).tends.laws rfl

/-! #### The line -/

theorem State.retireNotice_laws (k : MasterSlot) (lost : Bool) (rx : Option Receive) :
    KeepsBookLaws s (s.retireNotice k lost rx) := by
  refine KeepsBookLaws.trans ?_ (State.refill_keepsBook _).laws
  exact .of_book rfl rfl rfl

theorem State.startNotice_laws (f : TxFrame) : KeepsBookLaws s (s.startNotice f) := .of_book rfl rfl rfl

theorem State.recordError_laws (k : LineError) : KeepsBookLaws s (s.recordError k) := .of_book rfl rfl rfl

theorem State.applyReset_laws : KeepsBookLaws s s.applyReset := .of_book rfl rfl rfl

theorem State.crystalCycle_laws : KeepsBookLaws s s.crystalCycle := by
  unfold State.crystalCycle
  split
  case h_1 => exact .rfl
  case h_2 | h_3 => exact .of_book rfl rfl rfl

end

end Sys2Proof.Machine

namespace Sys2Proof.Machine

/-! ### Every step keeps the laws of the book -/

section
variable {s t : State}

/-! #### Events of the line and of the pins -/

theorem execNoticeFrameStart_laws (h : execNoticeFrameStart s = .next t) : KeepsBookLaws s t := by
  refine whenRunning_laws (fun u => ?_) h
  split
  · exact .rfl
  · split
    · exact u.startNotice_laws _
    · exact .rfl

theorem execNoticeSentClean_laws (h : execNoticeSentClean s = .next t) : KeepsBookLaws s t := by
  refine whenRunning_laws (fun u => ?_) h
  split
  · exact u.retireNotice_laws _ _ _
  · exact .rfl

theorem execNoticeBitError_laws (h : execNoticeBitError s = .next t) : KeepsBookLaws s t := by
  refine whenRunning_laws (fun u => ?_) h
  split
  · dsimp only
    split
    · exact .of_book rfl rfl rfl
    · exact ((u.recordError_laws _).trans (State.recordError_laws _ _)).trans (State.retireNotice_laws _ _ _ _)
  · exact .rfl

theorem execArbitrationLost_laws {loss : Loss} (h : execArbitrationLost loss s = .next t) : KeepsBookLaws s t := by
  refine whenRunning_laws (fun u => ?_) h
  split
  · exact .rfl
  · exact u.setLiu_laws _
  · split
    · exact u.setLiu_laws _
    · exact .rfl

theorem execFrameError_laws {raw : RawFrame} (h : execFrameError raw s = .next t) : KeepsBookLaws s t := by
  refine whenRunning_laws (fun u => ?_) h
  split
  · exact .rfl
  · split
    · exact (u.setLiu_laws _).trans (State.recordError_laws _ _)
    · exact u.setLiu_laws _
    · exact .rfl

theorem execTailBitError_laws (h : execTailBitError s = .next t) : KeepsBookLaws s t := by
  refine whenRunning_laws (fun u => ?_) h
  split
  · exact .rfl
  · split
    · exact (u.setLiu_laws _).trans (State.recordError_laws _ _)
    · exact .rfl

theorem execNoiseRun_laws {cycles : Nat} (h : execNoiseRun cycles s = .next t) : KeepsBookLaws s t := by
  refine whenRunning_laws (fun u => ?_) h
  split
  · exact u.recordError_laws _
  · exact .rfl

/-- LINE_IDLE, LINE_BUSY and the release of the pulse write the LIU alone. -/
theorem setLiu_ite_laws {p : State → Prop} [DecidablePred p] {l : State → Liu}
    (h : (s.whenRunning fun u => if p u then u.setLiu (l u) else u) = .next t) : KeepsBookLaws s t := by
  refine whenRunning_laws (fun u => ?_) h
  split
  · exact u.setLiu_laws _
  · exact .rfl

theorem execHaltPulseStart_laws (h : execHaltPulseStart s = .next t) : KeepsBookLaws s t := by
  refine whenRunning_laws (fun u => ?_) h
  split
  · exact (u.setLiu_laws _).trans (State.joinCause_laws _ _)
  · exact .rfl

theorem execHaltPulseEnd_laws (h : execHaltPulseEnd s = .next t) : KeepsBookLaws s t := by
  refine whenRunning_laws (fun u => ?_) h
  split
  · exact (u.setLiu_laws _).trans (State.leaveCause_laws _ _)
  · exact .rfl

theorem execLineStuck_laws (h : execLineStuck s = .next t) : KeepsBookLaws s t := by
  refine whenRunning_laws (fun u => ?_) h
  split
  · exact ((u.setLiu_laws _).trans (State.recordError_laws _ _)).trans (State.joinCause_laws _ _)
  · exact .rfl

theorem execLineStuckRecovery_laws (h : execLineStuckRecovery s = .next t) : KeepsBookLaws s t := by
  refine whenRunning_laws (fun u => ?_) h
  split
  · exact (u.setLiu_laws _).trans (State.leaveCause_laws _ _)
  · exact .rfl

theorem execReadbackChange_laws {approach : ApproachId} (h : execReadbackChange approach s = .next t) :
    KeepsBookLaws s t := by
  refine whenRunning_laws (fun u => ?_) h
  split
  · exact u.judgeReadback_laws _
  · exact .rfl

theorem execEmergencyAsserted_laws (h : execEmergencyAsserted s = .next t) : KeepsBookLaws s t := by
  refine whenRunning_laws (fun u => ?_) h
  split
  · refine KeepsBookLaws.trans ?_ (State.emergencyStop_laws _)
    exact u.setControl_laws rfl
  · exact .rfl

theorem execEmergencyClear_laws (h : execEmergencyClear s = .next t) : KeepsBookLaws s t := by
  refine whenRunning_laws (fun u => ?_) h
  split
  · refine KeepsBookLaws.trans ?_ (State.leaveCause_laws _ _)
    exact u.setControl_laws rfl
  · exact .rfl

theorem execSettleCountRise_laws (h : execSettleCountRise s = .next t) : KeepsBookLaws s t := by
  refine whenRunning_laws (fun u => ?_) h
  split
  · refine KeepsBookLaws.trans ?_ (State.riseSettleCount_laws _)
    exact u.setControl_laws rfl
  · exact .rfl

/-! #### Hardware reset -/

/-- At the end of hardware reset the pool, the lists and the cells are empty. -/
theorem State.afterReset_laws (straps : BitVec 4) (l : List Instr) :
    ({ State.afterReset straps with pending := l }).LockLaw ∧
      ({ State.afterReset straps with pending := l }).NamesUnique ∧
      ({ State.afterReset straps with pending := l }).HolderLaw := by
  have passage : ∀ p, ({ State.afterReset straps with pending := l } : State).passage p = none := fun p => by
    simp [State.passage, State.afterReset]
  have cell : ∀ c, ({ State.afterReset straps with pending := l } : State).cell c = .reset := fun c => by
    simp [State.cell, State.afterReset]
  have queue : ∀ a, ({ State.afterReset straps with pending := l } : State).queue a = [] := fun a => by
    simp [State.queue, State.afterReset]
  refine ⟨fun c => by rw [cell]; exact ⟨nofun, nofun⟩, fun p x q r hq _ _ => ?_, ?_⟩
  · rw [passage] at hq; cases hq
  · rw [State.holderLaw_iff, State.listLaw_iff]
    refine ⟨⟨fun _ => passage, fun p q hq => ?_, List.nodup_nil, fun p => ?_, fun a => ?_, fun a => ?_⟩,
      fun op => (Bool.false_ne_true op).elim, fun a p x hp _ => ?_, fun p q hq => ?_, fun c p hc => ?_, fun c p => ?_⟩
    · rw [passage] at hq; cases hq
    · rw [passage]; simp [State.afterReset]
    · rw [queue]; rfl
    · rw [queue]; exact Nat.zero_le _
    · obtain ⟨q, hq, -⟩ := hp; rw [passage] at hq; cases hq
    · rw [passage] at hq; cases hq
    · rw [cell] at hc; cases hc
    · rw [cell, passage]; simp [CellRec.reset]

/-! #### Commands and steps -/

/-- Every command keeps the laws of the book. -/
theorem exec_bookLaws {c : Instr} (h : exec c s = .next t) : KeepsBookLaws s t := by
  cases c
  all_goals simp only [exec, execIdentify, execLinePattern, execQueryJunctionPart1, execQueryJunctionPart2,
    execQueryPassage, execQueryCell, execQueryLine, execRequestPassage, execWithdraw, execLockCells, execUnlockCells,
    execSetSensor, execForceRelease, execDrain, execResume, execRestart, execOpenService, execLoadOptions, execLoadCell,
    execLoadApproach, execLoadRoute, execLoadRouteCells, execLoadMaster, execCommitMap, execScan,
    execOccupancyChange, execTick, execArrivalExpiry, execDwellExpiry, execBlindClearExpiry, execHardwareReset,
    execOscillatorReady, execResetRelease, execLineIdle, execLineBusy, execHaltPulseRelease] at h
  case identify | linePattern | queryPassage | queryCell => exact onFrame_laws (fun _ u _ _ => .rfl) h
  case queryJunctionPart1 => exact onFrame_laws (fun _ u _ _ => u.junctionPart_laws _ _) h
  case queryJunctionPart2 => exact onFrame_laws (fun _ u _ _ => u.junctionPart2_laws _) h
  case queryLine => exact onFrame_laws (fun _ u _ _ => .of_book rfl rfl rfl) h
  case requestPassage =>
    refine onFrame_laws (fun f u hf hj => ?_) h
    have taken := State.judge_take hj
    cases hf
    split
    · exact .rfl
    · refine u.request_laws _ _ _ _ _ _ ?_
      cases mode : u.control.mode <;> simp [Kind.takenIn, Kind.anyNode, Mode.operating, mode] at taken ⊢
  case withdraw => exact onFrame_laws (fun _ u _ _ => u.withdraw_laws _ _ _) h
  case forceRelease => exact onFrame_laws (fun _ u _ _ => u.forceRelease_laws _ _) h
  case lockCells => exact onFrame_laws (fun _ u _ _ => u.lockCells_laws _) h
  case unlockCells => exact onFrame_laws (fun _ u _ _ => u.unlockCells_laws _) h
  case setSensor => exact onFrame_laws (fun _ u _ _ => u.setSensorMode_laws _ _) h
  case drain => exact onFrame_laws (fun _ u _ _ => u.drain_laws) h
  case resume => exact onFrame_laws (fun _ u _ _ => u.resume_laws) h
  case restart =>
    refine onFrame_laws (fun f u hf hj => ?_) h
    have taken := State.judge_take hj
    cases hf
    refine u.restart_tends.laws_of_open ?_ u.restart_operating
    simpa [Kind.takenIn, Kind.anyNode] using taken
  case openService => exact onFrame_laws (fun _ u _ _ => u.openService_laws _) h
  case loadOptions | loadCell | loadApproach | loadRoute | loadRouteCells | loadMaster =>
    refine onServiceFrame_laws (fun f hf => ?_) (fun u service => u.load_laws _ service) h
    cases hf
    simp [Kind.mapStore]
  case commitMap =>
    refine onServiceFrame_laws (fun f hf => ?_) (fun u _ => u.commitMap_laws) h
    cases hf
    simp [Kind.mapStore]
  case frameError => exact execFrameError_laws h
  case tailBitError => exact execTailBitError_laws h
  case noiseRun => exact execNoiseRun_laws h
  case lineIdle | lineBusy => exact setLiu_ite_laws h
  case noticeFrameStart => exact execNoticeFrameStart_laws h
  case arbitrationLost => exact execArbitrationLost_laws h
  case noticeSentClean => exact execNoticeSentClean_laws h
  case noticeBitError => exact execNoticeBitError_laws h
  case haltPulseStart => exact execHaltPulseStart_laws h
  case haltPulseEnd => exact execHaltPulseEnd_laws h
  case lineStuck => exact execLineStuck_laws h
  case lineStuckRecovery => exact execLineStuckRecovery_laws h
  case haltPulseRelease => exact whenRunning_laws (fun u => u.setLiu_laws _) h
  case scan => exact whenRunning_laws (fun u => u.scan_laws _ _ _) h
  case occupancyChange => exact whenRunning_laws (fun u => u.occupancyChange_laws _) h
  case readbackChange => exact execReadbackChange_laws h
  case emergencyAsserted => exact execEmergencyAsserted_laws h
  case emergencyClear => exact execEmergencyClear_laws h
  case settleCountRise => exact execSettleCountRise_laws h
  case tick => exact whenRunning_laws (fun u => u.tick_laws _) h
  case arrivalExpiry => exact whenRunning_laws (fun u => u.arrivalExpiry_laws _) h
  case dwellExpiry => exact whenRunning_laws (fun u => u.dwellExpiry_laws _) h
  case blindClearExpiry => exact whenRunning_laws (fun u => u.blindClearExpiry_laws _) h
  case hardwareReset =>
    rw [Host.Outcome.next.injEq] at h
    subst h
    split
    · exact s.applyReset_laws
    · exact .rfl
  case oscillatorReady straps =>
    rw [Host.Outcome.next.injEq] at h
    subst h
    split
    · obtain ⟨locks, names, holding⟩ := State.afterReset_laws straps s.pending
      exact ⟨fun _ => locks, fun _ => names, fun _ => holding.1, fun _ => holding⟩
    · exact .rfl
  case resetRelease =>
    rw [Host.Outcome.next.injEq] at h
    subst h
    split
    · exact .of_book rfl rfl rfl
    · exact .rfl

/-- Every step keeps the laws of the book. -/
theorem step_bookLaws (h : step s = .next t) : KeepsBookLaws s t := by
  unfold step at h
  split at h
  · cases h
    exact s.crystalCycle_laws
  · rename_i rest _
    have popped : KeepsBookLaws s { s with pending := rest } := .of_book rfl rfl rfl
    exact popped.trans (exec_bookLaws h)

end

/-- Settles O6: a cell gets a holder only in a grant, which takes unlocked cells, and loses it only in a release, at which
a pending lock takes hold. -/
theorem lockLawKept : Obligations.LockLawKept := fun _ _ law h => (step_bookLaws h).locks law

/-- Settles O8: a name comes into the pool only by an admission, and only after the duplicate check (R27). -/
theorem namesUniqueKept : Obligations.NamesUniqueKept := fun _ _ law h => (step_bookLaws h).names law

/-- Settles O10: a passage joins both lists at its admission and leaves both when it is no longer QUEUED, and a rise of its
skip count to the limit makes it blocking. -/
theorem listLawKept : Obligations.ListLawKept := fun _ _ law h => (step_bookLaws h).lists law

/-- Settles O11: a grant takes unheld cells that no other passage has reserved, a release gives back the first held ones,
and a removal gives back all of them. -/
theorem holderLawKept : Obligations.HolderLawKept := fun _ _ law h => (step_bookLaws h).holding law

/-- Settles O3: hardware reset leaves the pool, the lists, the FIFOs and the transmit side empty, every latch at STOP and
the mode UNMAPPED with no cause. -/
theorem lawsHoldAtReset : Obligations.LawsHoldAtReset := by
  intro straps
  obtain ⟨locks, names, holding⟩ := State.afterReset_laws straps []
  refine ⟨fun k => ?_, fun _ => rfl, locks, fun a ha => ?_, names, State.afterReset_transmitLaw straps [], holding,
    State.afterReset_timerLaw straps []⟩
  · simp [State.afterReset, Config.fifoDepth]
  · simp [State.signal, State.afterReset, SignalRec.reset] at ha

end Sys2Proof.Machine

namespace Sys2Proof.Machine

/-! ### What the frame of a fleet master leaves alone -/

/-- What no fleet master's frame changes, and what it may do to a lock (R33, R129). -/
structure SparesSafety (s t : State) : Prop where
  control : t.control = s.control
  map : t.map = s.map
  scanner : t.scanner = s.scanner
  timer : t.timer = s.timer
  service : t.decoder.service = s.decoder.service
  locks : ∀ c, (t.cell c).lock = (s.cell c).lock ∨ (s.cell c).lock = .pending ∧ (t.cell c).lock = .locked

section
variable {s t u : State}

theorem SparesSafety.trans (h : SparesSafety s t) (k : SparesSafety t u) : SparesSafety s u := by
  refine ⟨k.control.trans h.control, k.map.trans h.map, k.scanner.trans h.scanner, k.timer.trans h.timer,
    k.service.trans h.service, fun c => ?_⟩
  rcases h.locks c with same | ⟨pending, locked⟩ <;> rcases k.locks c with same' | ⟨pending', locked'⟩
  · exact .inl (same'.trans same)
  · exact .inr ⟨same ▸ pending', locked'⟩
  · exact .inr ⟨pending, same'.trans locked⟩
  · rw [locked] at pending'
    cases pending'

/-- The line, the tail, the error record and the snapshot latches are none of it. -/
theorem SparesSafety.of_cells (control : t.control = s.control) (map : t.map = s.map) (scanner : t.scanner = s.scanner)
    (timer : t.timer = s.timer) (service : t.decoder.service = s.decoder.service) (cells : t.book.cells = s.book.cells) :
    SparesSafety s t :=
  ⟨control, map, scanner, timer, service, fun c => .inl (by rw [State.cell_congr cells])⟩

theorem SparesSafety.rfl {s : State} : SparesSafety s s := ⟨.refl _, .refl _, .refl _, .refl _, .refl _, fun _ => .inl (.refl _)⟩

/-- Work on the book and the notices: of the locks, it makes pending ones take hold alone. -/
theorem Keeps.sparesSafety (h : Keeps s t) (k : Tends s t) : SparesSafety s t :=
  ⟨h.control, h.map, h.2.2.1, h.timer, congrArg Decoder.service h.decoder, k.locks⟩

variable (s)

theorem State.request_sparesSafety (m : MasterSlot) (carrier : CarrierId) (route cls speed : Byte)
    (length : BitVec 16) : SparesSafety s (s.request m carrier route cls speed length).1 := by
  unfold State.request
  split
  · exact .rfl
  · rename_i r p _
    dsimp only
    have admitted : SparesSafety s (s.admission p (s.newPassage m carrier r cls speed length)) :=
      .of_cells rfl rfl rfl rfl rfl rfl
    exact admitted.trans ((State.grantPass_keeps _ _).sparesSafety (State.grantPass_tends _ _))

theorem State.withdraw_sparesSafety (src : Node) (slot : Byte) (carrier : CarrierId) :
    SparesSafety s (s.withdraw src slot carrier).1 := by
  unfold State.withdraw
  split
  · exact .rfl
  · rename_i p _ _
    split
    · exact .rfl
    · split
      · exact .rfl
      · exact (s.afterRemoval_keeps p _).sparesSafety ((s.remove_tends p _).trans (State.afterEvent_tends _ _ _))

theorem State.junctionPart2_sparesSafety (src : Node) : SparesSafety s (s.junctionPart2 src).1 := by
  unfold State.junctionPart2
  split <;> exact .rfl

theorem State.junctionPart1_sparesSafety (src : Node) : SparesSafety s (s.junctionPart1 src).1 := by
  unfold State.junctionPart1 State.storeSnapshot
  dsimp only
  split
  · exact .rfl
  · exact .of_cells rfl rfl rfl rfl rfl rfl

theorem State.junctionPart_sparesSafety (src : Node) (part : Byte) : SparesSafety s (s.junctionPart src part).1 := by
  unfold State.junctionPart
  split
  · exact s.junctionPart1_sparesSafety src
  · split
    · exact s.junctionPart2_sparesSafety src
    · exact .rfl

variable {s}

/-- The kinds that a fleet master's frame is taken with in the operating modes (R129). -/
def Kind.fleet : List Kind :=
  [.identify, .linePattern, .queryJunction, .queryPassage, .queryCell, .queryLine, .requestPassage, .withdraw]

theorem State.judge_fleet {k : Kind} {src : Node} {m : MasterSlot} (op : s.control.mode.operating = true)
    (enrolled : s.enrolledSlot src = some m) (fleet : s.isSafety m = false) (h : s.judge k src = .take) :
    k ∈ Kind.fleet := by
  have notService : s.control.mode ≠ .service := fun e => by rw [e] at op; cases op
  have taken := State.judge_take h
  have open' : Kind.safetyOnly k = false := by
    simp only [State.judge, op, enrolled, fleet, if_true, Bool.not_false, Bool.and_true] at h
    cases only : Kind.safetyOnly k
    · rfl
    · rw [only] at h
      split at h <;> simp at h
  cases k <;> simp_all [Kind.fleet, Kind.safetyOnly, Kind.takenIn, Kind.anyNode]

/-- A frame command spares it if its owner does, where the frame is taken. -/
theorem onFrame_sparesSafety {c : Instr} {owner : State → State × Verdict}
    (ho : ∀ f, frameOf c = some f → s.judge f.kind f.head.src = .take →
      SparesSafety (s.readFrame f) (owner (s.readFrame f)).1)
    (h : onFrame c s owner = .next t) : SparesSafety s t := by
  have read : ∀ f, SparesSafety s (s.readFrame f) := fun f => .of_cells rfl rfl rfl rfl rfl rfl
  have tail : ∀ (u : State) v, SparesSafety u (u.giveTail v) := fun u v => .of_cells rfl rfl rfl rfl rfl rfl
  rcases onFrame_cases h with rfl | ⟨f, hf, -, ⟨-, rfl⟩ | ⟨v, -, rfl⟩ | ⟨hj, rfl⟩⟩
  · exact .rfl
  · exact read f
  · exact (read f).trans (tail _ v)
  · exact ((read f).trans (ho f hf hj)).trans (tail _ _)

/-- The frames that are taken from a fleet master spare it. -/
theorem exec_sparesSafety {c : Instr} {f : Frame} (hf : frameOf c = some f)
    (kind : s.judge f.kind f.head.src = .take → f.kind ∈ Kind.fleet) (h : exec c s = .next t) : SparesSafety s t := by
  have notTaken : ∀ {owner}, f.kind ∉ Kind.fleet → onFrame c s owner = .next t → SparesSafety s t :=
    fun other => onFrame_sparesSafety fun g hg hj => by
      cases hf.symm.trans hg
      exact absurd (kind hj) other
  cases c
  all_goals simp only [exec, execIdentify, execLinePattern, execQueryJunctionPart1, execQueryJunctionPart2,
    execQueryPassage, execQueryCell, execQueryLine, execRequestPassage, execWithdraw, execLockCells, execUnlockCells,
    execSetSensor, execForceRelease, execDrain, execResume, execRestart, execOpenService, execLoadOptions, execLoadCell,
    execLoadApproach, execLoadRoute, execLoadRouteCells, execLoadMaster, execCommitMap, onServiceFrame] at h
  case identify | linePattern | queryPassage | queryCell => exact onFrame_sparesSafety (fun _ _ _ => .rfl) h
  case queryLine => exact onFrame_sparesSafety (fun _ _ _ => .of_cells rfl rfl rfl rfl rfl rfl) h
  case queryJunctionPart1 => exact onFrame_sparesSafety (fun _ _ _ => State.junctionPart_sparesSafety _ _ _) h
  case queryJunctionPart2 => exact onFrame_sparesSafety (fun _ _ _ => State.junctionPart2_sparesSafety _ _) h
  case requestPassage =>
    refine onFrame_sparesSafety (fun _ _ _ => ?_) h
    split
    · exact .rfl
    · exact State.request_sparesSafety _ _ _ _ _ _ _
  case withdraw => exact onFrame_sparesSafety (fun _ _ _ => State.withdraw_sparesSafety _ _ _ _) h
  case lockCells | unlockCells | setSensor | forceRelease | drain | resume | restart | openService | loadOptions
      | loadCell | loadApproach | loadRoute | loadRouteCells | loadMaster | commitMap =>
    refine notTaken ?_ h
    cases hf
    simp [Kind.fleet]
  all_goals cases hf

end

/-- Settles O15: of the frames that a fleet master has taken, only REQUEST_PASSAGE and WITHDRAW change more than the
Decoder and the error record, and these work on the book and the notices. -/
theorem fleetFramesKeepModeAndSensors : Obligations.FleetFramesKeepModeAndSensors := by
  intro c f m s t hf op enrolled fleet h
  obtain ⟨control, map, scanner, timer, service, locks⟩ :=
    exec_sparesSafety hf (State.judge_fleet op enrolled fleet) h
  exact ⟨control, map, scanner, timer, service, locks⟩

end Sys2Proof.Machine

namespace Sys2Proof.Machine

/-! ### Frames that are taken -/

section
variable {s : State}

/-- A frame that is taken does its owner's work on the state with the frame read, and the owner's verdict is its tail
(R135, R143). -/
theorem State.Takes.exec_eq {c : Instr} {owner : State → State × Verdict} (h : s.Takes c)
    (frame : exec c s = onFrame c s owner) :
    ∃ f, frameOf c = some f ∧ exec c s = .next ((owner (s.readFrame f)).1.giveTail (owner (s.readFrame f)).2) := by
  obtain ⟨f, hf, hears, taken⟩ := h
  exact ⟨f, hf, frame.trans (onFrame_take hf hears taken)⟩

/-- A frame whose owner changes nothing is answered with the owner's verdict. -/
theorem State.Takes.answers {c : Instr} {owner : State → State × Verdict} {v : Verdict} (h : s.Takes c)
    (frame : exec c s = onFrame c s owner) (unchanged : ∀ f, owner (s.readFrame f) = (s.readFrame f, v)) :
    ∃ t, exec c s = .next t ∧ t.Answers v ∧ SameButTail s t := by
  obtain ⟨f, -, done⟩ := h.exec_eq frame
  rw [unchanged f] at done
  exact ⟨_, done, (s.sameButTail_answer f v).2, (s.sameButTail_answer f v).1⟩

/-- Giving a tail leaves everything but the line state, the byte buffer and the tail. -/
theorem State.sameButTail_giveTail (s : State) (v : Verdict) : SameButTail s (s.giveTail v) := rfl

theorem State.answers_giveTail (s : State) (v : Verdict) : (s.giveTail v).Answers v := rfl

/-! ### The checks of REQUEST_PASSAGE -/

theorem find?_eq_of_first {n : Nat} {f : Fin n → Bool} {r : Fin n} (hr : f r = true)
    (before : ∀ x, x < r → f x = false) : (List.finRange n).find? f = some r := by
  rw [← List.findSome?_guard]
  exact findSome?_eq_of_first (f := Option.guard f) (Option.guard_eq_some_iff.2 ⟨rfl, hr⟩) fun x hx => by
    simp [Option.guard, before x hx]

theorem indexOf_eq_none {n v : Nat} (h : n ≤ v) : indexOf n v = none := by
  simp [indexOf, h]

variable {m : MasterSlot} {carrier : CarrierId} {route : Byte} {length : BitVec 16} {r : RouteId} {p : Slot}
  {q : Passage}

theorem State.slotOfCarrier_some (names : s.NamesUnique) (hq : s.passage p = some q) (master : q.master = m)
    (same : q.carrier = carrier) : s.slotOfCarrier m carrier = some (p, q) := by
  subst master same
  refine findSome?_eq_of_first (r := p) (by simp [hq]) fun x hx => ?_
  cases hy : s.passage x with
  | none => rfl
  | some y =>
    have other : ¬ (y.master = q.master ∧ y.carrier = q.carrier) := fun ⟨hm, hc⟩ =>
      absurd (names x p y q hy hq hm hc) (Fin.ne_of_lt hx)
    simp [other]

theorem State.slotOfCarrier_none (fresh : ∀ p q, s.passage p = some q → ¬ (q.master = m ∧ q.carrier = carrier)) :
    s.slotOfCarrier m carrier = none := by
  refine findSome?_finRange_eq_none.2 fun x => ?_
  cases hy : s.passage x with
  | none => rfl
  | some y => simp [fresh x y hy]

theorem State.freeSlot_first (free : s.passage p = none) (before : ∀ x, x < p → s.passage x ≠ none) :
    s.freeSlot = some p :=
  find?_eq_of_first (by simp [free]) fun x hx => by simpa using Option.ne_none_iff_isSome.1 (before x hx)

theorem State.freeSlot_none (full : ∀ p, s.passage p ≠ none) : s.freeSlot = none := by
  simp [State.freeSlot, full]

theorem State.freeSlot_some (free : s.passage p = none) : ∃ x, s.freeSlot = some x := by
  rw [← Option.isSome_iff_exists, State.freeSlot, List.find?_isSome]
  exact ⟨p, List.mem_finRange p, by simp [free]⟩

theorem State.checkRequest_noRoute (h : 47 < route.toNat ∨
      ∃ r : RouteId, route.toNat = r.val ∧ s.map.working.routes[r].inUse = false) :
    s.checkRequest m carrier route length = .error .unknownRoute := by
  rcases h with high | ⟨r, same, unused⟩
  · rw [State.checkRequest, indexOf_eq_none high]
  · rw [State.checkRequest, indexOf_val same]
    simp only [unused, Bool.not_false, if_true]

section
variable (known : route.toNat = r.val) (used : s.map.working.routes[r].inUse = true)
include known used

theorem State.checkRequest_tooLong (long : 400 < length.toNat) :
    s.checkRequest m carrier route length = .error (.badValue 6 none) := by
  rw [State.checkRequest, indexOf_val known]
  simp only [used, Bool.not_true, Bool.false_eq_true, if_false, if_pos long, badField]

variable (short : length.toNat ≤ 400)
include short

theorem State.checkRequest_duplicate (names : s.NamesUnique) (hq : s.passage p = some q) (master : q.master = m)
    (same : q.carrier = carrier) : s.checkRequest m carrier route length = .error (.duplicate p q.state) := by
  rw [State.checkRequest, indexOf_val known]
  simp only [used, Bool.not_true, Bool.false_eq_true, if_false, if_neg (Nat.not_lt.2 short),
    State.slotOfCarrier_some names hq master same]

variable (fresh : ∀ p q, s.passage p = some q → ¬ (q.master = m ∧ q.carrier = carrier))
include fresh

theorem State.checkRequest_poolFull (full : ∀ p, s.passage p ≠ none) :
    s.checkRequest m carrier route length = .error .poolFull := by
  rw [State.checkRequest, indexOf_val known]
  simp only [used, Bool.not_true, Bool.false_eq_true, if_false, if_neg (Nat.not_lt.2 short),
    State.slotOfCarrier_none fresh, State.freeSlot_none full]

theorem State.checkRequest_queueFull (free : s.passage p = none)
    (full : s.map.working.approaches[s.map.working.routes[r].approach].limit ≤
      (s.queue s.map.working.routes[r].approach).length) :
    s.checkRequest m carrier route length = .error .queueFull := by
  obtain ⟨x, hx⟩ := State.freeSlot_some free
  rw [State.checkRequest, indexOf_val known]
  simp only [used, Bool.not_true, Bool.false_eq_true, if_false, if_neg (Nat.not_lt.2 short),
    State.slotOfCarrier_none fresh, hx, if_pos full]

theorem State.checkRequest_admits (free : s.passage p = none) (before : ∀ x, x < p → s.passage x ≠ none)
    (room : (s.queue s.map.working.routes[r].approach).length <
      s.map.working.approaches[s.map.working.routes[r].approach].limit) :
    s.checkRequest m carrier route length = .ok (r, p) := by
  rw [State.checkRequest, indexOf_val known]
  simp only [used, Bool.not_true, Bool.false_eq_true, if_false, if_neg (Nat.not_lt.2 short),
    State.slotOfCarrier_none fresh, State.freeSlot_first free before, if_neg (Nat.not_le.2 room)]

end

variable {hd : FrameHead} {slot cls speed : Byte}

/-- From an enrolled node a REQUEST_PASSAGE does the work of its master's slot. -/
theorem exec_requestPassage (enrolled : s.enrolledSlot hd.src = some m) :
    exec (.requestPassage hd carrier route cls speed length) s =
      onFrame (.requestPassage hd carrier route cls speed length) s fun u =>
        u.request m carrier route cls speed length := by
  have enrolled' : ∀ f, (s.readFrame f).enrolledSlot hd.src = some m := fun _ => enrolled
  simp only [exec, execRequestPassage, onFrame, enrolled']

theorem exec_withdraw : exec (.withdraw hd slot carrier) s =
    onFrame (.withdraw hd slot carrier) s fun u => u.withdraw hd.src slot carrier := rfl

/-- A REQUEST_PASSAGE that fails a check is answered with that check's verdict, and changes nothing (R27). -/
theorem State.Takes.request_refused {v : Verdict} (h : s.Takes (.requestPassage hd carrier route cls speed length))
    (enrolled : s.enrolledSlot hd.src = some m) (fails : s.checkRequest m carrier route length = .error v) :
    ∃ t, exec (.requestPassage hd carrier route cls speed length) s = .next t ∧ t.Answers v ∧ SameButTail s t := by
  refine h.answers (exec_requestPassage enrolled) fun f => ?_
  have fails' : (s.readFrame f).checkRequest m carrier route length = .error v := fails
  simp only [State.request, fails']

end

/-- Settles O22: each check is reached only when the ones before it pass. -/
theorem requestChecksInOrder : Obligations.RequestChecksInOrder := by
  intro hd carrier route cls speed length m s taken enrolled names
  refine ⟨fun noRoute => taken.request_refused enrolled (State.checkRequest_noRoute noRoute), fun r known used =>
    ⟨fun long => taken.request_refused enrolled (State.checkRequest_tooLong known used long), fun short =>
      ⟨fun p q hq master same => ?_, fun fresh => ⟨fun full => ?_, fun p free full => ?_⟩⟩⟩⟩
  · exact taken.request_refused enrolled (State.checkRequest_duplicate known used short names hq master same)
  · exact taken.request_refused enrolled (State.checkRequest_poolFull known used short fresh full)
  · exact taken.request_refused enrolled (State.checkRequest_queueFull known used short fresh free full)

/-! ### The checks of WITHDRAW -/

section
variable {s : State} {slot : Byte} {carrier : CarrierId} {p : Slot} {q : Passage}

theorem State.named_some (hp : slot.toNat = p.val) (hq : s.passage p = some q) (same : q.carrier = carrier) :
    s.named slot carrier = some (p, q) := by
  simp [State.named, slotOf, indexOf_val hp, hq, same]

theorem State.named_none (h : 23 < slot.toNat ∨
      ∃ p : Slot, slot.toNat = p.val ∧ ∀ q, s.passage p = some q → q.carrier ≠ carrier) :
    s.named slot carrier = none := by
  rcases h with high | ⟨p, hp, other⟩
  · rw [State.named, slotOf, indexOf_eq_none high]
  · rw [State.named, slotOf, indexOf_val hp]
    cases hq : s.passage p with
    | none => simp [hq]
    | some q => simp [hq, other q hq]

/-- WITHDRAW is taken from every enrolled node in the operating modes, and from no node in the others (R31). -/
theorem State.judge_withdraw {src : Node} :
    (s.control.mode.operating = false → s.judge .withdraw src = .refuse (.refusedMode s.control.mode)) ∧
    (s.control.mode.operating = true → s.enrolledSlot src = none → s.judge .withdraw src = .noTail) ∧
    ∀ m, s.control.mode.operating = true → s.enrolledSlot src = some m → s.judge .withdraw src = .take := by
  refine ⟨fun closed => ?_, fun op stranger => ?_, fun m op enrolled => ?_⟩
  · simp [State.judge, closed, Kind.takenIn]
  · simp [State.judge, op, stranger, Kind.anyNode]
  · simp [State.judge, op, enrolled, Kind.takenIn, Kind.safetyOnly]

end

/-- Settles O24: the Decoder's judgement of WITHDRAW, and its owner's checks. -/
theorem withdrawChecks : Obligations.WithdrawChecks := by
  intro hd slot carrier s heard
  obtain ⟨f, hf, hears⟩ := heard
  have kind : f.kind = .withdraw ∧ f.head.src = hd.src := by cases hf; exact ⟨rfl, rfl⟩
  obtain ⟨kind, src⟩ := kind
  obtain ⟨closed, stranger, enrolled⟩ := State.judge_withdraw (s := s) (src := hd.src)
  rw [← kind, ← src] at closed stranger enrolled
  have open' : s.control.mode = .settling ∨ s.control.mode = .running ∨ s.control.mode = .draining ∨
      s.control.mode = .halted → s.control.mode.operating = true := fun h => by
    rcases h with h | h | h | h <;> rw [h] <;> rfl
  refine ⟨fun h => ?_, fun h none => ?_, fun h m member => ?_⟩
  · exact ⟨_, exec_refuse hf hears (closed (Mode.closed_iff.1 h)), (s.sameButTail_answer f _).2,
      (s.sameButTail_answer f _).1⟩
  · exact ⟨_, exec_noTail hf hears (stranger (open' h) (src ▸ none)), rfl, rfl⟩
  · have taken : s.Takes (.withdraw hd slot carrier) := ⟨f, hf, hears, enrolled m (open' h) (src ▸ member)⟩
    refine ⟨taken, fun absent => taken.answers exec_withdraw fun g => ?_, fun p q hp hq same => ?_⟩
    · have none : (s.readFrame g).named slot carrier = none := State.named_none absent
      simp only [State.withdraw, none]
    · have found : ∀ g, (s.readFrame g).named slot carrier = some (p, q) := fun g => State.named_some hp hq same
      have enrolled' : ∀ g, (s.readFrame g).enrolledSlot hd.src = some m := fun _ => member
      refine ⟨fun other => taken.answers exec_withdraw fun g => ?_, fun owner late => taken.answers exec_withdraw fun g => ?_⟩
      · have notOwner : ¬ some m = some q.master := fun e => other (Option.some.inj e).symm
        simp only [State.withdraw, found g, enrolled' g, ne_eq, notOwner, not_false_eq_true, if_true]
      · simp only [State.withdraw, found g, enrolled' g, owner, ne_eq, not_true_eq_false, if_false, late, if_true]

end Sys2Proof.Machine

namespace Sys2Proof.Machine

/-! ### Postings -/

/-- The line state, the receive side and the tail are set; a posting reads and writes none of them. -/
def State.withLine (s : State) (line : LineState) (rx : Option Receive) (tail : Option Tail) : State :=
  s.setLiu { s.liu with line := line, rx := rx, tail := tail }

section
variable (s : State) (line : LineState) (rx : Option Receive) (tail : Option Tail) (k : MasterSlot) (n : Notice)

theorem State.select_withLine : (s.withLine line rx tail).select = s.select.withLine line rx tail := by
  have same : (s.withLine line rx tail).selected = s.selected := rfl
  have shifter : (s.withLine line rx tail).liu.shifter = s.liu.shifter := rfl
  have staged : (s.withLine line rx tail).liu.staged = s.liu.staged := rfl
  unfold State.select
  rw [same, shifter, staged]
  split <;> rfl

theorem State.promote_withLine : (s.withLine line rx tail).promote = s.promote.withLine line rx tail := by
  have shifter : (s.withLine line rx tail).liu.shifter = s.liu.shifter := rfl
  have staged : (s.withLine line rx tail).liu.staged = s.liu.staged := rfl
  unfold State.promote
  rw [shifter, staged]
  split <;> rfl

theorem State.refill_withLine : (s.withLine line rx tail).refill = s.refill.withLine line rx tail := by
  simp only [State.refill, State.promote_withLine, State.select_withLine]

theorem State.markLate_withLine : (s.withLine line rx tail).markLate k = (s.markLate k).withLine line rx tail := by
  have same : (s.withLine line rx tail).shifterSlot = s.shifterSlot := rfl
  unfold State.markLate
  rw [same]
  split <;> rfl

theorem State.unstage_withLine : (s.withLine line rx tail).unstage k = (s.unstage k).withLine line rx tail := by
  have same : (s.withLine line rx tail).shifterSlot = s.shifterSlot := rfl
  have staged : (s.withLine line rx tail).liu.staged = s.liu.staged := rfl
  unfold State.unstage
  rw [same, staged]
  split <;> rfl

theorem State.enqueue_withLine : (s.withLine line rx tail).enqueue k n = (s.enqueue k n).withLine line rx tail := by
  have same : ∀ (u : State) fifo, (u.withLine line rx tail).setFifo k fifo = (u.setFifo k fifo).withLine line rx tail :=
    fun _ _ => rfl
  cases used : s.map.enrolment[k].inUse with
  | false => rw [State.enqueue_of_unused used, State.enqueue_of_unused (s := s.withLine line rx tail) used]
  | true =>
    by_cases room : s.notices.fifos[k].queue.length < Config.fifoDepth
    · rw [State.enqueue_of_room used room, State.enqueue_of_room (s := s.withLine line rx tail) used room, same,
        State.refill_withLine]
      rfl
    · cases option : s.map.enrolment[k].option with
      | keepOldest =>
        rw [State.enqueue_of_keepOldest used room option,
          State.enqueue_of_keepOldest (s := s.withLine line rx tail) used room option, State.markLate_withLine, same]
        rfl
      | keepNewest =>
        rw [State.enqueue_of_keepNewest used room option,
          State.enqueue_of_keepNewest (s := s.withLine line rx tail) used room option, State.markLate_withLine, same,
          State.unstage_withLine, State.refill_withLine]
        rfl

theorem State.enqueueAll_withLine (l : List (MasterSlot × Notice)) :
    l.foldl (fun u x => u.enqueue x.1 x.2) (s.withLine line rx tail) =
      (l.foldl (fun u x => u.enqueue x.1 x.2) s).withLine line rx tail := by
  induction l generalizing s with
  | nil => rfl
  | cons x rest ih => rw [List.foldl_cons, List.foldl_cons, State.enqueue_withLine, ih]

end

/-- Work that posts this list in this order, and leaves the map and the LIU alone but for that. -/
def Posted (s t : State) (l : List (MasterSlot × Notice)) : Prop :=
  SameTx (l.foldl (fun u x => u.enqueue x.1 x.2) s) t

section
variable {s t u : State} {l m : List (MasterSlot × Notice)}

theorem SameTx.rfl {s : State} : SameTx s s := ⟨.refl _, .refl _, .refl _⟩

theorem SameTx.trans (h : SameTx s t) (k : SameTx t u) : SameTx s u :=
  ⟨k.1.trans h.1, k.2.1.trans h.2.1, k.2.2.trans h.2.2⟩

theorem SameTx.posted (h : SameTx s t) : Posted s t [] := h

theorem Posted.rfl {s : State} : Posted s s [] := SameTx.rfl

theorem Posted.trans (h : Posted s t l) (k : Posted t u m) : Posted s u (l ++ m) := by
  unfold Posted at *
  rw [List.foldl_append]
  exact (h.enqueueAll m).trans k

/-- Work that does not post, and then work that does. -/
theorem SameTx.andPosted (h : SameTx s t) (k : Posted t u l) : Posted s u l := h.posted.trans k

theorem Posted.thenSame (h : Posted s t l) (k : SameTx t u) : Posted s u l := SameTx.trans h k

theorem Posted.of_eq (h : Posted s t l) (e : l = m) : Posted s t m := e ▸ h

theorem State.postTo_posted (s : State) (ks : List MasterSlot) (n : Notice) :
    Posted s (s.postTo ks n) (ks.map fun k => (k, n)) := by
  unfold Posted
  rw [List.foldl_map]
  exact SameTx.rfl

theorem State.postSafety_posted (s : State) (n : Notice) : Posted s (s.postSafety n) (toSafety s n) :=
  s.postTo_posted _ n

/-- The MODE notice that a state posts is the one that names a state with its mode, causes and pool. -/
theorem State.note_modeNotice {w : State} (floor : s.timer.floor = w.timer.floor) (control : t.control = s.control)
    (pool : t.book.pool = s.book.pool) :
    s.note (.mode s.control.mode s.drained s.control.causes) none = modeNotice w t := by
  have drained : t.drained = s.drained := by rw [State.drained, State.drained, control, State.liveCount_congr pool]
  rw [modeNotice, control, drained, ← floor]
  simp [State.note]

theorem State.postMode_posted {w : State} (floor : s.timer.floor = w.timer.floor) (control : t.control = s.control)
    (pool : t.book.pool = s.book.pool) : Posted s s.postMode (toAll (modeNotice w t)) := by
  rw [← State.note_modeNotice floor control pool]
  exact s.postTo_posted _ _

theorem Posted.map (h : Posted s t l) : t.map = s.map := by
  obtain ⟨-, -, map⟩ := h
  rw [map]
  exact (keepsBook_foldl (fun s x => s.enqueue_keepsBook x.1 x.2) l s).1.map

/-- What is posted behind a frame that has been read is posted as if it had not been. -/
theorem Posted.posts {f : Frame} (h : Posted (s.readFrame f) t l) : Posts s t l := by
  obtain ⟨liu, notices, -⟩ := h
  rw [show s.readFrame f = s.withLine .busy (some (.closing (f.bytes s.liu.own) [])) none from .refl _,
    State.enqueueAll_withLine] at liu notices
  exact ⟨⟨notices, by rw [liu]; rfl, by rw [liu]; rfl⟩, by rw [liu]; rfl⟩

theorem Posted.posts_of_same (h : Posted s t l) : Posts s t l := by
  obtain ⟨liu, notices, -⟩ := h
  exact ⟨⟨notices, by rw [liu], by rw [liu]⟩, by rw [liu]⟩

theorem Posts.giveTail (h : Posts s t l) (v : Verdict) : Posts s (t.giveTail v) l := h

/-- A loop over different things posts what each of them posts, in turn, if none of them changes what the others post. -/
theorem posted_foldl {α : Type} {f : State → α → State} {notes : State → α → List (MasterSlot × Notice)}
    {inv : State → Prop} (keeps : ∀ s x, inv s → inv (f s x)) (each : ∀ s x, inv s → Posted s (f s x) (notes s x))
    (apart : ∀ s x y, inv s → x ≠ y → notes (f s x) y = notes s y) {l : List α} (nodup : l.Nodup) {s : State}
    (hs : inv s) : Posted s (l.foldl f s) (l.flatMap (notes s)) := by
  induction l generalizing s with
  | nil => exact Posted.rfl
  | cons x rest ih =>
    obtain ⟨new, nodup⟩ := List.nodup_cons.1 nodup
    have others : rest.flatMap (notes (f s x)) = rest.flatMap (notes s) :=
      List.flatMap_congr fun y hy => apart s x y hs fun e => new (e ▸ hy)
    rw [List.foldl_cons, List.flatMap_cons, ← others]
    exact (each s x hs).trans (ih nodup (keeps s x hs))

end

end Sys2Proof.Machine

namespace Sys2Proof.Machine

/-! ### LOCK_CELLS and UNLOCK_CELLS -/

section
variable {s t u : State}

/-- Work that keeps everything outside the book, the marks, the latches and the notices. -/
theorem Keeps.sameOutside (h : Keeps s t) : SameOutside s t := by
  refine ⟨h.power, h.map, h.timer, h.2.2.1, h.control, h.decoder, h.pending, ?_, ?_, ?_⟩
  · exact congrArg OuterLiu.error h.liu
  · exact congrArg OuterLiu.own h.liu
  · exact congrArg OuterLiu.pulse h.liu

theorem Keeps.sameLine (h : Keeps s t) : SameLine s t :=
  ⟨congrArg OuterLiu.line h.liu, congrArg OuterLiu.rx h.liu, congrArg OuterLiu.tail h.liu⟩

/-- What has happened behind a frame that was read is the same outside as from the state before it. -/
theorem SameOutside.of_readFrame {f : Frame} (h : SameOutside (s.readFrame f) t) : SameOutside s t := h

theorem SameOutside.giveTail (h : SameOutside s t) (v : Verdict) : SameOutside s (t.giveTail v) := h

/-- A loop whose step writes one cell record, and posts. -/
theorem keepsBook_updateCells {f : CellRec → CellRec} {g : State → CellId → State}
    (h : ∀ s c, KeepsBook (s.setCell c (f (s.cell c))) (g s c)) (l : List CellId) (s : State) :
    KeepsBook (s.updateCells f l) (l.foldl g s) := by
  induction l generalizing s with
  | nil => exact .rfl
  | cons c rest ih => exact ((h s c).updateCells f rest).trans (ih _)

theorem flatMap_filter {α β : Type} (l : List α) (p : α → Bool) (g : α → List β) :
    (l.filter p).flatMap g = l.flatMap fun x => if p x = true then g x else [] := by
  induction l with
  | nil => rfl
  | cons x rest ih =>
    rw [List.filter_cons]
    split <;> simp_all

variable {set : BitVec 32}

theorem mem_cellsIn {c : CellId} : c ∈ cellsIn set ↔ set.getLsbD c.val = true := by simp [cellsIn]

theorem nodup_cellsIn (set : BitVec 32) : (cellsIn set).Nodup := (List.nodup_finRange 32).filter _

/-! #### The checks -/

theorem State.badSet_empty (s : State) : s.badSet 0 = some (.badValue 1 none) := by simp [State.badSet, badField]

theorem State.badSet_none (full : set ≠ 0)
    (used : ∀ c : CellId, set.getLsbD c.val = true → s.map.working.cells[c].inUse = true) : s.badSet set = none := by
  rw [State.badSet, if_neg full, Option.map_eq_none_iff, List.find?_eq_none]
  intro c hc
  have := used c (mem_cellsIn.1 hc)
  simpa [State.cellInUse] using this

theorem State.badSet_lowest {c : CellId} (member : set.getLsbD c.val = true)
    (unused : s.map.working.cells[c].inUse = false)
    (before : ∀ d : CellId, d < c → set.getLsbD d.val = true → s.map.working.cells[d].inUse = true) :
    s.badSet set = some (.badValue 1 (some c)) := by
  have full : set ≠ 0 := fun e => by simp [e] at member
  have lowest : (cellsIn set).find? (fun d => !s.cellInUse d) = some c := by
    rw [cellsIn, List.find?_filter]
    refine find?_eq_of_first ?_ fun d hd => ?_
    · exact decide_eq_true ⟨member, by rw [State.cellInUse, unused]; rfl⟩
    · cases inSet : set.getLsbD d.val
      · simp
      · have := before d hd inSet
        simp only [State.cellInUse, this, Bool.not_true, Bool.false_eq_true, and_false, decide_false]
  rw [State.badSet, if_neg full, lowest, Option.map_some]

variable {hd : FrameHead}

theorem exec_lockCells : exec (.lockCells hd set) s = onFrame (.lockCells hd set) s fun u => u.lockCells set := rfl

theorem exec_unlockCells : exec (.unlockCells hd set) s = onFrame (.unlockCells hd set) s fun u => u.unlockCells set :=
  rfl

theorem State.Takes.lockCells_refused {v : Verdict} (h : s.Takes (.lockCells hd set)) (bad : s.badSet set = some v) :
    ∃ t, exec (.lockCells hd set) s = .next t ∧ t.Answers v ∧ SameButTail s t := by
  refine h.answers exec_lockCells fun f => ?_
  have bad' : (s.readFrame f).badSet set = some v := bad
  simp only [State.lockCells, bad']

theorem State.Takes.unlockCells_refused {v : Verdict} (h : s.Takes (.unlockCells hd set))
    (bad : s.badSet set = some v) :
    ∃ t, exec (.unlockCells hd set) s = .next t ∧ t.Answers v ∧ SameButTail s t := by
  refine h.answers exec_unlockCells fun f => ?_
  have bad' : (s.readFrame f).badSet set = some v := bad
  simp only [State.unlockCells, bad']

/-! #### Locking -/

/-- A cell's record after LOCK_CELLS (R34). -/
def CellRec.lockNow (r : CellRec) : CellRec :=
  { r with lock := if r.lock = .none then (if r.holder = none then .locked else .pending) else r.lock }

theorem CellRec.lockNow_lockNow (r : CellRec) : r.lockNow.lockNow = r.lockNow := by
  unfold CellRec.lockNow
  by_cases unlocked : r.lock = .none <;> by_cases free : r.holder = none <;> simp [unlocked, free]

/-- What LOCK_CELLS posts for one cell (R34). -/
def lockNotes (s : State) (c : CellId) : List (MasterSlot × Notice) :=
  if (s.cell c).lock = .none ∧ (s.cell c).holder = none then toSafety s (lockedNotice s c) else []

/-- One cell of LOCK_CELLS: its record is written, and its notice is posted. -/
theorem State.lockCell_does (s : State) (c : CellId) :
    KeepsBook (s.setCell c (s.cell c).lockNow) (s.lockCell c) ∧ Posted s (s.lockCell c) (lockNotes s c) := by
  unfold State.lockCell lockNotes CellRec.lockNow
  dsimp only
  by_cases unlocked : (s.cell c).lock = .none
  · rw [if_neg (not_not.2 unlocked), if_pos unlocked]
    by_cases free : (s.cell c).holder = none
    · have both : (s.cell c).lock = .none ∧ (s.cell c).holder = none := ⟨unlocked, free⟩
      have unheld : ¬ (s.cell c).holder.isSome = true := Option.not_isSome_iff_eq_none.2 free
      rw [if_pos free, if_pos both, if_neg unheld]
      have posted := State.postSafety_posted (s.setCell c { s.cell c with lock := .locked }) (lockedNotice s c)
      have clean : SameTx s (s.setCell c { s.cell c with lock := .locked }) := ⟨rfl, rfl, rfl⟩
      exact ⟨State.postSafety_keepsBook _ _, clean.andPosted posted⟩
    · have both : ¬ ((s.cell c).lock = .none ∧ (s.cell c).holder = none) := fun h => free h.2
      have held : (s.cell c).holder.isSome = true := Option.isSome_iff_ne_none.2 free
      rw [if_neg free, if_neg both, if_pos held]
      exact ⟨.rfl, SameTx.posted ⟨rfl, rfl, rfl⟩⟩
  · have both : ¬ ((s.cell c).lock = .none ∧ (s.cell c).holder = none) := fun h => unlocked h.1
    rw [if_pos unlocked, if_neg unlocked, if_neg both, State.setCell_self]
    exact ⟨.rfl, .rfl⟩

/-- The locking of one cell is not seen in what another posts. -/
theorem lockNotes_lockCell (s : State) {c d : CellId} (h : c ≠ d) : lockNotes (s.lockCell c) d = lockNotes s d := by
  obtain ⟨keeps, -⟩ := s.lockCell_does c
  have cell : (s.lockCell c).cell d = s.cell d := by rw [keeps.cell, State.cell_setCell, if_neg h]
  have map : (s.lockCell c).map = s.map := keeps.1.map
  have timer : (s.lockCell c).timer = s.timer := keeps.1.timer
  rw [lockNotes, lockNotes, cell, toSafety, toSafety, State.safetySlot, State.safetySlot, map, lockedNotice, lockedNotice,
    timer]

theorem State.lockAll_posted (s : State) (set : BitVec 32) :
    Posted s ((cellsIn set).foldl State.lockCell s) ((cellsIn set).flatMap (lockNotes s)) :=
  posted_foldl (inv := fun _ => True) (fun _ _ _ => trivial) (fun s c _ => (s.lockCell_does c).2)
    (fun s _ _ _ h => lockNotes_lockCell s h) (nodup_cellsIn set) trivial

theorem State.lockAll_keepsBook (s : State) (set : BitVec 32) :
    KeepsBook (s.updateCells CellRec.lockNow (cellsIn set)) ((cellsIn set).foldl State.lockCell s) :=
  keepsBook_updateCells (fun s c => (s.lockCell_does c).1) _ s

theorem State.lockCells_of_good (good : s.badSet set = none) :
    s.lockCells set = ((cellsIn set).foldl State.lockCell s,
      .done (.lockCells (((cellsIn set).foldl State.lockCell s).countLocks set .locked)
        (((cellsIn set).foldl State.lockCell s).countLocks set .pending))) := by
  rw [State.lockCells, good]

/-- The record of a cell after the locking. -/
theorem State.cell_lockAll (s : State) (set : BitVec 32) (c : CellId) :
    ((cellsIn set).foldl State.lockCell s).cell c =
      { s.cell c with
        lock := if set.getLsbD c.val = true ∧ (s.cell c).lock = .none then
            (if (s.cell c).holder = none then .locked else .pending)
          else (s.cell c).lock } := by
  rw [(s.lockAll_keepsBook set).cell, State.cell_updateCells _ CellRec.lockNow_lockNow]
  by_cases member : set.getLsbD c.val = true
  · rw [if_pos (mem_cellsIn.2 member)]
    simp only [member, true_and]
    rfl
  · rw [if_neg fun h => member (mem_cellsIn.1 h), if_neg fun h => member h.1]

theorem State.countLocks_eq (s : State) (set : BitVec 32) (lock : Lock) :
    s.countLocks set lock =
      ((List.finRange 32).filter fun c => set.getLsbD c.val && decide ((s.cell c).lock = lock)).length := by
  rw [State.countLocks, cellsIn, List.filter_filter]
  simp only [Bool.and_comm]

end

/-- Settles O26: LOCK_CELLS goes through the set cell by cell, and what it does to one cell another does not see. -/
theorem lockCells : Obligations.LockCells := by
  intro hd set s taken
  refine ⟨fun empty => ?_, fun c member unused before => ?_, fun full used => ?_⟩
  · subst empty
    exact taken.lockCells_refused s.badSet_empty
  · exact taken.lockCells_refused (State.badSet_lowest member unused before)
  · obtain ⟨f, -, done⟩ := taken.exec_eq exec_lockCells
    have good : (s.readFrame f).badSet set = none := State.badSet_none full used
    rw [State.lockCells_of_good good] at done
    obtain ⟨keeps, book, marks, signals⟩ := (s.readFrame f).lockAll_keepsBook set
    have posted := ((s.readFrame f).lockAll_posted set).posts
    have notes : (cellsIn set).flatMap (lockNotes (s.readFrame f)) =
        ((List.finRange 32).filter fun c => set.getLsbD c.val && decide ((s.cell c).lock = .none) &&
          decide ((s.cell c).holder = none)).flatMap fun c => toSafety s (lockedNotice s c) := by
      rw [cellsIn, flatMap_filter, flatMap_filter]
      refine List.flatMap_congr fun c _ => ?_
      cases set.getLsbD c.val
      · simp
      · simp only [lockNotes, if_true, Bool.true_and, Bool.and_eq_true, decide_eq_true_eq]
        rfl
    rw [notes] at posted
    have outside : SameOutside s ((cellsIn set).foldl State.lockCell (s.readFrame f)) :=
      (((s.readFrame f).updateCells_keeps _ _).trans keeps).sameOutside
    refine ⟨_, done, outside, ?_, ?_, ?_, ?_, ?_, fun c => ?_, posted, ?_⟩
    · exact (congrArg Book.pool book).trans (State.updateCells_pool _ _ _)
    · exact (congrArg Book.arrivals book).trans (State.updateCells_arrivals _ _ _)
    · exact (congrArg Book.queues book).trans (State.updateCells_queues _ _ _)
    · exact marks.trans (State.updateCells_marks _ _ _)
    · exact signals.trans (State.updateCells_signals _ _ _)
    · exact (s.readFrame f).cell_lockAll set c
    · rw [State.countLocks_eq, State.countLocks_eq]
      rfl

/-! #### Unlocking -/

section
variable {s : State} {set : BitVec 32}

/-- A cell's record with its lock gone (R35). -/
def CellRec.unlocked (r : CellRec) : CellRec := { r with lock := .none }

theorem State.unlockAll_eq (s : State) (set : BitVec 32) :
    (cellsIn set).foldl State.unlockCell s = s.updateCells CellRec.unlocked (cellsIn set) := rfl

theorem State.cell_unlockAll (s : State) (set : BitVec 32) (c : CellId) :
    (s.updateCells CellRec.unlocked (cellsIn set)).cell c =
      { s.cell c with lock := if set.getLsbD c.val = true then .none else (s.cell c).lock } := by
  rw [State.cell_updateCells _ (f := CellRec.unlocked) fun _ => rfl]
  by_cases member : set.getLsbD c.val = true
  · rw [if_pos (mem_cellsIn.2 member), if_pos member]
    rfl
  · rw [if_neg fun h => member (mem_cellsIn.1 h), if_neg member]

theorem State.unlockCells_of_good (good : s.badSet set = none) :
    s.unlockCells set =
      (if 0 < s.unlockCount set then (s.updateCells CellRec.unlocked (cellsIn set)).grantPass none
        else s.updateCells CellRec.unlocked (cellsIn set), .done (.unlockCells (s.unlockCount set))) := by
  rw [State.unlockCells, good, ← State.unlockAll_eq]

theorem State.unlockCount_eq (s : State) (set : BitVec 32) :
    s.unlockCount set =
      ((List.finRange 32).filter fun c => set.getLsbD c.val && decide ((s.cell c).lock ≠ .none)).length := by
  rw [State.unlockCount, cellsIn, List.filter_filter]
  simp only [Bool.and_comm]

/-- Outside RUNNING a pass does nothing (R42). -/
theorem State.grantPass_of_notRunning (h : s.control.mode ≠ .running) (quiet : Option Slot) :
    s.grantPass quiet = s := by
  simp [State.grantPass, h]

end

/-- Settles O27: UNLOCK_CELLS writes one field of the records of its set, and a pass follows a change. -/
theorem unlockCells : Obligations.UnlockCells := by
  intro hd set s taken
  refine ⟨fun empty => ?_, fun c member unused before => ?_, fun full used => ?_⟩
  · subst empty
    exact taken.unlockCells_refused s.badSet_empty
  · exact taken.unlockCells_refused (State.badSet_lowest member unused before)
  · obtain ⟨f, -, done⟩ := taken.exec_eq exec_unlockCells
    have good : (s.readFrame f).badSet set = none := State.badSet_none full used
    have count : (s.readFrame f).unlockCount set =
        ((List.finRange 32).filter fun c => set.getLsbD c.val && decide ((s.cell c).lock ≠ .none)).length :=
      (s.readFrame f).unlockCount_eq set
    rw [State.unlockCells_of_good good, count] at done
    obtain ⟨liu, notices, -⟩ := (s.readFrame f).updateCells_sameTx CellRec.unlocked (cellsIn set)
    have outside := ((s.readFrame f).updateCells_keeps CellRec.unlocked (cellsIn set)).sameOutside
    refine ⟨(s.readFrame f).updateCells CellRec.unlocked (cellsIn set), _, done, outside, ⟨notices, ?_, ?_⟩, ?_,
      State.answers_giveTail _ _, State.updateCells_pool _ _ _, State.updateCells_arrivals _ _ _,
      State.updateCells_queues _ _ _, State.updateCells_marks _ _ _, State.updateCells_signals _ _ _,
      (s.readFrame f).cell_unlockAll set, fun quiet => ?_, fun changed => ?_⟩
    · rw [liu]; rfl
    · rw [liu]; rfl
    · rw [liu]; rfl
    · dsimp only
      split
      · rename_i some
        have notRunning := quiet.resolve_left (List.length_pos_iff.1 some)
        rw [State.grantPass_of_notRunning (by rw [(State.updateCells_keeps _ _ _).control]; exact notRunning)]
        exact State.sameButTail_giveTail _ _
      · exact State.sameButTail_giveTail _ _
    · dsimp only
      rw [if_pos (List.length_pos_iff.2 changed)]
      exact State.sameButTail_giveTail _ _

end Sys2Proof.Machine

namespace Sys2Proof.Machine

/-! ### The snapshot -/

section
variable {s : State}

/-! #### The attention index -/

theorem Vector.toList_any_iff {n : Nat} {α : Type} {v : Vector α n} {f : α → Bool} :
    v.toList.any f = true ↔ ∃ i : Fin n, f v[i] = true := by
  rw [List.any_eq_true]
  constructor
  · rintro ⟨x, hx, fx⟩
    obtain ⟨i, hi, rfl⟩ := Vector.mem_iff_getElem.1 (Vector.mem_toList_iff.1 hx)
    exact ⟨⟨i, hi⟩, fx⟩
  · rintro ⟨i, fi⟩
    exact ⟨_, Vector.mem_toList_iff.2 (Vector.getElem_mem i.isLt), fi⟩

/-- Filtering a vector counts the places it is filtered at. -/
theorem Vector.length_filter_toList {n : Nat} {α : Type} (v : Vector α n) (f : α → Bool) :
    (v.toList.filter f).length = ((List.finRange n).filter fun i => f v[i]).length := by
  have places : v.toList = (List.finRange n).map fun i => v[i] := by
    refine List.ext_getElem (by simp) fun i h _ => ?_
    simp
  rw [places, List.filter_map, List.length_map]
  rfl

theorem filter_ne_nil_iff {α : Type} {l : List α} {f : α → Bool} : l.filter f ≠ [] ↔ ∃ x ∈ l, f x = true := by
  simp [List.filter_eq_nil_iff]

theorem State.anyFault_iff : s.anyFault = true ↔ ∃ a, (s.signal a).fault = true := by
  rw [State.anyFault_eq, decide_eq_true_iff]

theorem State.slotsWhere_ne_nil {f : Passage → Bool} :
    s.slotsWhere f ≠ [] ↔ ∃ p q, s.passage p = some q ∧ f q = true := by
  rw [State.slotsWhere, filter_ne_nil_iff]
  simp only [List.mem_finRange, true_and, Option.any_eq_true]

theorem State.anyOverdue_iff {level : Overdue} :
    s.anyOverdue level = true ↔ ∃ p q, s.passage p = some q ∧ q.overdue = level := by
  rw [State.anyOverdue, decide_eq_true_iff, State.slotsWhere_ne_nil]
  simp only [decide_eq_true_eq]

theorem State.intrudedCount_pos : 0 < s.intrudedCount ↔ ∃ c, (s.cell c).intruded = true := by
  rw [State.intrudedCount, State.countCells, Vector.length_filter_toList, List.length_pos_iff, filter_ne_nil_iff]
  simp only [List.mem_finRange, true_and]
  rfl

theorem State.anyPending_iff :
    s.book.cells.toList.any (fun r => r.lock = .pending) = true ↔ ∃ c, (s.cell c).lock = .pending := by
  rw [Vector.toList_any_iff]
  simp only [decide_eq_true_eq]
  rfl

theorem State.anyLost_iff :
    s.notices.fifos.toList.any Fifo.lost = true ↔ ∃ k : MasterSlot, s.notices.fifos[k].lost = true :=
  Vector.toList_any_iff

/-- The ranking of R163, from the highest condition down. -/
theorem State.attention_ranks (s : State) :
    let is := fun a : Attention => s.attention = a
    let some' := fun f : Passage → Prop => ∃ p q, s.passage p = some q ∧ f q
    (s.liu.line = .stuck → is .lineStuck) ∧ (s.liu.line ≠ .stuck →
    ((∃ a, (s.signal a).fault = true) → is .signalFault) ∧ ((∀ a, (s.signal a).fault = false) →
    (s.control.emergency.asserted = true → is .estopActive) ∧ (s.control.emergency.asserted = false →
    (s.control.mode = .halted → is .halted) ∧ (s.control.mode ≠ .halted →
    (some' (fun q => q.overdue = .stalled) → is .stalled) ∧ (¬ some' (fun q => q.overdue = .stalled) →
    ((∃ c, (s.cell c).intruded = true) → is .intruded) ∧ ((∀ c, (s.cell c).intruded = false) →
    (some' (fun q => q.overdue = .overdue) → is .overdue) ∧ (¬ some' (fun q => q.overdue = .overdue) →
    (some' (fun q => q.state = .queued ∧ q.blocking = true) → is .blocking) ∧
    (¬ some' (fun q => q.state = .queued ∧ q.blocking = true) →
    ((∃ c, (s.cell c).lock = .pending) → is .lockPending) ∧ ((∀ c, (s.cell c).lock ≠ .pending) →
    ((∃ k : MasterSlot, s.notices.fifos[k].lost = true) → is .fifoLost) ∧
    ((∀ k : MasterSlot, s.notices.fifos[k].lost = false) →
    (s.liu.error.kind ≠ .none → is .lineError) ∧ (s.liu.error.kind = .none → is .none))))))))))) := by
  have blocking : s.slotsWhere (fun q => q.state = .queued && q.blocking) ≠ [] ↔
      ∃ p q, s.passage p = some q ∧ q.state = .queued ∧ q.blocking = true := by
    rw [State.slotsWhere_ne_nil]
    simp only [Bool.and_eq_true, decide_eq_true_eq]
  dsimp only
  refine ⟨fun stuck => by rw [State.attention, if_pos stuck], fun notStuck => ?_⟩
  rw [State.attention, if_neg notStuck]
  refine ⟨fun fault => by rw [if_pos (State.anyFault_iff.2 fault)], fun noFault => ?_⟩
  rw [if_neg fun h => by simpa [noFault] using State.anyFault_iff.1 h]
  refine ⟨fun stop => by rw [if_pos stop], fun noStop => ?_⟩
  rw [if_neg (by rw [noStop]; exact Bool.false_ne_true)]
  refine ⟨fun halted => by rw [if_pos halted], fun notHalted => ?_⟩
  rw [if_neg notHalted]
  refine ⟨fun stalled => by rw [if_pos (State.anyOverdue_iff.2 stalled)], fun noStalled => ?_⟩
  rw [if_neg fun h => noStalled (State.anyOverdue_iff.1 h)]
  refine ⟨fun intruded => by rw [if_pos (State.intrudedCount_pos.2 intruded)], fun noIntruded => ?_⟩
  rw [if_neg fun h => by simpa [noIntruded] using State.intrudedCount_pos.1 h]
  refine ⟨fun overdue => by rw [if_pos (State.anyOverdue_iff.2 overdue)], fun noOverdue => ?_⟩
  rw [if_neg fun h => noOverdue (State.anyOverdue_iff.1 h)]
  refine ⟨fun blocks => by rw [if_pos (blocking.2 blocks)], fun noBlock => ?_⟩
  rw [if_neg fun h => noBlock (blocking.1 h)]
  refine ⟨fun pending => by rw [if_pos (State.anyPending_iff.2 pending)], fun noPending => ?_⟩
  rw [if_neg fun h => by simpa [noPending] using State.anyPending_iff.1 h]
  refine ⟨fun lost => by rw [if_pos (State.anyLost_iff.2 lost)], fun noLost => ?_⟩
  rw [if_neg fun h => by
    obtain ⟨k, lost⟩ := State.anyLost_iff.1 h
    exact Bool.false_ne_true ((noLost k).symm.trans lost)]
  exact ⟨fun error => by rw [if_pos error], fun noError => by rw [if_neg (not_not.2 noError)]⟩

/-! #### Contents -/

theorem State.noticeCount_stranger {n : Node}
    (h : ∀ k : MasterSlot, s.map.enrolment[k].inUse = true → s.map.enrolment[k].node ≠ n) : s.noticeCount n = 0 := by
  have none : s.enrolledSlot n = none := by
    rw [State.enrolledSlot, List.find?_eq_none]
    intro k _
    have := h k
    simpa using this
  rw [State.noticeCount, none]

theorem State.noticeCount_enrolled {n : Node} {k : MasterSlot} (used : s.map.enrolment[k].inUse = true)
    (node : s.map.enrolment[k].node = n)
    (before : ∀ j : MasterSlot, j < k → s.map.enrolment[j].inUse = true → s.map.enrolment[j].node ≠ n) :
    s.noticeCount n = s.notices.fifos[k].queue.length := by
  have first : s.enrolledSlot n = some k :=
    find?_eq_of_first (Bool.and_eq_true_iff.2 ⟨used, decide_eq_true node⟩) fun j hj => by
      have := before j hj
      simpa using this
  rw [State.noticeCount, first]

/-! #### Bytes -/

theorem Mode.code_of_mem {m : Mode} {code : BitVec 3} (h : (m, code) ∈ [(Mode.unmapped, (0 : BitVec 3)), (.service, 1),
    (.settling, 2), (.running, 3), (.draining, 4), (.halted, 5)]) : m.code = code := by
  simp only [List.mem_cons, Prod.mk.injEq, List.not_mem_nil, or_false] at h
  rcases h with ⟨rfl, rfl⟩ | ⟨rfl, rfl⟩ | ⟨rfl, rfl⟩ | ⟨rfl, rfl⟩ | ⟨rfl, rfl⟩ | ⟨rfl, rfl⟩ <;> rfl

theorem PriorMode.code_of_mem {m : PriorMode} {code : BitVec 3} (h : (m, code) ∈ [(PriorMode.unmapped, (0 : BitVec 3)),
    (.settling, 2), (.running, 3), (.draining, 4)]) : m.toMode.code = code := by
  simp only [List.mem_cons, Prod.mk.injEq, List.not_mem_nil, or_false] at h
  rcases h with ⟨rfl, rfl⟩ | ⟨rfl, rfl⟩ | ⟨rfl, rfl⟩ | ⟨rfl, rfl⟩ <;> rfl

theorem Attention.code_of_mem {a : Attention} {code : BitVec 4} (h : (a, code) ∈ [(Attention.none, (0 : BitVec 4)),
    (.lineStuck, 1), (.signalFault, 2), (.estopActive, 3), (.halted, 4), (.stalled, 5), (.intruded, 6), (.overdue, 7),
    (.blocking, 8), (.lockPending, 9), (.fifoLost, 10), (.lineError, 11)]) : a.code = code := by
  simp only [List.mem_cons, Prod.mk.injEq, List.not_mem_nil, or_false] at h
  rcases h with ⟨rfl, rfl⟩ | ⟨rfl, rfl⟩ | ⟨rfl, rfl⟩ | ⟨rfl, rfl⟩ | ⟨rfl, rfl⟩ | ⟨rfl, rfl⟩ | ⟨rfl, rfl⟩ | ⟨rfl, rfl⟩ |
    ⟨rfl, rfl⟩ | ⟨rfl, rfl⟩ | ⟨rfl, rfl⟩ | ⟨rfl, rfl⟩ <;> rfl

/-- The prior mode and the four cause bits in one byte (R157). -/
theorem priorByte_eq (prior : BitVec 3) (c : HaltCauses) :
    prior ++ (0 : BitVec 1) ++ c.code =
      prior ++ (0 : BitVec 1) ++ BitVec.ofBool c.signalFault ++ BitVec.ofBool c.lineStuck ++ BitVec.ofBool c.estop ++
        BitVec.ofBool c.haltPulse := by
  rw [HaltCauses.code]
  generalize BitVec.ofBool c.signalFault = a
  generalize BitVec.ofBool c.lineStuck = b
  generalize BitVec.ofBool c.estop = d
  generalize BitVec.ofBool c.haltPulse = e
  generalize prior ++ (0 : BitVec 1) = high
  revert high a b d e
  decide

/-! #### The frames -/

/-- A frame that is heard is not read on a stuck line, so reading it leaves the snapshot as it was (R133). -/
theorem State.snapshot_readFrame {f : Frame} (hears : s.hearsFrame f = true) (n : Node) :
    (s.readFrame f).snapshot n = s.snapshot n := by
  obtain ⟨-, -, -, line⟩ := State.hears_cases hears
  have notStuck : s.liu.line ≠ .stuck := by
    rcases line with idle | ⟨busy, -⟩
    · rw [idle]; exact nofun
    · rw [busy]; exact nofun
  have attention : (s.readFrame f).attention = s.attention := by
    rw [State.attention, State.attention, if_neg notStuck, State.readFrame_liu_line, if_neg nofun]
    rfl
  rw [State.snapshot, State.snapshot, attention]
  rfl

variable {hd : FrameHead}

theorem exec_queryJunctionPart1 (hd : FrameHead) (part : Byte) : exec (.queryJunctionPart1 hd part) s =
    onFrame (.queryJunctionPart1 hd part) s fun u => u.junctionPart hd.src part := rfl

theorem exec_queryJunctionPart2 (hd : FrameHead) : exec (.queryJunctionPart2 hd) s =
    onFrame (.queryJunctionPart2 hd) s fun u => u.junctionPart2 hd.src := rfl

/-- Part 1 stores the snapshot in the latch of its source and answers its first half (R150). -/
theorem State.Takes.queryJunction (taken : s.Takes (.queryJunctionPart1 hd 1)) :
    ∃ f, exec (.queryJunctionPart1 hd 1) s =
      .next (((s.readFrame f).storeSnapshot hd.src (s.snapshot hd.src)).giveTail
        (.done (.junctionPart1 (s.snapshot hd.src)))) := by
  obtain ⟨f, hf, hears, judged⟩ := taken
  refine ⟨f, (exec_queryJunctionPart1 hd 1).trans ((onFrame_take hf hears judged).trans ?_)⟩
  rw [State.junctionPart, if_pos rfl, State.junctionPart1, State.snapshot_readFrame hears]

end

/-- Settles O19: the snapshot is built from the state field by field, and the attention index is a chain of the conditions
in their ranking. -/
theorem snapshotInTwoParts : Obligations.SnapshotInTwoParts := by
  refine ⟨fun n s => ?_, fun snap mode prior index hm hp hi => ?_, fun n s => s.attention_ranks, fun hd part s => ?_⟩
  · refine ⟨rfl, rfl, rfl, rfl, rfl, rfl, rfl, rfl, ?_, ?_, ?_, State.noticeCount_stranger, fun k used node before =>
      State.noticeCount_enrolled used node before⟩
    · refine (Vector.length_filter_toList _ _).trans (congrArg List.length (List.filter_congr fun c _ => ?_))
      exact Bool.eq_iff_iff.2 (Option.isSome_iff_ne_none.trans decide_eq_true_iff.symm)
    · exact Vector.length_filter_toList _ _
    · exact Vector.length_filter_toList _ _
  · rw [← Mode.code_of_mem hm, ← PriorMode.code_of_mem hp, ← Attention.code_of_mem hi, ← priorByte_eq]
    simp only [Verdict.bytes, Verdict.data, Verdict.code, DoneData.bytes, bytes16, byteOf, List.cons_append,
      List.nil_append, List.length_cons, List.length_nil]
    exact ⟨rfl, rfl⟩
  · refine ⟨fun taken i hi => ?_, fun taken last => ?_, fun taken i hi snap hs => ?_, fun taken none => ?_,
      fun taken one two => ?_⟩
    · obtain ⟨f, done⟩ := taken.queryJunction
      refine ⟨_, done, State.answers_giveTail _ _, ?_⟩
      rw [State.storeSnapshot, indexOf_val hi]
      rfl
    · obtain ⟨f, done⟩ := taken.queryJunction
      refine ⟨_, done, State.answers_giveTail _ _, ?_⟩
      rw [State.storeSnapshot, last, indexOf_eq_none (by decide)]
      rfl
    · refine taken.answers (exec_queryJunctionPart2 hd) fun f => ?_
      have latch : (s.readFrame f).latchOf hd.src = some snap := by
        rw [State.latchOf, indexOf_val hi]
        exact hs
      rw [State.junctionPart2, latch]
    · refine taken.answers (exec_queryJunctionPart2 hd) fun f => ?_
      have latch : (s.readFrame f).latchOf hd.src = .none := by
        by_cases inRange : hd.src.val < 15
        · rw [State.latchOf, indexOf_val (i := ⟨hd.src.val, inRange⟩) rfl]
          exact none ⟨hd.src.val, inRange⟩ rfl
        · rw [State.latchOf, indexOf_eq_none (Nat.not_lt.1 inRange)]
      rw [State.junctionPart2, latch]
    · refine taken.answers (exec_queryJunctionPart1 hd part) fun f => ?_
      rw [State.junctionPart, if_neg one, if_neg two]
      rfl

end Sys2Proof.Machine

namespace Sys2Proof.Machine

/-! ### What a grant pass leaves in the pool -/

section
variable {s u : State} {p : Slot} {q : Passage}

theorem State.reserveFor_pool (s : State) (p : Slot) : (s.reserveFor p).book.pool = s.book.pool := by
  unfold State.reserveFor
  split
  · rfl
  · dsimp only
    split
    · exact s.updateCells_pool (CellRec.reservedFor p) _
    · rfl

theorem State.sweep_passage (s : State) (p : Slot) : s.sweep.passage p = s.passage p := by
  have each : ∀ (l : List Slot) (u : State), (l.foldl State.reserveFor u).book.pool = u.book.pool := by
    intro l
    induction l with
    | nil => exact fun _ => rfl
    | cons x rest ih => exact fun u => (ih _).trans (u.reserveFor_pool x)
  exact State.passage_congr (each _ _) p

/-- Skip accounting writes the records of candidates alone (R49). -/
theorem State.account_passage (order : List Slot) {ordered : List Entrant} (granted : List Entrant)
    (h : ∀ x ∈ ordered, x.1 ≠ p) : (s.account order ordered granted).passage p = s.passage p := by
  unfold State.account
  induction ordered generalizing s with
  | nil => rfl
  | cons x rest ih =>
    rw [List.foldl_cons, ih fun y hy => h y (List.mem_cons_of_mem _ hy)]
    split
    · rw [State.modPassage, State.passage_setPassage, if_neg (h x (List.mem_cons_self ..))]
    · rfl

/-- Stage 3 writes the records of the candidates alone, where the lists are lawful. -/
theorem State.examine_passage {lawful : Prop} (law : lawful) {l : List Entrant} (ready : u.Ready lawful l)
    (h : ∀ x ∈ l, x.1 ≠ p) (quiet : Option Slot) : (u.examine quiet l).1.passage p = u.passage p := by
  have each : ∀ (l : List Entrant) (sg : State × List Entrant), sg.1.Ready lawful l → (∀ x ∈ l, x.1 ≠ p) →
      (l.foldl (State.examineOne quiet) sg).1.passage p = sg.1.passage p := by
    intro l
    induction l with
    | nil => exact fun _ _ _ => rfl
    | cons x rest ih =>
      intro sg ready h
      have others := fun y hy => h y (List.mem_cons_of_mem _ hy)
      rw [List.foldl_cons]
      by_cases el : sg.1.eligible x.1 x.2 = true
      · have one : State.examineOne quiet sg x = (sg.1.grant quiet x.1 x.2, sg.2 ++ [x]) := if_pos el
        obtain ⟨-, -, free⟩ := (ready.2 law).1 x (List.mem_cons_self ..)
        rw [one, ih _ (ready.grant quiet) others]
        exact State.grant_passage_of_ne free (h x (List.mem_cons_self ..)).symm quiet
      · have one : State.examineOne quiet sg x = sg := if_neg el
        rw [one, ih _ ready.tail others]
  exact each l (u, []) ready h

/-- A grant pass leaves a live passage as it is. -/
theorem State.grantPass_passage_live (law : s.Listed) (hq : s.passage p = some q) (live : q.live = true)
    (quiet : Option Slot) : (s.grantPass quiet).passage p = some q := by
  unfold State.grantPass
  split
  · obtain ⟨book, heads, -⟩ := s.candidates_heads
    have other : ∀ x ∈ grantOrder s.book.arrivals s.candidates.2, x.1 ≠ p := fun x hx e => by
      obtain ⟨a, head⟩ := heads x ((grantOrder_perm _ _).mem_iff.1 hx)
      obtain ⟨⟨hx, queued, -⟩, -⟩ := law.head_awaits head
      rw [e, hq, Option.some.injEq] at hx
      rw [Passage.live_eq_true_iff, hx] at live
      exact live queued
    rw [State.runPass, State.sweep_passage, State.account_passage _ _ other,
      State.examine_passage law (s.candidates_ready _) other, State.passage_congr (congrArg Book.pool book), hq]
  · exact hq

theorem State.grant_passage_isSome (quiet : Option Slot) (x : Slot) (r : Passage) (h : (u.passage p).isSome = true) :
    ((u.grant quiet x r).passage p).isSome = true := by
  obtain ⟨q, hq⟩ := Option.isSome_iff_exists.1 h
  have before : ∃ y, (u.grantedCore x r).passage p = some y := by
    rw [State.grantedCore_passage]
    split
    · exact ⟨_, rfl⟩
    · exact ⟨q, hq⟩
  obtain ⟨y, hy⟩ := before
  obtain ⟨z, hz, -⟩ := (u.grant_sameCore quiet x r).symm.passage_some hy
  rw [hz]; rfl

/-- A grant pass removes no passage. -/
theorem State.grantPass_passage_isSome (quiet : Option Slot) (h : (s.passage p).isSome = true) :
    ((s.grantPass quiet).passage p).isSome = true := by
  have examined : ∀ (l : List Entrant) (sg : State × List Entrant), (sg.1.passage p).isSome = true →
      ((l.foldl (State.examineOne quiet) sg).1.passage p).isSome = true := by
    intro l
    induction l with
    | nil => exact fun _ h => h
    | cons x rest ih =>
      intro sg h
      refine ih _ ?_
      unfold State.examineOne
      split
      · exact State.grant_passage_isSome quiet _ _ h
      · exact h
  have accounted : ∀ (order : List Slot) (ordered granted : List Entrant) (u : State), (u.passage p).isSome = true →
      ((u.account order ordered granted).passage p).isSome = true := by
    intro order ordered granted
    unfold State.account
    induction ordered with
    | nil => exact fun _ h => h
    | cons x rest ih =>
      intro u h
      refine ih _ ?_
      dsimp only
      split
      · rw [State.modPassage, State.passage_setPassage]
        split
        · rename_i e; rw [Option.isSome_map, e]; exact h
        · exact h
      · exact h
  unfold State.grantPass
  split
  · obtain ⟨book, -⟩ := s.candidates_heads
    rw [State.runPass, State.sweep_passage]
    refine accounted _ _ _ _ (examined _ (s.candidates.1, []) ?_)
    rw [State.passage_congr (congrArg Book.pool book)]
    exact h
  · exact h

end

theorem SameOutside.trans {s t u : State} (h : SameOutside s t) (k : SameOutside t u) : SameOutside s u := by
  obtain ⟨a, b, c, d, e, f, g, i, j, l⟩ := h
  obtain ⟨a', b', c', d', e', f', g', i', j', l'⟩ := k
  exact ⟨a'.trans a, b'.trans b, c'.trans c, d'.trans d, e'.trans e, f'.trans f, g'.trans g, i'.trans i, j'.trans j,
    l'.trans l⟩

/-! ### The admission -/

section
variable {s : State} {p : Slot} {q : Passage}

theorem State.admission_control (s : State) (p : Slot) (q : Passage) : (s.admission p q).control = s.control := rfl

theorem State.admission_passage (s : State) (p : Slot) (q : Passage) (x : Slot) :
    (s.admission p q).passage x = if p = x then some q else s.passage x := State.passage_setPassage s p x _

theorem State.admission_queue (s : State) (p : Slot) (q : Passage) (b : ApproachId) :
    (s.admission p q).queue b = if s.approachOf q = b then s.queue b ++ [p] else s.queue b := by
  refine (State.queue_setQueue _ _ b _).trans ?_
  split
  · rename_i e; rw [e]
  · rfl

/-- The verdict of an admission, formed from the book after its pass (R30). -/
theorem State.admissionVerdict_eq (hq : s.passage p = some q) :
    (q.state = .queued → s.admissionVerdict p = .queued p ((s.queue (s.approachOf q)).idxOf p + 1)) ∧
    (q.state ≠ .queued → ∀ w, q.deadline.run = some w → s.admissionVerdict p = .granted p w.window q.clamped) := by
  refine ⟨fun queued => ?_, fun notQueued w run => ?_⟩
  · rw [State.admissionVerdict, hq]
    exact if_pos queued
  · rw [State.admissionVerdict, hq]
    dsimp only
    rw [if_neg notQueued, run]
    rfl

end

/-- Settles O23: the admission writes one slot and the tails of two lists, and the pass after it does not remove it. -/
theorem requestAdmitted : Obligations.RequestAdmitted := by
  intro hd carrier route cls speed length m r p s taken enrolled known used short fresh free before law room
  dsimp only
  obtain ⟨f, -, done⟩ := taken.exec_eq (exec_requestPassage enrolled)
  have admits : (s.readFrame f).checkRequest m carrier route length = .ok (r, p) :=
    State.checkRequest_admits known used short fresh free before room
  have request : (s.readFrame f).request m carrier route cls speed length =
      ((((s.readFrame f).admission p (s.newPassage m carrier r cls speed length)).grantPass (some p)),
        (((s.readFrame f).admission p (s.newPassage m carrier r cls speed length)).grantPass
          (some p)).admissionVerdict p) := by
    rw [State.request, admits]
    rfl
  rw [request] at done
  obtain ⟨-, lists⟩ := State.listLaw_iff.1 law
  have unlisted : p ∉ s.queue s.map.working.routes[r].approach := fun mem => by
    obtain ⟨q, hq, -⟩ := lists.mem_queue.1 mem
    rw [free] at hq
    cases hq
  have pool := (s.readFrame f).admission_passage p (s.newPassage m carrier r cls speed length)
  have queue := (s.readFrame f).admission_queue p (s.newPassage m carrier r cls speed length)
  have outside : SameOutside s ((s.readFrame f).admission p (s.newPassage m carrier r cls speed length)) :=
    ⟨rfl, rfl, rfl, rfl, rfl, rfl, rfl, rfl, rfl, rfl⟩
  have admitted : ((s.readFrame f).admission p (s.newPassage m carrier r cls speed length)).passage p =
      some (s.newPassage m carrier r cls speed length) := by rw [pool, if_pos rfl]
  have approach : ((s.readFrame f).admission p (s.newPassage m carrier r cls speed length)).approachOf
      (s.newPassage m carrier r cls speed length) = s.map.working.routes[r].approach := rfl
  have joined : ((s.readFrame f).admission p (s.newPassage m carrier r cls speed length)).queue
      s.map.working.routes[r].approach = s.queue s.map.working.routes[r].approach ++ [p] :=
    (queue _).trans (if_pos rfl)
  refine ⟨_, _, _, done, State.answers_giveTail _ _, outside, ⟨rfl, rfl, rfl⟩, rfl, ?_, fun x hx => ?_, rfl, rfl, ?_,
    fun b hb => ?_, rfl, rfl, State.sameButTail_giveTail _ _, ?_, fun quiet => ?_, ?_⟩
  · rw [admitted, State.newPassage, clampPriority, clampSpeed]
    have length : max 50 length.toNat = if length.toNat < 50 then 50 else length.toNat := by split <;> omega
    have load : min 3 (loadOf cls) = if 3 < loadOf cls then 3 else loadOf cls := by split <;> omega
    rw [length, load]
    rfl
  · rw [pool, if_neg fun e => hx e.symm]; rfl
  · exact joined
  · rw [queue]; exact if_neg fun e => hb e.symm
  · exact (outside.trans (State.grantPass_keeps _ _).sameOutside).giveTail _
  · have same : ((s.readFrame f).admission p (s.newPassage m carrier r cls speed length)).grantPass (some p) =
        (s.readFrame f).admission p (s.newPassage m carrier r cls speed length) := by
      refine State.grantPass_of_notRunning ?_ _
      rw [State.admission_control]
      exact quiet
    rw [same]
    refine ⟨rfl, ?_⟩
    rw [(State.admissionVerdict_eq admitted).1 rfl]
    dsimp only
    rw [approach, joined, List.idxOf_append_of_notMem unlisted, List.idxOf_cons_self, Nat.add_zero]
  · have present := State.grantPass_passage_isSome (some p) (Option.isSome_iff_exists.2 ⟨_, admitted⟩)
    have passed := State.grantPass_tends
      ((s.readFrame f).admission p (s.newPassage m carrier r cls speed length)) (some p)
    revert present passed
    generalize ((s.readFrame f).admission p (s.newPassage m carrier r cls speed length)).grantPass (some p) = t
    intro present passed
    obtain ⟨q, hq⟩ := Option.isSome_iff_exists.1 present
    obtain ⟨queued, granted⟩ := State.admissionVerdict_eq hq
    refine ⟨q, hq, fun h => (queued h).trans ?_, granted⟩
    obtain ⟨x, hx, -, -, route⟩ := passed.names p q hq
    cases admitted.symm.trans hx
    have approach' : t.approachOf q = s.map.working.routes[r].approach :=
      State.approachOf_congr (s := s) (q := s.newPassage m carrier r cls speed length) passed.working route
    rw [approach']
    rfl

end Sys2Proof.Machine

namespace Sys2Proof.Machine

/-! ### What a removal leaves and posts -/

section
variable {s t u : State} {p : Slot} {q : Passage}

/-! #### Releases -/

theorem releaseNotices_congr {c : CellId} (cell : t.cell c = s.cell c) (map : t.map = s.map) (timer : t.timer = s.timer) :
    releaseNotices t p q c = releaseNotices s p q c := by
  rw [releaseNotices, releaseNotices, cell, toSafety, toSafety, toSafety, toSafety, State.safetySlot, State.safetySlot,
    map, lockedNotice, lockedNotice, passageNotice, passageNotice, timer]

/-- The release of one cell posts LOCKED and INTRUSION notices as R23 has it. -/
theorem State.release_posted (s : State) (p : Slot) (q : Passage) (c : CellId) :
    Posted s (s.release p q c) (releaseNotices s p q c) := by
  obtain ⟨u, hu⟩ : ∃ u, u = s.setCell c
      { s.cell c with holder := none, lock := if (s.cell c).lock = .pending then .locked else (s.cell c).lock } :=
    ⟨_, rfl⟩
  have clean : SameTx s u := by rw [hu]; exact ⟨rfl, rfl, rfl⟩
  have safety : ∀ n, toSafety u n = toSafety s n := fun n => by rw [hu]; rfl
  have locked : Posted s (if (s.cell c).lock = .pending then u.postSafety (u.note (.locked c) none) else u)
      (if (s.cell c).lock = .pending then toSafety s (lockedNotice s c) else []) := by
    split
    · have posted := u.postSafety_posted (u.note (.locked c) none)
      rw [safety, show u.note (.locked c) none = lockedNotice s c by rw [hu]; rfl] at posted
      rw [show u.note (.locked c) none = lockedNotice s c by rw [hu]; rfl]
      exact clean.andPosted posted
    · exact clean.posted
  unfold State.release
  dsimp only
  rw [← hu]
  have floor : (if (s.cell c).lock = .pending then u.postSafety (u.note (.locked c) none) else u).timer = s.timer ∧
      (if (s.cell c).lock = .pending then u.postSafety (u.note (.locked c) none) else u).map = s.map := by
    refine ⟨?_, locked.map⟩
    split
    · rw [(u.postSafety_keepsBook _).1.timer, hu]; rfl
    · rw [hu]; rfl
  revert locked floor
  generalize (if (s.cell c).lock = .pending then u.postSafety (u.note (.locked c) none) else u) = v
  rintro locked ⟨timer, map⟩
  refine Posted.trans locked ?_
  by_cases intrudes : (s.cell c).heard = .occupied ∧ (s.cell c).intruded = false
  · rw [if_pos intrudes, if_pos (by rw [intrudes.1, intrudes.2]; rfl)]
    have marked : SameTx v (v.setCell c { v.cell c with intruded := true }) := ⟨rfl, rfl, rfl⟩
    have posted := State.postSafety_posted (v.setCell c { v.cell c with intruded := true })
      (passageNotice s (.intrusion c .occupiedFree) p q)
    have safety' : ∀ n, toSafety (v.setCell c { v.cell c with intruded := true }) n = toSafety s n := fun n => by
      have same : (v.setCell c { v.cell c with intruded := true }).map = s.map := map
      rw [toSafety, toSafety, State.safetySlot, State.safetySlot, same]
    rw [safety'] at posted
    rw [timer]
    exact marked.andPosted posted
  · rw [if_neg intrudes, if_neg fun h => intrudes (by simpa using h)]
    exact Posted.rfl

/-- The releases of different cells post what each of them posts, in turn. -/
theorem State.releases_posted (s : State) (p : Slot) (q : Passage) {l : List CellId} (nodup : l.Nodup) :
    Posted s (l.foldl (fun s c => s.release p q c) s) (l.flatMap (releaseNotices s p q)) := by
  refine posted_foldl (inv := fun _ => True) (notes := fun s c => releaseNotices s p q c) (fun _ _ _ => trivial)
    (fun s c _ => s.release_posted p q c) (fun s c d _ apart => ?_) nodup trivial
  have keeps := s.release_keepsBook p q c
  exact releaseNotices_congr (by rw [keeps.cell, State.cell_setCell, if_neg apart]) keeps.1.map keeps.1.timer

/-! #### The passage gone -/

/-- A live passage has given its cells back and stopped its deadline. -/
def State.released (s : State) (p : Slot) (q : Passage) : State :=
  (s.releaseRun p q).modDeadline p fun d => { d with run := none }

/-- The slot is free, and nothing has been said to the owner yet (R24). -/
def State.vacated (s : State) (p : Slot) (q : Passage) : State :=
  (if q.live then
    if q.state = .granted then (s.released p q).setLatch ((s.released p q).approachOf q) .stop else s.released p q
  else s.unlisted p q).setPassage p none

/-- The notice to the owner ends a removal (R24). -/
theorem State.remove_vacated (hq : s.passage p = some q) (o : Outcome) :
    KeepsBook (s.vacated p q) (s.remove p o) ∧
      Posted (s.vacated p q) (s.remove p o)
        (o.body.toList.map fun body => (q.master, passageNotice (s.vacated p q) body p q)) := by
  unfold State.remove
  rw [hq]
  dsimp only
  change KeepsBook (s.vacated p q) (match o.body with
      | none => s.vacated p q
      | some body => (s.vacated p q).postOwner body p q) ∧ _
  cases o.body with
  | none => exact ⟨.rfl, .rfl⟩
  | some body => exact ⟨State.postOwner_keepsBook _ _ _ _, State.postTo_posted _ [q.master] _⟩

theorem State.released_cell (c : CellId) :
    (s.released p q).cell c = if c ∈ s.heldRun q then (s.cell c).freed else s.cell c := by
  have same : (s.released p q).cell c = (s.releaseRun p q).cell c := rfl
  rw [same, (s.releaseRun_keepsBook p q).cell, State.cell_updateCells _ CellRec.freed_freed]

theorem State.released_passage {x : Slot} (hx : x ≠ p) : (s.released p q).passage x = s.passage x := by
  rw [State.released, State.passage_modDeadline, if_neg fun e => hx e.symm, (s.releaseRun_keepsBook p q).passage,
    State.updateCells_passage]

theorem State.released_map : (s.released p q).map = s.map := (s.releaseRun_keeps p q).map

theorem State.released_lists : (s.released p q).book.arrivals = s.book.arrivals ∧
    (s.released p q).book.queues = s.book.queues ∧ (s.released p q).marks = s.marks ∧
    (s.released p q).signals = s.signals := by
  obtain ⟨-, book, marks, signals⟩ := s.releaseRun_keepsBook p q
  exact ⟨(congrArg Book.arrivals book).trans (s.updateCells_arrivals _ _),
    (congrArg Book.queues book).trans (s.updateCells_queues _ _), marks.trans (s.updateCells_marks _ _),
    signals.trans (s.updateCells_signals _ _)⟩

theorem State.released_approachOf (x : Passage) : (s.released p q).approachOf x = s.approachOf x :=
  State.approachOf_congr (congrArg MapStore.working State.released_map) rfl

/-- A live passage leaves: its cells are freed, and the latch of a GRANTED one goes to STOP. -/
theorem Removed.of_live {v : State} (live : q.live = true) (pool : ∀ x, x ≠ p → v.passage x = s.passage x)
    (lists : v.book.arrivals = s.book.arrivals ∧ v.book.queues = s.book.queues ∧ v.marks = s.marks)
    (cells : ∀ c, v.cell c = if c ∈ s.heldRun q then (s.cell c).freed else s.cell c)
    (granted : q.state = .granted → ∀ a, v.signal a =
      if a = s.approachOf q then (s.signal (s.approachOf q)).latched .stop else s.signal a)
    (others : q.state ≠ .granted → v.signals = s.signals) : Removed s (v.setPassage p none) p q := by
  obtain ⟨arrivals, queues, marks⟩ := lists
  refine ⟨by rw [State.passage_setPassage, if_pos rfl], fun x hx => ?_, fun a ha => ?_, fun _ =>
    ⟨arrivals, queues, marks, fun c hc => (cells c).trans (if_neg hc), fun c hc => (cells c).trans (if_pos hc)⟩,
    fun h => (granted h _).trans (if_pos rfl), others, fun h => ?_⟩
  · rw [State.passage_setPassage, if_neg fun e => hx e.symm, pool x hx]
  · by_cases h : q.state = .granted
    · exact (granted h a).trans (if_neg ha)
    · exact congrArg (fun v : Vector SignalRec 8 => v[a]) (others h)
  · rw [live] at h; cases h

theorem State.removed_vacated_live (hq : s.passage p = some q) (live : q.live = true) (single : s.SingleGrant) :
    Removed s (s.vacated p q) p q := by
  obtain ⟨arrivals, queues, marks, signals⟩ := State.released_lists (s := s) (p := p) (q := q)
  have cells := State.released_cell (s := s) (p := p) (q := q)
  have pool := fun x hx => State.released_passage (s := s) (p := p) (q := q) (x := x) hx
  have approach := State.released_approachOf (s := s) (p := p) (q := q)
  have signal : ∀ a, (s.released p q).signal a = s.signal a := fun a => by rw [State.signal, State.signal, signals]
  unfold State.vacated
  rw [if_pos live]
  generalize s.released p q = v at *
  by_cases granted : q.state = .granted
  · rw [if_pos granted, approach]
    obtain ⟨-, -, sameCells⟩ := v.setLatch_keepsCells (s.approachOf q) .stop
    have core := v.setLatch_sameCore (s.approachOf q) .stop
    refine .of_live live (fun x hx => ?_) ⟨core.arrivals.trans arrivals, core.queues.trans queues,
      (v.setLatch_marks _ _).trans marks⟩ (fun c => (State.cell_congr sameCells c).trans (cells c)) (fun _ a => ?_)
      fun h => absurd granted h
    · rw [State.setLatch_passage, pool x hx]
      rintro ⟨r, hr, grantedX, at_a⟩
      rw [pool x hx] at hr
      rw [approach] at at_a
      exact hx (single _ x p ⟨r, hr, grantedX, at_a⟩ ⟨q, hq, granted, rfl⟩)
    · rw [State.setLatch_signal, signal, signal]
  · rw [if_neg granted]
    exact .of_live live pool ⟨arrivals, queues, marks⟩ cells (fun h => absurd h granted) fun _ => signals

theorem State.clearReservations_same (s : State) (p : Slot) : (s.clearReservations p).marks = s.marks ∧
    (s.clearReservations p).signals = s.signals ∧ SameTx s (s.clearReservations p) := by
  simp [SameTx]

theorem State.marks_unlisted (a : ApproachId) :
    (s.unlisted p q).marks[a] = if a = s.approachOf q ∧ s.marks[a] = some p then none else s.marks[a] := by
  have same : (s.unlisted p q).marks = (s.leaveLists p (s.approachOf q)).marks := by
    rw [State.unlisted]
    split
    · exact (State.clearReservations_same _ p).1
    · rfl
  rw [same, State.marks_leaveLists]
  by_cases e : a = s.approachOf q
  · subst e; rfl
  · rw [if_neg fun h => e h.1, if_neg fun h => e h.1]

theorem State.signals_unlisted : (s.unlisted p q).signals = s.signals := by
  rw [State.unlisted]
  split
  · rw [(State.clearReservations_same _ p).2.1, State.leaveLists_signals]
  · rw [State.leaveLists_signals]

theorem State.removed_vacated_queued (queued : q.live = false) : Removed s (s.vacated p q) p q := by
  have state := Passage.live_eq_false_iff.1 queued
  unfold State.vacated
  rw [if_neg (by rw [queued]; exact Bool.false_ne_true)]
  refine ⟨by rw [State.passage_setPassage, if_pos rfl], fun x hx => ?_, fun a _ => ?_, fun h => ?_, fun h => ?_,
    fun _ => State.signals_unlisted, fun _ => ⟨State.unlisted_arrivals, fun a => State.queue_unlisted a,
      fun a => State.marks_unlisted a, fun c => ?_⟩⟩
  · rw [State.passage_setPassage, if_neg fun e => hx e.symm, State.unlisted_passage]
  · exact congrArg (fun v : Vector SignalRec 8 => v[a]) State.signals_unlisted
  · rw [queued] at h; cases h
  · rw [state] at h; cases h
  · exact State.cell_unlisted c

theorem State.removed_vacated (hq : s.passage p = some q) (single : s.SingleGrant) :
    Removed s (s.vacated p q) p q := by
  cases live : q.live with
  | true => exact State.removed_vacated_live hq live single
  | false => exact State.removed_vacated_queued live

theorem Posted.setPassage {l : List (MasterSlot × Notice)} (h : Posted s t l) (x : Option Passage) :
    Posted s (t.setPassage p x) l := h.thenSame ⟨.refl _, .refl _, .refl _⟩

theorem State.leaveLists_sameTx (s : State) (p : Slot) (a : ApproachId) : SameTx s (s.leaveLists p a) := by
  unfold State.leaveLists
  dsimp only
  split <;> exact ⟨rfl, rfl, rfl⟩

theorem State.unlisted_sameTx : SameTx s (s.unlisted p q) := by
  obtain ⟨-, -, cleared⟩ := (s.leaveLists p (s.approachOf q)).clearReservations_same p
  rw [State.unlisted]
  split
  · exact (s.leaveLists_sameTx p _).trans cleared
  · exact s.leaveLists_sameTx p _

/-- Up to the notice to the owner a removal posts the notices of its releases (R24). -/
theorem State.vacated_posted (nodup : (s.heldRun q).Nodup) :
    Posted s (s.vacated p q) ((s.heldRun q).flatMap (releaseNotices s p q)) := by
  rw [State.vacated]
  refine Posted.setPassage ?_ none
  cases live : q.live with
  | true =>
    rw [if_pos rfl]
    have released : Posted s (s.released p q) ((s.heldRun q).flatMap (releaseNotices s p q)) :=
      (s.releases_posted p q nodup).thenSame ⟨rfl, rfl, rfl⟩
    split
    · exact released.thenSame ((s.released p q).setLatch_keepsCells _ .stop).1
    · exact released
  | false =>
    rw [if_neg Bool.false_ne_true, State.heldRun_of_queued (Passage.live_eq_false_iff.1 live)]
    exact State.unlisted_sameTx.posted

theorem State.vacated_keeps : Keeps s (s.vacated p q) := by
  have unlisted : Keeps s (s.unlisted p q) := by
    rw [State.unlisted]
    split
    · exact (s.leaveLists_keeps p _).trans (State.clearReservations_keeps _ p)
    · exact s.leaveLists_keeps p _
  have released : Keeps s (s.released p q) := (s.releaseRun_keeps p q).trans (State.modDeadline_keeps _ _ _)
  rw [State.vacated]
  refine Keeps.trans ?_ (State.setPassage_keeps _ p none)
  split
  · split
    · exact released.trans (State.setLatch_keeps _ _ _)
    · exact released
  · exact unlisted

theorem State.heldRun_nodup (nodup : (s.cellsOf q).Nodup) : (s.heldRun q).Nodup := by
  cases live : q.live with
  | true =>
    rw [State.heldRun_of_live live]
    exact nodup.sublist (List.drop_sublist _ _)
  | false =>
    rw [State.heldRun_of_queued (Passage.live_eq_false_iff.1 live)]
    exact List.nodup_nil

/-- A removal posts its releases and its outcome (R24). -/
theorem State.remove_posted (hq : s.passage p = some q) (nodup : (s.heldRun q).Nodup) (o : Outcome) :
    Posted s (s.remove p o) (removalNotices s p q o.body) := by
  obtain ⟨-, told⟩ := State.remove_vacated hq o
  have same : ∀ body, passageNotice (s.vacated p q) body p q = passageNotice s body p q := fun body => by
    rw [passageNotice, passageNotice, State.vacated_keeps.timer]
  simp only [same] at told
  exact (State.vacated_posted nodup).trans told

/-! #### The event -/

/-- What reads the book, the marks and the signals alone does not see a posting. -/
theorem Removed.of_keepsBook (h : Removed s t p q) (k : KeepsBook t u) : Removed s u p q := by
  obtain ⟨-, book, marks, signals⟩ := k
  simpa only [Removed, State.passage, State.cell, State.queue, State.signal, book, marks, signals] using h

/-- The work of an event that has led from `before` to `s`, up to its grant pass: the drained MODE notice is posted if the
live count has just become 0 in DRAINING (R117, R123). -/
def State.drainedPost (before s : State) : State :=
  if s.control.mode = .draining && 0 < before.liveCount && s.liveCount = 0 then s.postMode else s

theorem State.afterEvent_eq (before s : State) (starts : Bool) :
    State.afterEvent before s starts =
      if starts then (State.drainedPost before s).grantPass none else State.drainedPost before s := rfl

theorem State.drainedPost_keepsBook (before s : State) : KeepsBook s (State.drainedPost before s) := by
  unfold State.drainedPost
  split
  · exact s.postMode_keepsBook
  · exact .rfl

theorem State.drainedPost_posted (h : Keeps s t) :
    Posted t (State.drainedPost s t) (drainedNotices s (State.drainedPost s t)) := by
  have keeps := State.drainedPost_keepsBook s t
  have pool := congrArg Book.pool keeps.2.1
  rw [drainedNotices, State.liveCount_congr pool, ← h.control]
  have posted := State.postMode_posted (s := t) (t := State.drainedPost s t) (w := s) (congrArg Timer.floor h.timer)
    keeps.1.control pool
  unfold State.drainedPost at posted ⊢
  by_cases drains : t.control.mode = .draining ∧ 0 < s.liveCount ∧ t.liveCount = 0
  · obtain ⟨draining, live, empty⟩ := id drains
    have test : (t.control.mode = .draining && 0 < s.liveCount && t.liveCount = 0) = true := by
      simp [draining, live, empty]
    rw [if_pos test] at posted ⊢
    rw [if_pos drains]
    exact posted
  · have test : ¬ (t.control.mode = .draining && 0 < s.liveCount && t.liveCount = 0) = true := fun h =>
      drains (by simpa [and_assoc] using h)
    rw [if_neg test, if_neg drains]
    exact Posted.rfl

/-- The book after a removal (R23, R24). -/
theorem State.remove_removed (hq : s.passage p = some q) (single : s.SingleGrant) (o : Outcome) :
    Removed s (s.remove p o) p q := (State.removed_vacated hq single).of_keepsBook (State.remove_vacated hq o).1

/-- The whole of an event that removes a passage, up to its grant pass (R23, R24). -/
theorem State.removes (hq : s.passage p = some q) (single : s.SingleGrant) (o : Outcome) :
    Removes s (State.drainedPost s (s.remove p o)) p q o.body := by
  have drained := State.drainedPost_keepsBook s (s.remove p o)
  refine ⟨?_, ((s.remove_keeps p o).trans drained.1).sameOutside, fun nodup => ?_⟩
  · exact (State.remove_removed hq single o).of_keepsBook drained
  · exact ((State.remove_posted hq (State.heldRun_nodup nodup) o).trans (State.drainedPost_posted (s.remove_keeps p o))).posts_of_same

theorem State.remove_passage_gone (p : Slot) (o : Outcome) :
    ((State.drainedPost s (s.remove p o)).grantPass none).passage p = none := by
  refine (State.grantPass_tends _ _).passage_none ?_
  rw [(State.drainedPost_keepsBook s _).passage]
  exact s.remove_passage p o

theorem State.drainedPost_remove_keeps (p : Slot) (o : Outcome) : Keeps s (State.drainedPost s (s.remove p o)) :=
  (s.remove_keeps p o).trans (State.drainedPost_keepsBook s _).1

end

end Sys2Proof.Machine

namespace Sys2Proof.Machine

/-! ### WITHDRAW, FORCE_RELEASE and the expiries -/

section
variable {s t u : State} {p : Slot} {q : Passage}

theorem SameButTail.passage (h : SameButTail s t) (p : Slot) : t.passage p = s.passage p := by rw [h]; rfl

/-- What an event does that removes a passage behind a frame, with the frame's tail. -/
theorem State.Takes.removes {c : Instr} {f : Frame} {v : Verdict} {o : Outcome} (hq : s.passage p = some q)
    (single : s.SingleGrant)
    (done : exec c s = .next ((State.afterEvent (s.readFrame f) ((s.readFrame f).remove p o) true).giveTail v)) :
    ∃ u t : State, exec c s = .next t ∧ t.Answers v ∧ Removes s u p q o.body ∧ SameButTail (u.grantPass none) t ∧
      t.passage p = none ∧ SameOutside s t ∧ (s.control.mode ≠ .running → SameButTail u t) := by
  have keeps := State.drainedPost_remove_keeps (s := s.readFrame f) p o
  obtain ⟨removed, outside, posts⟩ := State.removes (s := s.readFrame f) hq single o
  have passed := keeps.trans (State.grantPass_keeps _ none)
  refine ⟨_, _, done, State.answers_giveTail _ _, ⟨removed, outside, fun nodup => ?_⟩, State.sameButTail_giveTail _ _,
    State.remove_passage_gone (s := s.readFrame f) p o, passed.sameOutside.of_readFrame.giveTail v, fun quiet => ?_⟩
  · have posted := (State.remove_posted (s := s.readFrame f) hq (State.heldRun_nodup nodup) o).trans
      (State.drainedPost_posted ((s.readFrame f).remove_keeps p o))
    exact posted.posts
  · have same := State.grantPass_of_notRunning (s := State.drainedPost (s.readFrame f) ((s.readFrame f).remove p o))
      (by rw [keeps.control]; exact quiet) none
    rw [State.afterEvent_eq, if_pos rfl, same]
    exact State.sameButTail_giveTail _ _

variable {hd : FrameHead} {slot : Byte} {carrier : CarrierId}

theorem exec_forceRelease : exec (.forceRelease hd slot carrier) s =
    onFrame (.forceRelease hd slot carrier) s fun u => u.forceRelease slot carrier := rfl

theorem State.withdraw_owner {src : Node} (named : s.named slot carrier = some (p, q))
    (owner : s.enrolledSlot src = some q.master) (early : q.state ≠ .entered) :
    s.withdraw src slot carrier = (State.afterEvent s (s.remove p .withdrawn) true, .done (.withdraw q.state)) := by
  simp only [State.withdraw, named, owner, ne_eq, not_true_eq_false, if_false, if_neg early]

theorem State.forceRelease_named (named : s.named slot carrier = some (p, q)) :
    s.forceRelease slot carrier =
      (State.afterEvent s (s.remove p .forced) true, .done (.forceRelease q.state (s.heldRun q).length)) := by
  simp only [State.forceRelease, named]

theorem State.heldRun_length (s : State) (q : Passage) :
    (s.heldRun q).length = if q.state = .queued then 0 else (s.heldRun q).length := by
  split
  · rename_i queued
    rw [State.heldRun_of_queued queued]; rfl
  · rfl

end

/-- Settles O25: both commands are one removal and its grant pass, by the slot and the carrier named. -/
theorem withdrawAndForceRemove : Obligations.WithdrawAndForceRemove := by
  refine ⟨fun hd slot carrier p q s taken hp hq same owner early single => ?_, fun hd slot carrier s taken =>
    ⟨fun absent => ?_, fun p q hp hq same single => ?_⟩⟩
  · obtain ⟨f, -, done⟩ := taken.exec_eq exec_withdraw
    have named : (s.readFrame f).named slot carrier = some (p, q) := State.named_some hp hq same
    have enrolled : (s.readFrame f).enrolledSlot hd.src = some q.master := owner
    rw [State.withdraw_owner named enrolled early] at done
    exact State.Takes.removes hq single done
  · refine taken.answers exec_forceRelease fun f => ?_
    have none : (s.readFrame f).named slot carrier = none := State.named_none absent
    simp only [State.forceRelease, none]
  · obtain ⟨f, -, done⟩ := taken.exec_eq exec_forceRelease
    have named : (s.readFrame f).named slot carrier = some (p, q) := State.named_some hp hq same
    rw [State.forceRelease_named named, State.heldRun_length] at done
    exact State.Takes.removes hq single done

/-! #### Expiries -/

section
variable {s : State} {p : Slot} {q : Passage}

theorem exec_arrivalExpiry (running : s.power.phase = .running) :
    exec (.arrivalExpiry p) s = .next (s.arrivalExpiry p) := whenRunning_running running

theorem exec_blindClearExpiry (running : s.power.phase = .running) :
    exec (.blindClearExpiry p) s = .next (s.blindClearExpiry p) := whenRunning_running running

theorem exec_dwellExpiry (running : s.power.phase = .running) :
    exec (.dwellExpiry p) s = .next (s.dwellExpiry p) := by
  rw [exec, execDwellExpiry, whenRunning_running running]

/-- A due expiry removes its passage, and its pass follows (R87, R90). -/
theorem State.expiry_removes (hq : s.passage p = some q) (single : s.SingleGrant) (o : Outcome) {body : NoticeBody}
    (hb : o.body = some body) :
    ∃ u : State, State.afterEvent s (s.remove p o) true = u.grantPass none ∧ Removes s u p q (some body) ∧
      SameLine s u ∧ (u.grantPass none).passage p = none ∧ SameOutside s (u.grantPass none) ∧
      (s.control.mode ≠ .running → u.grantPass none = u) := by
  have keeps := State.drainedPost_remove_keeps (s := s) p o
  refine ⟨State.drainedPost s (s.remove p o), rfl, hb ▸ State.removes hq single o, keeps.sameLine,
    State.remove_passage_gone p o, (keeps.trans (State.grantPass_keeps _ none)).sameOutside, fun quiet => ?_⟩
  exact State.grantPass_of_notRunning (by rw [keeps.control]; exact quiet) none

/-- An expiry is due where floor time has reached an armed deadline of its kind (R87). -/
theorem Deadline.dueAs_iff {d : Deadline} {kind : ArmedKind} {now : Time} :
    d.dueAs kind now = true ↔ ∃ r, d.run = some r ∧ r.kind = kind ∧ r.clock = .armed now := by
  unfold Deadline.dueAs
  cases d.run <;> simp

theorem State.expiryDue_of {r : Running} (hq : s.passage p = some q) (run : q.deadline.run = some r)
    (due : r.clock = .armed s.timer.floor) : s.expiryDue p r.kind = true := by
  rw [State.expiryDue, hq]
  exact Deadline.dueAs_iff.2 ⟨r, run, rfl, due⟩

theorem State.not_dueAs
    (h : ∀ q r, s.passage p = some q → q.deadline.run = some r → r.clock ≠ .armed s.timer.floor)
    (hq : s.passage p = some q) (kind : ArmedKind) : q.deadline.dueAs kind s.timer.floor = false := by
  rw [← Bool.not_eq_true, Deadline.dueAs_iff]
  rintro ⟨r, run, -, due⟩
  exact h q r hq run due

theorem State.not_expiryDue
    (h : ∀ q r, s.passage p = some q → q.deadline.run = some r → r.clock ≠ .armed s.timer.floor) (kind : ArmedKind) :
    s.expiryDue p kind = false := by
  rw [State.expiryDue]
  cases hq : s.passage p with
  | none => rfl
  | some q => exact State.not_dueAs h hq kind

/-- A DWELL expiry that is not due changes nothing. -/
theorem State.dwellExpiry_of_not_due
    (h : ∀ q r, s.passage p = some q → q.deadline.run = some r → r.clock ≠ .armed s.timer.floor) :
    s.dwellExpiry p = s := by
  rw [State.dwellExpiry]
  cases hq : s.passage p with
  | none => rfl
  | some q =>
    dsimp only
    rw [if_neg (by rw [State.not_dueAs h hq]; exact Bool.false_ne_true)]

end

/-- Settles O49: an expiry that is due is one removal and its grant pass. -/
theorem expiryRemovesThePassage : Obligations.ExpiryRemovesThePassage := by
  refine fun p s running => ⟨fun q r hq run due single => ⟨fun kind => ?_, fun kind => ?_⟩, fun notDue => ⟨?_, ?_, ?_⟩⟩
  · have isDue := State.expiryDue_of hq run due
    rw [kind] at isDue
    dsimp only
    rw [exec_arrivalExpiry running, State.arrivalExpiry, if_pos isDue]
    obtain ⟨u, passed, rest⟩ := State.expiry_removes hq single .lapsed rfl
    exact ⟨u, congrArg Host.Outcome.next passed, rest⟩
  · have isDue := State.expiryDue_of hq run due
    rw [kind] at isDue
    dsimp only
    rw [exec_blindClearExpiry running, State.blindClearExpiry, if_pos isDue]
    obtain ⟨u, passed, rest⟩ := State.expiry_removes hq single .cleared rfl
    exact ⟨u, congrArg Host.Outcome.next passed, rest⟩
  · rw [exec_arrivalExpiry running, State.arrivalExpiry, State.not_expiryDue notDue, if_neg Bool.false_ne_true]
  · rw [exec_blindClearExpiry running, State.blindClearExpiry, State.not_expiryDue notDue, if_neg Bool.false_ne_true]
  · rw [exec_dwellExpiry running, State.dwellExpiry_of_not_due notDue]

end Sys2Proof.Machine

namespace Sys2Proof.Machine

/-! ### A flush -/

section
variable {s t u : State} {p : Slot} {q : Passage}

/-- What makes the removals of a flush work apart: at most one GRANTED passage per approach, and held runs without a
repeated cell, each of whose cells has the passage's slot as its holder (R18, R43). -/
def State.RunsOwned (s : State) : Prop :=
  s.SingleGrant ∧ ∀ p q, s.passage p = some q → (s.heldRun q).Nodup ∧ ∀ c ∈ s.heldRun q, (s.cell c).holder = some p

theorem State.Held.runsOwned (law : s.Held) : s.RunsOwned := by
  obtain ⟨single, plain, -, holders⟩ := law
  exact ⟨single, fun p q hq => ⟨State.heldRun_nodup (plain p q hq).1, fun c hc => (holders c p).2 ⟨q, hq, hc⟩⟩⟩

theorem State.runsOwned_of_queued (h : ∀ p q, s.passage p = some q → q.state = .queued) : s.RunsOwned := by
  refine ⟨fun a p x hp _ => ?_, fun p q hq => ?_⟩
  · obtain ⟨q, hq, granted, -⟩ := hp
    rw [h p q hq] at granted
    cases granted
  · rw [State.heldRun_of_queued (h p q hq)]
    exact ⟨List.nodup_nil, fun c hc => nomatch hc⟩

/-- The record of a cell after a removal: freed, if the passage held it, and else as it was but for a reservation. -/
theorem Removed.cell (h : Removed s u p q) (c : CellId) :
    (c ∈ s.heldRun q ∧ q.live = true → u.cell c = (s.cell c).freed) ∧
    (c ∉ s.heldRun q → ∃ r, u.cell c = { s.cell c with reservation := r }) := by
  obtain ⟨-, -, -, live, -, -, queued⟩ := h
  refine ⟨fun ⟨held, isLive⟩ => ?_, fun notHeld => ?_⟩
  · obtain ⟨-, -, -, -, freed⟩ := live isLive
    exact freed c held
  · cases isLive : q.live with
    | true =>
      obtain ⟨-, -, -, same, -⟩ := live isLive
      exact ⟨_, same c notHeld⟩
    | false =>
      obtain ⟨-, -, -, cells⟩ := queued isLive
      exact ⟨_, cells c⟩

theorem live_of_mem_heldRun {c : CellId} (h : c ∈ s.heldRun q) : q.live = true := by
  cases live : q.live with
  | true => rfl
  | false =>
    rw [State.heldRun_of_queued (Passage.live_eq_false_iff.1 live)] at h
    cases h

/-- The held run of another passage is not touched by a removal. -/
theorem State.RunsOwned.apart (law : s.RunsOwned) (hq : s.passage p = some q) {x : Slot} {r : Passage} (hx : x ≠ p)
    (hr : s.passage x = some r) {c : CellId} (hc : c ∈ s.heldRun r) : c ∉ s.heldRun q := fun held => by
  obtain ⟨-, runs⟩ := law
  have first := (runs p q hq).2 c held
  rw [(runs x r hr).2 c hc, Option.some.injEq] at first
  exact hx first

theorem State.RunsOwned.remove (law : s.RunsOwned) (hq : s.passage p = some q) (o : Outcome) :
    (s.remove p o).RunsOwned := by
  have removed := State.remove_removed hq law.1 o
  obtain ⟨gone, others, -⟩ := id removed
  have map := (s.remove_keeps p o).map
  have before : ∀ {x r}, (s.remove p o).passage x = some r → x ≠ p ∧ s.passage x = some r := fun {x r} hr => by
    by_cases e : x = p
    · rw [e, gone] at hr; cases hr
    · exact ⟨e, others x e ▸ hr⟩
  have run : ∀ r, (s.remove p o).heldRun r = s.heldRun r :=
    fun r => State.heldRun_congr (congrArg MapStore.working map) rfl rfl rfl
  refine ⟨fun a x y hx hy => ?_, fun x r hr => ?_⟩
  · have granted : ∀ {x}, (s.remove p o).GrantedAt x a → s.GrantedAt x a := by
      rintro x ⟨r, hr, granted, approach⟩
      exact ⟨r, (before hr).2, granted, (State.approachOf_congr (congrArg MapStore.working map) rfl).symm.trans approach⟩
    exact law.1 a x y (granted hx) (granted hy)
  · obtain ⟨hx, hr⟩ := before hr
    rw [run]
    obtain ⟨nodup, owned⟩ := law.2 x r hr
    refine ⟨nodup, fun c hc => ?_⟩
    obtain ⟨v, same⟩ := (removed.cell c).2 (law.apart hq hx hr hc)
    rw [same]
    exact owned c hc

theorem State.remove_of_none (h : s.passage p = none) (o : Outcome) : s.remove p o = s := by
  rw [State.remove, h]

/-- A flush goes through removals of passages that are in the pool. -/
theorem State.flush_induction {which : Passage → Bool} {inv : State → Prop}
    (step : ∀ u p q, inv u → u.passage p = some q → inv (u.remove p .flushed)) (hs : inv s) : inv (s.flush which) := by
  have each : ∀ (l : List Slot) (u : State), inv u → inv (l.foldl (fun s x => s.remove x .flushed) u) := by
    intro l
    induction l with
    | nil => exact fun _ h => h
    | cons x rest ih =>
      intro u h
      refine ih _ ?_
      cases hq : u.passage x with
      | none => rwa [← State.remove_of_none hq .flushed] at h
      | some q => exact step u x q h hq
  exact each _ s hs

/-! #### Its notices -/

/-- What the flush of one slot posts (R25). -/
def flushNotes (s : State) (p : Slot) : List (MasterSlot × Notice) :=
  (s.passage p).toList.flatMap fun q => removalNotices s p q (some .flushed)

theorem flushNotes_some (hq : s.passage p = some q) : flushNotes s p = removalNotices s p q (some .flushed) := by
  simp [flushNotes, hq]

theorem State.remove_flushNotes (law : s.RunsOwned) (p : Slot) : Posted s (s.remove p .flushed) (flushNotes s p) := by
  cases hq : s.passage p with
  | none =>
    rw [State.remove_of_none hq, flushNotes, hq]
    exact Posted.rfl
  | some q =>
    rw [flushNotes_some hq]
    exact State.remove_posted hq (law.2 p q hq).1 .flushed

/-- One removal of a flush is not seen in what another posts. -/
theorem flushNotes_remove (law : s.RunsOwned) {x : Slot} (h : p ≠ x) :
    flushNotes (s.remove p .flushed) x = flushNotes s x := by
  cases hq : s.passage p with
  | none => rw [State.remove_of_none hq]
  | some q =>
    have removed := State.remove_removed hq law.1 .flushed
    obtain ⟨-, others, -⟩ := id removed
    have keeps := s.remove_keeps p .flushed
    cases hr : s.passage x with
    | none => rw [flushNotes, flushNotes, others x h.symm, hr]; rfl
    | some r =>
      have run : (s.remove p .flushed).heldRun r = s.heldRun r :=
        State.heldRun_congr (congrArg MapStore.working keeps.map) rfl rfl rfl
      rw [flushNotes_some hr, flushNotes_some ((others x h.symm).trans hr), removalNotices, removalNotices, run]
      have told : ∀ body, passageNotice (s.remove p .flushed) body x r = passageNotice s body x r := fun body => by
        rw [passageNotice, passageNotice, keeps.timer]
      simp only [told]
      congr 1
      refine List.flatMap_congr fun c hc => ?_
      obtain ⟨v, same⟩ := (removed.cell c).2 (law.apart hq h.symm hr hc)
      rw [releaseNotices, releaseNotices, same]
      rw [toSafety, toSafety, toSafety, toSafety, State.safetySlot, State.safetySlot, keeps.map, lockedNotice,
        lockedNotice, passageNotice, passageNotice, keeps.timer]

/-- A flush of all posts the FLUSHED notices, with those of the releases, in slot order (R25). -/
theorem State.flush_posted {which : Passage → Bool} (law : s.RunsOwned)
    (all : ∀ p q, s.passage p = some q → which q = true) : Posted s (s.flush which) (flushNotices s) := by
  have posted : Posted s (s.flush which) ((s.slotsWhere which).flatMap (flushNotes s)) := by
    refine posted_foldl (inv := State.RunsOwned) (fun s p law => ?_) (fun s p law => s.remove_flushNotes law p)
      (fun s p x law h => flushNotes_remove law h) ((List.nodup_finRange 24).filter _) law
    cases hq : s.passage p with
    | none => rwa [← State.remove_of_none hq .flushed] at law
    | some q => exact law.remove hq .flushed
  refine posted.of_eq ?_
  rw [State.slotsWhere, flatMap_filter, flushNotices]
  refine List.flatMap_congr fun p _ => ?_
  cases hq : s.passage p with
  | none => rfl
  | some q =>
    rw [if_pos (by rw [Option.any_some]; exact all p q hq), flushNotes_some hq]
    simp

end

end Sys2Proof.Machine

namespace Sys2Proof.Machine

/-! ### What a flush leaves -/

section
variable {s t u : State} {p : Slot} {q : Passage}

/-- The record of a cell after its holder was flushed or not (R23, R25). -/
def CellRec.SameHolding (r x : CellRec) : Prop :=
  x.holder = r.holder ∧ x.lock = r.lock ∧ x.intruded = r.intruded ∨
    r.holder ≠ none ∧ x.holder = none ∧ x.lock = r.freed.lock ∧ x.intruded = r.freed.intruded

/-- A flush has led from `s` as far as `u`. -/
structure Flushing (s u : State) : Prop where
  keeps : Keeps s u
  pool : ∀ p, u.passage p = s.passage p ∨ u.passage p = none
  sensed : ∀ c, (u.cell c).occupancy = (s.cell c).occupancy ∧ (u.cell c).heard = (s.cell c).heard ∧
    (u.cell c).stamp = (s.cell c).stamp
  holding : ∀ c, (s.cell c).SameHolding (u.cell c)
  signals : ∀ a, u.signal a = s.signal a ∨ u.signal a = (s.signal a).latched .stop
  go : (∀ a, (s.signal a).latch = .go → ∃ p, s.GrantedAt p a) →
    ∀ a, (u.signal a).latch = .go → ∃ p, u.GrantedAt p a
  marks : ∀ a : ApproachId,
    (u.marks[a] = s.marks[a] ∧ ∀ p q, s.marks[a] = some p → s.passage p = some q → q.state = .queued →
      s.approachOf q = a → u.passage p = some q) ∨
    (u.marks[a] = none ∧ ∃ p q, s.marks[a] = some p ∧ s.passage p = some q ∧ q.state = .queued ∧ s.approachOf q = a)

theorem Flushing.rfl {s : State} : Flushing s s :=
  ⟨.rfl, fun _ => .inl (.refl _), fun _ => ⟨.refl _, .refl _, .refl _⟩, fun _ => .inl ⟨.refl _, .refl _, .refl _⟩,
    fun _ => .inl (.refl _), id, fun _ => .inl ⟨.refl _, fun _ _ _ hq _ _ => hq⟩⟩

theorem SignalRec.latched_latched (r : SignalRec) (l : Latch) : (r.latched l).latched l = r.latched l := by
  unfold SignalRec.latched
  by_cases h : r.latch = l <;> simp [h]

theorem SignalRec.latched_latch (r : SignalRec) (l : Latch) : (r.latched l).latch = l := by
  unfold SignalRec.latched
  by_cases h : r.latch = l <;> simp [h]

/-- One removal goes one step further. -/
theorem Flushing.remove (h : Flushing s u) (law : u.RunsOwned) (hq : u.passage p = some q) :
    Flushing s (u.remove p .flushed) := by
  have removed := State.remove_removed hq law.1 .flushed
  obtain ⟨gone, others, signal, live, granted, notGranted, queued⟩ := id removed
  have map : u.map = s.map := h.keeps.map
  have keeps := u.remove_keeps p .flushed
  have inPool : s.passage p = some q := by
    rcases h.pool p with same | none
    · exact same ▸ hq
    · rw [none] at hq; cases hq
  have approach : ∀ x, u.approachOf x = s.approachOf x :=
    fun x => State.approachOf_congr (congrArg MapStore.working map) (.refl _)
  refine ⟨h.keeps.trans keeps, fun x => ?_, fun c => ?_, fun c => ?_, fun a => ?_, fun law' a ha => ?_, fun a => ?_⟩
  · by_cases e : x = p
    · exact .inr (e ▸ gone)
    · rw [others x e]
      exact h.pool x
  · obtain ⟨occupancy, heard, stamp⟩ := h.sensed c
    by_cases held : c ∈ u.heldRun q
    · rw [(removed.cell c).1 ⟨held, live_of_mem_heldRun held⟩]
      exact ⟨occupancy, heard, stamp⟩
    · obtain ⟨r, same⟩ := (removed.cell c).2 held
      rw [same]
      exact ⟨occupancy, heard, stamp⟩
  · by_cases held : c ∈ u.heldRun q
    · rw [(removed.cell c).1 ⟨held, live_of_mem_heldRun held⟩]
      have holder := (law.2 p q hq).2 c held
      obtain ⟨-, heard, -⟩ := h.sensed c
      rcases h.holding c with ⟨same, lock, intruded⟩ | ⟨-, none, -⟩
      · refine .inr ⟨by rw [← same, holder]; exact nofun, .refl _, ?_, ?_⟩
        · simp only [CellRec.freed, lock]
        · simp only [CellRec.freed, intruded, heard]
      · rw [none] at holder; cases holder
    · obtain ⟨r, same⟩ := (removed.cell c).2 held
      rw [same]
      exact h.holding c
  · by_cases e : q.state = .granted ∧ a = u.approachOf q
    · rw [e.2, granted e.1]
      rcases h.signals (u.approachOf q) with same | same
      · exact .inr (by rw [same])
      · exact .inr (by rw [same, SignalRec.latched_latched])
    · have same : (u.remove p .flushed).signal a = u.signal a := by
        by_cases isGranted : q.state = .granted
        · exact signal a fun at_a => e ⟨isGranted, at_a⟩
        · exact congrArg (fun v : Vector SignalRec 8 => v[a]) (notGranted isGranted)
      rw [same]
      exact h.signals a
  · have stays : ∀ x, u.GrantedAt x a → x ≠ p → (u.remove p .flushed).GrantedAt x a := by
      rintro x ⟨r, hr, isGranted, at_a⟩ hx
      exact ⟨r, (others x hx).trans hr, isGranted,
        (State.approachOf_congr (congrArg MapStore.working keeps.map) (.refl _)).trans at_a⟩
    by_cases e : q.state = .granted ∧ a = u.approachOf q
    · rw [e.2, granted e.1, SignalRec.latched_latch] at ha
      cases ha
    · have same : (u.remove p .flushed).signal a = u.signal a := by
        by_cases isGranted : q.state = .granted
        · exact signal a fun at_a => e ⟨isGranted, at_a⟩
        · exact congrArg (fun v : Vector SignalRec 8 => v[a]) (notGranted isGranted)
      rw [same] at ha
      obtain ⟨x, hx⟩ := h.go law' a ha
      refine ⟨x, stays x hx fun at_p => e ?_⟩
      obtain ⟨r, hr, isGranted, at_a⟩ := hx
      rw [at_p, hq, Option.some.injEq] at hr
      subst hr
      exact ⟨isGranted, at_a.symm⟩
  · rcases h.marks a with ⟨same, present⟩ | cleared
    · cases isLive : q.live with
      | true =>
        obtain ⟨-, -, marks, -⟩ := live isLive
        rw [marks]
        refine .inl ⟨same, fun x r hm hx isQueued at_a => ?_⟩
        have there := present x r hm hx isQueued at_a
        rw [others x, there]
        rintro rfl
        cases hq.symm.trans there
        exact Passage.live_eq_true_iff.1 isLive isQueued
      | false =>
        obtain ⟨-, -, marks, -⟩ := queued isLive
        rw [marks a, same, approach]
        by_cases named : a = s.approachOf q ∧ s.marks[a] = some p
        · rw [if_pos named]
          exact .inr ⟨.refl _, p, q, named.2, inPool, Passage.live_eq_false_iff.1 isLive, named.1.symm⟩
        · rw [if_neg named]
          refine .inl ⟨.refl _, fun x r hm hx isQueued at_a => ?_⟩
          have there := present x r hm hx isQueued at_a
          rw [others x, there]
          rintro rfl
          cases hq.symm.trans there
          exact named ⟨at_a.symm, hm⟩
    · cases isLive : q.live with
      | true =>
        obtain ⟨-, -, marks, -⟩ := live isLive
        rw [marks]
        exact .inr cleared
      | false =>
        obtain ⟨-, -, marks, -⟩ := queued isLive
        rw [marks a]
        refine .inr ⟨?_, cleared.2⟩
        split
        · rfl
        · exact cleared.1

theorem State.flush_flushing (which : Passage → Bool) (law : s.RunsOwned) : Flushing s (s.flush which) := by
  have both : Flushing s (s.flush which) ∧ (s.flush which).RunsOwned :=
    State.flush_induction (inv := fun u => Flushing s u ∧ u.RunsOwned)
      (fun u p q h hq => ⟨h.1.remove h.2 hq, h.2.remove hq .flushed⟩) ⟨.rfl, law⟩
  exact both.1

/-- A flush of all takes every mark that names a QUEUED passage of its approach (R39). -/
theorem Flushing.marksFlushed (h : Flushing s u) (empty : ∀ p, u.passage p = none) (marks : t.marks = u.marks) :
    MarksFlushed s t := by
  intro a
  rw [marks]
  rcases h.marks a with ⟨same, present⟩ | ⟨none, p, q, hm, hq, queued, at_a⟩
  · refine ⟨fun p q hm hq queued at_a => ?_, fun _ => same⟩
    have there := present p q hm hq queued at_a
    rw [empty] at there
    cases there
  · exact ⟨fun _ _ _ _ _ _ => none, fun other => absurd at_a (other p q hm hq queued)⟩

end

end Sys2Proof.Machine

namespace Sys2Proof.Machine

/-! ### OPEN_SERVICE -/

section
variable {s t u : State} {n : Node}

/-! #### The entry into SERVICE -/

theorem State.restCells_same (s : State) : s.restCells.map = s.map ∧ s.restCells.timer = s.timer ∧
    s.restCells.power = s.power ∧ s.restCells.signals = s.signals ∧ s.restCells.marks = s.marks ∧
    s.restCells.control = s.control ∧ s.restCells.decoder = s.decoder ∧ s.restCells.book.pool = s.book.pool ∧
    s.restCells.book.arrivals = s.book.arrivals ∧ s.restCells.book.queues = s.book.queues ∧ SameTx s s.restCells := by
  unfold State.restCells SameTx
  simp only [and_self]

theorem State.cell_restCells (s : State) (c : CellId) :
    s.restCells.cell c = { s.cell c with occupancy := .free, heard := .free, intruded := false } := by
  simp [State.restCells, State.cell]

theorem State.sensor_restCells (s : State) (c : CellId) :
    s.restCells.sensor c = { s.sensor c with raw := .free, count := 0 } := by
  simp [State.restCells, State.sensor]

/-- The Mode Controller and the Decoder in SERVICE (R118). -/
def State.toService (s : State) (n : Node) : State :=
  { s with
    control := { s.control with mode := .service, settleCount := 0, risesDue := 0, causes := .empty }
    decoder := { service := some n, latches := Vector.replicate 15 none } }

theorem State.enterService_eq (s : State) (n : Node) : s.enterService n = (s.toService n).restCells.postMode := rfl

/-- What the entry into SERVICE leaves of everything but the notices (R118). -/
structure EntersService (s t : State) (n : Node) : Prop where
  control : t.control = { s.control with mode := .service, causes := .empty, settleCount := 0, risesDue := 0 }
  decoder : t.decoder = { service := some n, latches := Vector.replicate 15 none }
  cells : ∀ c, t.cell c = { s.cell c with occupancy := .free, heard := .free, intruded := false }
  sensors : ∀ c, t.sensor c = { s.sensor c with raw := .free, count := 0 }
  outside : t.map = s.map ∧ t.timer = s.timer ∧ t.power = s.power ∧ t.signals = s.signals ∧ t.liu.error = s.liu.error
  book : t.book.pool = s.book.pool ∧ t.book.arrivals = s.book.arrivals ∧ t.book.queues = s.book.queues ∧
    t.marks = s.marks

theorem State.enterService_enters (s : State) (n : Node) : EntersService s (s.enterService n) n := by
  obtain ⟨map, timer, power, signals, marks, control, decoder, pool, arrivals, queues, liu, -⟩ :=
    (s.toService n).restCells_same
  have cell := (s.toService n).cell_restCells
  have sensor := (s.toService n).sensor_restCells
  rw [State.enterService_eq]
  generalize (s.toService n).restCells = v at *
  obtain ⟨keeps, book, marks', signals'⟩ := v.postMode_keepsBook
  obtain ⟨-, -, -, scanner, -, -, -, error, -⟩ := keeps.sameOutside
  refine ⟨keeps.control.trans control, keeps.decoder.trans decoder,
    fun c => (State.cell_congr (congrArg Book.cells book) c).trans (cell c), fun c => ?_,
    ⟨keeps.map.trans map, keeps.timer.trans timer, keeps.power.trans power, signals'.trans signals,
      error.trans (congrArg Liu.error liu)⟩,
    (congrArg Book.pool book).trans pool, (congrArg Book.arrivals book).trans arrivals,
    (congrArg Book.queues book).trans queues, marks'.trans marks⟩
  exact (congrArg (fun x : Scanner => x.sensors[c]) scanner).trans (sensor c)

/-- A MODE notice names the state that answers behind it. -/
theorem State.postMode_posted_answer {w : State} (floor : s.timer.floor = w.timer.floor) (v : Verdict) :
    Posted s s.postMode (toAll (modeNotice w (s.postMode.giveTail v))) := by
  obtain ⟨keeps, book, -⟩ := s.postMode_keepsBook
  refine State.postMode_posted floor ?_ ?_
  · rw [State.giveTail_control, keeps.control]
  · rw [State.giveTail_book, book]

/-- The entry posts the MODE notice of the state it leaves (R117, R118). -/
theorem State.enterService_posted {w : State} (floor : s.timer.floor = w.timer.floor) (v : Verdict) :
    Posted s (s.enterService n) (toAll (modeNotice w ((s.enterService n).giveTail v))) := by
  obtain ⟨-, timer, -, -, -, -, -, -, -, -, tx⟩ := (s.toService n).restCells_same
  have service : SameTx s (s.toService n) := ⟨rfl, rfl, rfl⟩
  have floor' : (s.toService n).restCells.timer.floor = w.timer.floor := (congrArg Timer.floor timer).trans floor
  have clean := service.trans tx
  rw [State.enterService_eq]
  generalize (s.toService n).restCells = x at *
  exact clean.andPosted (State.postMode_posted_answer floor' v)

/-! #### The frame -/

/-- What OPEN_SERVICE does that enters SERVICE, with this many passages flushed and these notices before its own. -/
def OpensService (hd : FrameHead) (s t : State) (flushed : Nat) (posted : List (MasterSlot × Notice)) : Prop :=
  exec (.openService hd) s = .next t ∧ t.Answers (.done (.openService flushed)) ∧
  t.control = { s.control with mode := .service, causes := .empty, settleCount := 0, risesDue := 0 } ∧
  t.decoder = { service := some hd.src, latches := Vector.replicate 15 none } ∧
  Posts s t (posted ++ toAll (modeNotice s t)) ∧
  (∀ c, (t.cell c).occupancy = .free ∧ (t.cell c).heard = .free ∧ (t.cell c).intruded = false ∧
    (t.cell c).stamp = (s.cell c).stamp ∧
    (t.cell c).lock = (s.cell c).lock ∧ (t.cell c).holder = (s.cell c).holder ∧
    (t.sensor c).mode = (s.sensor c).mode ∧ (t.sensor c).count = 0 ∧ (t.sensor c).raw = .free) ∧
  t.map = s.map ∧ t.timer = s.timer ∧ t.power = s.power ∧ t.signals = s.signals ∧ t.liu.error = s.liu.error

/-- What the flush before the entry spares: it touches reservations, lists, marks and notices alone. -/
structure SparesRecords (s u : State) : Prop where
  keeps : Keeps s u
  signals : u.signals = s.signals
  cells : ∀ c, ∃ r, u.cell c = { s.cell c with reservation := r }

theorem SparesRecords.rfl {s : State} : SparesRecords s s := ⟨.rfl, .refl _, fun _ => ⟨_, .refl _⟩⟩

theorem State.flush_sparesRecords (which : Passage → Bool) (h : ∀ p q, s.passage p = some q → q.state = .queued) :
    SparesRecords s (s.flush which) := by
  have both : SparesRecords s (s.flush which) ∧ ∀ p q, (s.flush which).passage p = some q → q.state = .queued := by
    refine State.flush_induction (inv := fun u => SparesRecords s u ∧ ∀ p q, u.passage p = some q → q.state = .queued)
      (fun u p q so hq => ?_) ⟨.rfl, h⟩
    obtain ⟨⟨keeps, signals, cells⟩, queued⟩ := so
    have removed := State.remove_removed hq (State.runsOwned_of_queued queued).1 .flushed
    obtain ⟨gone, others, -, -, -, notGranted, -⟩ := id removed
    have state := queued p q hq
    refine ⟨⟨keeps.trans (u.remove_keeps p _), (notGranted (by rw [state]; exact nofun)).trans signals, fun c => ?_⟩,
      fun x r hr => ?_⟩
    · obtain ⟨r, same⟩ := (removed.cell c).2 (by rw [State.heldRun_of_queued state]; exact List.not_mem_nil)
      obtain ⟨x, before⟩ := cells c
      exact ⟨r, by rw [same, before]⟩
    · by_cases e : x = p
      · rw [e, gone] at hr; cases hr
      · exact queued x r (others x e ▸ hr)
  exact both.1

variable {hd : FrameHead}

theorem exec_openService : exec (.openService hd) s = onFrame (.openService hd) s fun u => u.openService hd.src := rfl

theorem SparesRecords.opens {f : Frame} {flushed : Nat} {posted : List (MasterSlot × Notice)}
    (h : SparesRecords (s.readFrame f) u) (entered : EntersService u t hd.src)
    (told : Posted (s.readFrame f) t (posted ++ toAll (modeNotice s (t.giveTail (.done (.openService flushed))))))
    (done : exec (.openService hd) s = .next (t.giveTail (.done (.openService flushed)))) :
    OpensService hd s (t.giveTail (.done (.openService flushed))) flushed posted := by
  obtain ⟨keeps, signals, cells⟩ := h
  obtain ⟨-, map, timer, scanner, control, -, -, error, -⟩ := keeps.sameOutside.of_readFrame
  obtain ⟨control', decoder, cell, sensor, ⟨map', timer', power', signals', error'⟩, -⟩ := entered
  refine ⟨done, State.answers_giveTail _ _, ?_, decoder, told.posts, fun c => ?_, map'.trans map, timer'.trans timer,
    power'.trans keeps.power, signals'.trans signals, error'.trans error⟩
  · rw [control] at control'
    exact control'
  · obtain ⟨r, same⟩ := cells c
    have same : u.cell c = { s.cell c with reservation := r } := same
    have sensed : u.sensor c = s.sensor c := congrArg (fun v : Scanner => v.sensors[c]) scanner
    rw [State.cell_giveTail, State.sensor_giveTail, cell, sensor, same, sensed]
    exact ⟨.refl _, .refl _, .refl _, .refl _, .refl _, .refl _, .refl _, .refl _, .refl _⟩

/-! #### An empty pool -/

theorem State.Listed.empty_lists (law : s.Listed) (empty : ∀ p, s.passage p = none) :
    s.book.arrivals = [] ∧ ∀ a, s.queue a = [] := by
  have arrivals : s.book.arrivals = [] := List.eq_nil_iff_forall_not_mem.2 fun p hp => by
    obtain ⟨q, hq, -⟩ := law.mem_arrivals.1 hp
    rw [empty] at hq
    cases hq
  refine ⟨arrivals, fun a => List.eq_nil_iff_forall_not_mem.2 fun p hp => ?_⟩
  obtain ⟨q, hq, -⟩ := law.mem_queue.1 hp
  rw [empty] at hq
  cases hq

theorem State.Held.empty_cells (law : s.Held) (empty : ∀ p, s.passage p = none) (c : CellId) :
    (s.cell c).holder = none ∧ (s.cell c).reservation = none := by
  obtain ⟨-, -, reserved, holders⟩ := law
  refine ⟨Option.eq_none_iff_forall_ne_some.2 fun p hp => ?_, Option.eq_none_iff_forall_ne_some.2 fun p hp => ?_⟩
  · obtain ⟨q, hq, -⟩ := (holders c p).1 hp
    rw [empty] at hq; cases hq
  · obtain ⟨q, hq, -⟩ := reserved c p hp
    rw [empty] at hq; cases hq

theorem State.countPassages_eq {which : Passage → Bool} (h : ∀ p q, s.passage p = some q → which q = true) :
    s.countPassages which = ((List.finRange 24).filter fun p => (s.passage p).isSome).length := by
  rw [State.countPassages, State.slotsWhere]
  refine congrArg List.length (List.filter_congr fun p _ => ?_)
  cases hq : s.passage p with
  | none => rfl
  | some q => simp [h p q hq]

/-- With no live passage in DRAINING or HALTED, OPEN_SERVICE flushes the pool and enters (R119). -/
theorem State.openService_idle {src : Node} (mode : s.control.mode = .draining ∨ s.control.mode = .halted)
    (idle : s.liveCount = 0) :
    s.openService src = ((s.flush fun q => q.state = .queued).enterService src,
      .done (.openService (s.countPassages fun q => q.state = .queued))) := by
  have none : ¬ 0 < s.liveCount := by omega
  rcases mode with mode | mode <;> simp only [State.openService, mode, if_neg none]

theorem State.openService_busy {src : Node} (mode : s.control.mode = .draining ∨ s.control.mode = .halted)
    (live : 0 < s.liveCount) : s.openService src = (s, .busy s.liveCount) := by
  rcases mode with mode | mode <;> simp only [State.openService, mode, if_pos live]

theorem State.openService_unmapped {src : Node} (mode : s.control.mode = .unmapped) :
    s.openService src = (s.enterService src, .done (.openService 0)) := by
  simp only [State.openService, mode]

theorem State.openService_service {src : Node} (mode : s.control.mode = .service) :
    s.openService src = (s.nameServiceNode src, .done (.openService 0)) := by
  simp only [State.openService, mode]

end

/-- Settles O54: the four modes of OPEN_SERVICE; the entry into SERVICE is one, behind a flush or not. -/
theorem openServiceByMode : Obligations.OpenServiceByMode := by
  intro hd s taken
  dsimp only
  refine ⟨fun unmapped => ?_, fun service => ?_, fun mode live => ?_, fun mode idle => ?_⟩
  · obtain ⟨f, -, done⟩ := taken.exec_eq exec_openService
    rw [State.openService_unmapped (s := s.readFrame f) unmapped] at done
    have entered := (s.readFrame f).enterService_enters hd.src
    have told := State.enterService_posted (s := s.readFrame f) (n := hd.src) (w := s) rfl (.done (.openService 0))
    generalize (s.readFrame f).enterService hd.src = t at *
    obtain ⟨-, -, -, -, -, book⟩ := id entered
    exact ⟨_, SparesRecords.rfl.opens entered told done, book⟩
  · obtain ⟨f, -, done⟩ := taken.exec_eq exec_openService
    rw [State.openService_service (s := s.readFrame f) service] at done
    exact ⟨_, done, State.answers_giveTail _ _, rfl⟩
  · refine taken.answers exec_openService fun f => ?_
    exact State.openService_busy (s := s.readFrame f) mode live
  · obtain ⟨f, -, done⟩ := taken.exec_eq exec_openService
    rw [State.openService_idle (s := s.readFrame f) mode idle] at done
    have queued : ∀ p q, (s.readFrame f).passage p = some q → q.state = .queued := fun p q hq =>
      State.live_of_liveCount (s := s) (by omega) hq
    have all : ∀ p q, (s.readFrame f).passage p = some q → decide (q.state = .queued) = true := fun p q hq =>
      decide_eq_true (queued p q hq)
    rw [State.countPassages_eq all] at done
    have spared := (s.readFrame f).flush_sparesRecords (fun q => q.state = .queued) queued
    have flushing := State.flush_flushing (fun q => q.state = .queued) (State.runsOwned_of_queued queued)
    have posted := State.flush_posted (State.runsOwned_of_queued queued) all
    have tends := (s.readFrame f).flush_tends fun q => q.state = .queued
    have empty : ∀ p, ((s.readFrame f).flush fun q => q.state = .queued).passage p = none := fun p =>
      State.flush_passage_none (all p)
    generalize (s.readFrame f).flush (fun q => q.state = .queued) = u at *
    have entered := u.enterService_enters hd.src
    have floor : u.timer.floor = s.timer.floor := congrArg Timer.floor spared.keeps.timer
    have told := posted.trans (State.enterService_posted (n := hd.src) floor
      (.done (.openService ((List.finRange 24).filter fun p => (s.passage p).isSome).length)))
    have core := u.enterService_sameCore hd.src
    generalize u.enterService hd.src = t at *
    obtain ⟨-, -, -, -, -, pool, -, -, marks⟩ := id entered
    have gone : ∀ p, t.passage p = none := fun p => (State.passage_congr pool p).trans (empty p)
    refine ⟨_, spared.opens entered told done, gone, flushing.marksFlushed empty marks, fun law => ?_⟩
    obtain ⟨lists, -, held⟩ := State.holderLaw_iff.1 law
    obtain ⟨-, lists⟩ := State.listLaw_iff.1 lists
    have whole := tends.trans core.tends
    obtain ⟨arrivals, queues⟩ := (whole.listed lists).empty_lists gone
    exact ⟨arrivals, queues, fun c => ((whole.held lists held).empty_cells gone c).2⟩

end Sys2Proof.Machine

namespace Sys2Proof.Machine

/-! ### RESTART -/

section
variable {s t u : State}

/-! #### The sensors -/

/-- What RESTART makes of the record of a cell and of its sensor, where no passage holds the cell (R99, R101, R128): a
cell that is not in use, and one that is in STANDBY and stays so, keep both. -/
def Returned (inUse : Bool) (initial : SensorMode) (floor : Time) (r : CellRec) (m : SensorRec) (r' : CellRec)
    (m' : SensorRec) : Prop :=
  (inUse = false ∨ initial = .standby ∧ m.mode = .standby → r' = r ∧ m' = m) ∧
  (inUse = true → initial = .standby → m.mode = .active →
    r' = { r with occupancy := .blind, heard := .blind, stamp := floor, intruded := false } ∧
    m' = { m with mode := .standby, count := 0 }) ∧
  (inUse = true → initial = .active →
    r' =
      { r with
        occupancy := .free, heard := .free, stamp := if r.occupancy = .free then r.stamp else floor
        intruded := r.intruded && decide (r.heard = .free) } ∧
    m' = { mode := .active, raw := .free, count := 0 })

/-- Away from OCCUPIED the Tracker clears the intruded flag of a cell that nobody holds (R59). -/
theorem State.takeChange_unheld {c : CellId} {occ : Occupancy} (free : (s.cell c).holder = none)
    (away : occ ≠ .occupied) (stamp : Time) :
    s.takeChange c occ stamp =
      (s.setCell c { s.cell c with heard := occ, intruded := false }, (s.cell c).intruded) := by
  unfold State.takeChange
  dsimp only
  rw [free]
  simp [away]

theorem State.setSensor_setSensor (s : State) (c : CellId) (m x : SensorRec) :
    (s.setSensor c m).setSensor c x = s.setSensor c x := by
  simp [State.setSensor]

/-- A filter restarts at FREE; the Tracker hears the cell go FREE unless it did before (R101). -/
theorem State.restartFilter_unheld {c : CellId} (free : (s.cell c).holder = none) :
    (s.restartFilter c).1 =
      (s.setCell c
        { s.cell c with
          occupancy := .free, heard := .free
          stamp := if (s.cell c).occupancy = .free then (s.cell c).stamp else s.timer.floor
          intruded := (s.cell c).intruded && decide ((s.cell c).heard = .free) }).setSensor c
        { s.sensor c with raw := .free, count := 0 } := by
  obtain ⟨u, hu⟩ : ∃ u, u = s.setSensor c { s.sensor c with raw := .free, count := 0 } := ⟨_, rfl⟩
  have cell : u.cell c = s.cell c := by rw [hu]; rfl
  have floor : u.timer.floor = s.timer.floor := by rw [hu]; rfl
  have swap : ∀ r, (s.setCell c r).setSensor c { s.sensor c with raw := .free, count := 0 } = u.setCell c r :=
    fun r => by rw [hu]; rfl
  rw [swap]
  unfold State.restartFilter
  dsimp only
  rw [← hu, cell, floor]
  split
  · rename_i heard
    refine congrArg (u.setCell c) ?_
    simp [heard]
  · rename_i heard
    rw [State.takeChange_unheld (by rw [State.cell_setCell, if_pos rfl]; exact free) (by exact nofun),
      State.cell_setCell, if_pos rfl, State.setCell_setCell]
    refine congrArg (u.setCell c) ?_
    simp [heard]

section
variable {floor : Time} {r : CellRec} {m : SensorRec}

theorem Returned.same {inUse : Bool} {initial : SensorMode}
    (h : inUse = false ∨ initial = .standby ∧ m.mode = .standby) : Returned inUse initial floor r m r m := by
  refine ⟨fun _ => ⟨rfl, rfl⟩, fun used standby active => ?_, fun used active => ?_⟩
  · rcases h with unused | ⟨-, mode⟩
    · rw [used] at unused; cases unused
    · rw [active] at mode; cases mode
  · rcases h with unused | ⟨standby, -⟩
    · rw [used] at unused; cases unused
    · rw [active] at standby; cases standby

/-- No holder, no reservation and no lock is written. -/
theorem Returned.kept {inUse : Bool} {initial : SensorMode} {r' : CellRec} {m' : SensorRec}
    (h : Returned inUse initial floor r m r' m') :
    r'.holder = r.holder ∧ r'.reservation = r.reservation ∧ r'.lock = r.lock := by
  obtain ⟨same, standby, active⟩ := h
  cases inUse with
  | false => rw [(same (.inl rfl)).1]; exact ⟨rfl, rfl, rfl⟩
  | true =>
    cases initial with
    | active => rw [(active rfl rfl).1]; exact ⟨rfl, rfl, rfl⟩
    | standby =>
      cases mode : m.mode with
      | active => rw [(standby rfl rfl mode).1]; exact ⟨rfl, rfl, rfl⟩
      | standby => rw [(same (.inr ⟨rfl, mode⟩)).1]; exact ⟨rfl, rfl, rfl⟩

/-- A sensor that ends in ACTIVE ends with its filter reset and its cell FREE. -/
theorem Returned.reset {initial : SensorMode} {r' : CellRec} {m' : SensorRec}
    (h : Returned true initial floor r m r' m') (ends : m'.mode = .active) :
    m' = { m' with raw := .free, count := 0 } ∧ r'.occupancy = .free ∧ r'.heard = .free := by
  obtain ⟨same, standby, active⟩ := h
  cases initial with
  | active =>
    obtain ⟨cell, sensor⟩ := active rfl rfl
    rw [cell, sensor]
    exact ⟨rfl, rfl, rfl⟩
  | standby =>
    cases mode : m.mode with
    | active => rw [(standby rfl rfl mode).2] at ends; cases ends
    | standby => rw [(same (.inr ⟨rfl, mode⟩)).2, mode] at ends; cases ends

theorem Returned.standby (active : m.mode = .active) :
    Returned true .standby floor r m { r with occupancy := .blind, heard := .blind, stamp := floor, intruded := false }
      { m with mode := .standby, count := 0 } := by
  refine ⟨fun h => ?_, fun _ _ _ => ⟨rfl, rfl⟩, fun _ => nofun⟩
  rcases h with h | ⟨-, h⟩
  · cases h
  · rw [active] at h; cases h

theorem Returned.active :
    Returned true .active floor r m
      { r with
        occupancy := .free, heard := .free, stamp := if r.occupancy = .free then r.stamp else floor
        intruded := r.intruded && decide (r.heard = .free) }
      { mode := .active, raw := .free, count := 0 } := by
  refine ⟨fun h => ?_, fun _ => nofun, fun _ _ => ⟨rfl, rfl⟩⟩
  rcases h with h | ⟨h, -⟩ <;> cases h

end

/-- A cell goes to STANDBY and reads BLIND from now on (R99). -/
theorem State.toStandby_unheld {c : CellId} (free : (s.cell c).holder = none) :
    (s.toStandby c).1 =
      (s.setCell c
        { s.cell c with occupancy := .blind, heard := .blind, stamp := s.timer.floor, intruded := false }).setSensor c
        { s.sensor c with mode := .standby, count := 0 } := by
  obtain ⟨u, hu⟩ : ∃ u, u = s.setSensor c { s.sensor c with mode := .standby, count := 0 } := ⟨_, rfl⟩
  have cell : u.cell c = s.cell c := by rw [hu]; rfl
  have floor : u.timer.floor = s.timer.floor := by rw [hu]; rfl
  have swap : ∀ r, (s.setCell c r).setSensor c { s.sensor c with mode := .standby, count := 0 } = u.setCell c r :=
    fun r => by rw [hu]; rfl
  rw [swap]
  unfold State.toStandby
  dsimp only
  rw [← hu, cell, floor, State.takeChange_unheld (by rw [State.cell_setCell, if_pos rfl]; exact free) (by exact nofun),
    State.cell_setCell, if_pos rfl, State.setCell_setCell]

theorem State.toActive_unheld {c : CellId} (free : (s.cell c).holder = none) :
    (s.toActive c).1 =
      (s.setCell c
        { s.cell c with
          occupancy := .free, heard := .free
          stamp := if (s.cell c).occupancy = .free then (s.cell c).stamp else s.timer.floor
          intruded := (s.cell c).intruded && decide ((s.cell c).heard = .free) }).setSensor c
        { mode := .active, raw := .free, count := 0 } := by
  have restarted := State.restartFilter_unheld (s := s.setSensor c { s.sensor c with mode := .active }) (c := c) free
  refine Eq.trans restarted ?_
  rw [State.sensor_setSensor, if_pos rfl]
  exact State.setSensor_setSensor (s.setCell c _) c _ _

/-- RESTART takes one sensor back to the mode of the map (R128). -/
theorem State.returnSensor_does {c : CellId} (free : (s.cell c).holder = none) :
    ∃ r m, s.returnSensor c = (s.setCell c r).setSensor c m ∧
      Returned s.map.working.cells[c].inUse s.map.working.cells[c].sensor s.timer.floor (s.cell c) (s.sensor c) r m := by
  have same : s = (s.setCell c (s.cell c)).setSensor c (s.sensor c) := by
    rw [State.setCell_self, State.setSensor_self]
  unfold State.returnSensor
  cases used : s.cellInUse c with
  | false =>
    have unused : s.map.working.cells[c].inUse = false := used
    exact ⟨_, _, same, .same (.inl unused)⟩
  | true =>
    have used : s.map.working.cells[c].inUse = true := used
    rw [used]
    cases mode : (s.sensor c).mode <;> cases initial : s.map.working.cells[c].sensor
    · have active : ({ s.sensor c with raw := .free, count := 0 } : SensorRec) =
          { mode := .active, raw := .free, count := 0 } := by rw [← mode]
      exact ⟨_, _, active ▸ State.restartFilter_unheld free, .active⟩
    · exact ⟨_, _, State.toStandby_unheld free, .standby mode⟩
    · exact ⟨_, _, State.toActive_unheld free, .active⟩
    · exact ⟨_, _, same, .same (.inr ⟨rfl, mode⟩)⟩

/-- RESTART takes every sensor back, and writes nothing but the records of cells and sensors (R128). -/
theorem State.returnAll_does (free : ∀ c, (s.cell c).holder = none) :
    ∃ cells sensors, (List.finRange 32).foldl State.returnSensor s =
        { s with book := { s.book with cells := cells }, scanner := { s.scanner with sensors := sensors } } ∧
      ∀ c : CellId, Returned s.map.working.cells[c].inUse s.map.working.cells[c].sensor s.timer.floor (s.cell c)
        (s.sensor c) cells[c] sensors[c] := by
  have each : ∀ (l : List CellId) (u : State), l.Nodup → u.map = s.map → u.timer = s.timer →
      (∀ c, (u.cell c).holder = none) → (∀ c ∈ l, u.cell c = s.cell c ∧ u.sensor c = s.sensor c) →
      ∃ cells sensors, l.foldl State.returnSensor u =
          { u with book := { u.book with cells := cells }, scanner := { u.scanner with sensors := sensors } } ∧
        ∀ c : CellId, (c ∈ l → Returned s.map.working.cells[c].inUse s.map.working.cells[c].sensor s.timer.floor
          (s.cell c) (s.sensor c) cells[c] sensors[c]) ∧ (c ∉ l → cells[c] = u.cell c ∧ sensors[c] = u.sensor c) := by
    intro l
    induction l with
    | nil => exact fun u _ _ _ _ _ => ⟨u.book.cells, u.scanner.sensors, rfl, fun c => ⟨nofun, fun _ => ⟨rfl, rfl⟩⟩⟩
    | cons d rest ih =>
      intro u nodup map timer free same
      obtain ⟨notMem, nodup⟩ := List.nodup_cons.1 nodup
      obtain ⟨r, m, does, returned⟩ := State.returnSensor_does (free d)
      obtain ⟨cell, sensor⟩ := same d (List.mem_cons_self ..)
      rw [map, timer, cell, sensor] at returned
      have cell' : ∀ c, ((u.setCell d r).setSensor d m).cell c = if d = c then r else u.cell c :=
        fun c => State.cell_setCell ..
      have sensor' : ∀ c, ((u.setCell d r).setSensor d m).sensor c = if d = c then m else u.sensor c :=
        fun c => State.sensor_setSensor (u.setCell d r) ..
      have other : ∀ {c}, c ∈ rest → d ≠ c := fun mem e => notMem (e ▸ mem)
      have free' : ∀ c, (((u.setCell d r).setSensor d m).cell c).holder = none := fun c => by
        rw [cell']
        split
        · rename_i e
          exact (returned.kept.1).trans ((congrArg CellRec.holder cell.symm).trans (free d))
        · exact free c
      obtain ⟨cells, sensors, eq, all⟩ := ih ((u.setCell d r).setSensor d m) nodup map timer free' fun c mem => by
        obtain ⟨sameCell, sameSensor⟩ := same c (List.mem_cons_of_mem _ mem)
        rw [cell', sensor', if_neg (other mem), if_neg (other mem)]
        exact ⟨sameCell, sameSensor⟩
      refine ⟨cells, sensors, ?_, fun c => ⟨fun mem => ?_, fun mem => ?_⟩⟩
      · rw [List.foldl_cons, does, eq]
        rfl
      · rcases List.mem_cons.1 mem with rfl | mem
        · obtain ⟨left, left'⟩ := (all c).2 notMem
          rw [left, left', cell', sensor', if_pos rfl, if_pos rfl]
          exact returned
        · exact (all c).1 mem
      · have first : d ≠ c := fun e => mem (e ▸ List.mem_cons_self ..)
        obtain ⟨left, left'⟩ := (all c).2 fun h => mem (List.mem_cons_of_mem _ h)
        rw [left, left', cell', sensor', if_neg first, if_neg first]
        exact ⟨rfl, rfl⟩
  obtain ⟨cells, sensors, eq, all⟩ := each (List.finRange 32) s (List.nodup_finRange 32) rfl rfl free
    fun _ _ => ⟨rfl, rfl⟩
  exact ⟨cells, sensors, eq, fun c => (all c).1 (List.mem_finRange c)⟩

/-! #### The entry into SETTLING -/

/-- What leads from the sensors set up to the state whose mode is announced, the pool being empty. -/
structure Settles (s t : State) : Prop where
  cells : KeepsCells s t
  outer : KeepsOuter s t
  core : SameCore s t
  marks : t.marks = s.marks
  signals : ∀ a, t.signal a = s.signal a ∨ t.signal a = (s.signal a).latched .stop

theorem State.setControl_settles (s : State) (c : Control) : Settles s (s.setControl c) :=
  ⟨s.setControl_keepsCells c, s.setControl_keepsOuter c, s.setControl_sameCore c, rfl, fun _ => .inl rfl⟩

theorem State.stopLatches_marks (s : State) : s.stopLatches.marks = s.marks := by
  have each : ∀ (l : List ApproachId) (u : State), (l.foldl (fun s a => s.setLatch a .stop) u).marks = u.marks := by
    intro l
    induction l with
    | nil => exact fun _ => rfl
    | cons a rest ih => exact fun u => (ih _).trans (u.setLatch_marks a .stop)
  exact each _ s

theorem State.halt_settles (s : State) (prior : PriorMode) (causes : HaltCauses) :
    Settles s (s.halt prior causes) := by
  refine ⟨s.halt_keepsCells prior causes, s.halt_keepsOuter prior causes, s.halt_sameCore prior causes, ?_,
    fun a => .inr ?_⟩
  · rw [State.halt, State.stopLatches_marks, State.modLiveDeadlines_marks]
    rfl
  · rw [State.halt, State.stopLatches_signal]
    exact congrArg (fun r : SignalRec => r.latched .stop) (State.signal_congr (by simp) a)

theorem State.settled_settles (s : State) : Settles s s.settled := by
  refine ⟨s.settled_keepsCells, s.settled_keepsOuter, ?_, ?_, fun a => ?_⟩
  · unfold State.settled
    dsimp only
    split
    · exact s.setControl_sameCore _
    · exact (s.setControl_sameCore _).trans (State.halt_sameCore _ _ _)
  · unfold State.settled
    dsimp only
    split
    · rfl
    · exact (State.halt_settles (s.setControl _) _ _).marks
  · unfold State.settled
    dsimp only
    split
    · exact .inl rfl
    · exact (State.halt_settles (s.setControl _) _ _).signals a

end

end Sys2Proof.Machine

namespace Sys2Proof.Machine

section
variable {s t u : State}

/-! #### The command -/

/-- The pool flushed and every sensor taken back (R128). -/
def State.returned (s : State) : State := (List.finRange 32).foldl State.returnSensor (s.flush fun _ => true)

/-- The Mode Controller after RESTART, before its MODE notice (R128): HALTED with prior mode SETTLING, or the entry into
SETTLING. -/
def State.resettled (s : State) : State :=
  if s.control.mode = .halted then
    s.setControl { s.control with prior := .settling, settleCount := 0, risesDue := 0 }
  else s.settled

theorem State.restart_eq (reset : s.returned.restartFilters = s.returned) :
    s.restart = (s.returned.resettled.postMode,
      .done (.restart (s.countPassages fun _ => true) s.returned.resettled.postMode.control.mode)) := by
  have ends : (if s.returned.control.mode = .halted then
      (s.returned.setControl { s.returned.control with prior := .settling, settleCount := 0, risesDue := 0 }).postMode
      else s.returned.enterSettling) = s.returned.resettled.postMode := by
    rw [State.resettled, State.enterSettling_eq reset]
    split <;> rfl
  have fold : (List.finRange 32).foldl State.returnSensor (s.flush fun _ => true) = s.returned := rfl
  unfold State.restart
  dsimp only
  rw [fold, ends]

theorem State.resettled_settles (s : State) : Settles s s.resettled := by
  unfold State.resettled
  split
  · exact s.setControl_settles _
  · exact s.settled_settles

theorem SignalRec.latched_fault (r : SignalRec) (l : Latch) : (r.latched l).fault = r.fault := by
  unfold SignalRec.latched
  by_cases h : r.latch = l <;> simp [h]

theorem SignalRec.latched_of_latch {r : SignalRec} {l : Latch} (h : r.latch = l) : r.latched l = r := by
  rw [SignalRec.latched]
  exact if_pos h

/-- Where RESTART has come, before its MODE notice, from a state that meets the laws of holding. -/
structure RestartsTo (s x : State) : Prop where
  outer : KeepsOuter s x
  posted : Posted s x (flushNotices s)
  pool : ∀ p, x.passage p = none
  lists : x.book.arrivals = [] ∧ ∀ a, x.queue a = []
  holding : ∀ c, (x.cell c).holder = none ∧ (x.cell c).reservation = none ∧
    (x.cell c).lock = if (s.cell c).lock = .pending ∧ (s.cell c).holder ≠ none then .locked else (s.cell c).lock
  sensing : ∀ c : CellId, ∃ r : CellRec, r.occupancy = (s.cell c).occupancy ∧ r.heard = (s.cell c).heard ∧
    r.stamp = (s.cell c).stamp ∧
    r.intruded = ((s.cell c).intruded || (decide ((s.cell c).holder ≠ none) && decide ((s.cell c).heard = .occupied))) ∧
    Returned s.map.working.cells[c].inUse s.map.working.cells[c].sensor s.timer.floor r (s.sensor c) (x.cell c)
      (x.sensor c)
  scanner : x.scanner = { s.scanner with sensors := x.scanner.sensors }
  signals : ∀ a, x.signal a = s.signal a ∨ x.signal a = (s.signal a).latched .stop
  latches : s.LatchLaw → ∀ a, (x.signal a).latch = .stop
  marks : MarksFlushed s x
  control : x.control =
    if s.control.mode = .halted then { s.control with prior := .settling, settleCount := 0, risesDue := 0 }
    else if s.heldCauses = .empty then
      { s.control with mode := .settling, causes := .empty, settleCount := 0, risesDue := 0 }
    else { s.control with
      mode := .halted, prior := .settling, causes := s.heldCauses, settleCount := 0, risesDue := 0 }

theorem State.heldCauses_congr (control : t.control = s.control)
    (fault : ∀ a, (t.signal a).fault = (s.signal a).fault) : t.heldCauses = s.heldCauses := by
  have any : t.anyFault = s.anyFault := by
    rw [State.anyFault_eq, State.anyFault_eq]
    simp only [fault]
  rw [State.heldCauses, State.heldCauses, control, any]

/-- The sensors are all back, with nothing else changed than the records of cells and sensors (R128). -/
structure SensorsReturned (s t : State) : Prop where
  outer : KeepsOuter s t
  tx : SameTx s t
  control : t.control = s.control
  signals : t.signals = s.signals
  marks : t.marks = s.marks
  scanner : t.scanner = { s.scanner with sensors := t.scanner.sensors }
  pool : t.book.pool = s.book.pool
  lists : t.book.arrivals = s.book.arrivals ∧ t.book.queues = s.book.queues
  records : ∀ c : CellId, Returned s.map.working.cells[c].inUse s.map.working.cells[c].sensor s.timer.floor (s.cell c)
    (s.sensor c) (t.cell c) (t.sensor c)

theorem State.sensorsReturned (free : ∀ c, (s.cell c).holder = none) :
    SensorsReturned s ((List.finRange 32).foldl State.returnSensor s) := by
  obtain ⟨cells, sensors, eq, records⟩ := State.returnAll_does free
  rw [eq]
  exact ⟨⟨rfl, id⟩, ⟨rfl, rfl, rfl⟩, rfl, rfl, rfl, rfl, rfl, ⟨rfl, rfl⟩, records⟩

/-- The filters are reset, so the entry into SETTLING restarts none (R102). -/
theorem SensorsReturned.reset (h : SensorsReturned s t) : t.restartFilters = t := by
  refine State.restartFilters_of_reset fun c inUse active => ?_
  have used : s.map.working.cells[c].inUse = true := by
    rw [← h.outer.map]
    exact inUse
  have one := h.records c
  rw [used] at one
  exact one.reset active

theorem State.resettled_control (v : State) :
    v.resettled.control =
      if v.control.mode = .halted then { v.control with prior := .settling, settleCount := 0, risesDue := 0 }
      else if v.heldCauses = .empty then
        { v.control with mode := .settling, causes := .empty, settleCount := 0, risesDue := 0 }
      else { v.control with
        mode := .halted, prior := .settling, causes := v.heldCauses, settleCount := 0, risesDue := 0 } := by
  unfold State.resettled
  split
  · rfl
  · exact v.settled_control

theorem CellRec.SameHolding.of_free {r x : CellRec} (h : r.SameHolding x) (free : x.holder = none) :
    x.lock = (if r.lock = .pending ∧ r.holder ≠ none then .locked else r.lock) ∧
      x.intruded = (r.intruded || (decide (r.holder ≠ none) && decide (r.heard = .occupied))) := by
  rcases h with ⟨holder, lock, intruded⟩ | ⟨held, -, lock, intruded⟩
  · rw [free] at holder
    rw [lock, intruded, ← holder]
    simp
  · rw [lock, intruded]
    simp [CellRec.freed, held]

/-- With no passage left, a latch that follows its GRANTED passage is at STOP. -/
theorem Flushing.stopped (h : Flushing s u) (law : s.LatchLaw) (empty : ∀ p, u.passage p = none) (a : ApproachId) :
    (u.signal a).latch = .stop := by
  cases latch : (u.signal a).latch with
  | stop => rfl
  | go =>
    obtain ⟨p, q, hq, -⟩ := h.go (fun a ha => (law a ha).2) a latch
    rw [empty] at hq
    cases hq

theorem Flushing.restartsTo {v : State} (h : Flushing s u) (posted : Posted s u (flushNotices s))
    (empty : ∀ p, u.passage p = none) (cells : ∀ c, (u.cell c).holder = none ∧ (u.cell c).reservation = none)
    (lists : u.book.arrivals = [] ∧ ∀ a, u.queue a = []) (back : SensorsReturned u v) :
    RestartsTo s v.resettled := by
  obtain ⟨⟨tx, scanner, sameCells⟩, outer, core, marks, signals⟩ := v.resettled_settles
  have gone : ∀ p, v.passage p = none := fun p => (State.passage_congr back.pool p).trans (empty p)
  have cell : ∀ c, v.resettled.cell c = v.cell c := State.cell_congr sameCells
  have sensor : ∀ c, v.resettled.sensor c = v.sensor c := fun c => congrArg (fun x : Scanner => x.sensors[c]) scanner
  have signal : ∀ a, v.signal a = u.signal a := State.signal_congr back.signals
  have control : v.control = s.control := back.control.trans h.keeps.control
  have either : ∀ a, v.resettled.signal a = s.signal a ∨ v.resettled.signal a = (s.signal a).latched .stop := fun a => by
    rcases signals a with e | e <;> rw [e, signal] <;> rcases h.signals a with e' | e' <;> rw [e']
    · exact .inl (.refl _)
    · exact .inr (.refl _)
    · exact .inr (.refl _)
    · exact .inr (SignalRec.latched_latched _ _)
  have map : u.map = s.map := h.keeps.map
  refine ⟨h.keeps.weaken.trans (back.outer.trans outer), (posted.thenSame back.tx).thenSame tx,
    fun p => core.passage_none (gone p), ⟨core.arrivals.trans (back.lists.1.trans lists.1), fun a => ?_⟩, fun c => ?_,
    fun c => ?_, ?_, either, fun law a => ?_, ?_, ?_⟩
  · have queue : v.resettled.queue a = u.queue a := by
      rw [State.queue, State.queue, core.queues, back.lists.2]
    exact queue.trans (lists.2 a)
  · obtain ⟨holder, reservation, lock⟩ := (back.records c).kept
    obtain ⟨free, open'⟩ := cells c
    rw [cell, holder, reservation, lock]
    exact ⟨free, open', ((h.holding c).of_free free).1⟩
  · obtain ⟨occupancy, heard, stamp⟩ := h.sensed c
    have one := back.records c
    have sensed : u.sensor c = s.sensor c := congrArg (fun x : Scanner => x.sensors[c]) h.keeps.2.2.1
    rw [map, h.keeps.timer, sensed, ← cell, ← sensor] at one
    exact ⟨u.cell c, occupancy, heard, stamp, ((h.holding c).of_free (cells c).1).2, one⟩
  · rw [scanner, back.scanner, h.keeps.2.2.1]
  · have stop := h.stopped law empty a
    rcases signals a with e | e
    · rw [e, signal, stop]
    · rw [e, SignalRec.latched_latch]
  · exact h.marksFlushed empty (marks.trans back.marks)
  · have held : v.heldCauses = s.heldCauses := State.heldCauses_congr control fun a => by
      rw [signal]
      rcases h.signals a with e | e
      · rw [e]
      · rw [e, SignalRec.latched_fault]
    rw [State.resettled_control, control, held]

/-- RESTART on a book that meets the laws of holding. -/
theorem State.restart_does (law : s.HolderLaw) :
    ∃ x, RestartsTo s x ∧
      s.restart = (x.postMode, .done (.restart (s.countPassages fun _ => true) x.postMode.control.mode)) := by
  obtain ⟨lists, -, held⟩ := State.holderLaw_iff.1 law
  obtain ⟨-, lists⟩ := State.listLaw_iff.1 lists
  have all : ∀ p q, s.passage p = some q → (fun _ : Passage => true) q = true := fun _ _ _ => rfl
  have tends := s.flush_tends fun _ => true
  have empty : ∀ p, (s.flush fun _ => true).passage p = none := fun p => State.flush_passage_none (all p)
  have cells := (tends.held lists held).empty_cells empty
  have back := State.sensorsReturned fun c => (cells c).1
  exact ⟨s.returned.resettled, (State.flush_flushing (fun _ => true) held.runsOwned).restartsTo
    (State.flush_posted held.runsOwned all) empty cells ((tends.listed lists).empty_lists empty) back,
    State.restart_eq back.reset⟩

variable {hd : FrameHead}

theorem exec_restart : exec (.restart hd) s = onFrame (.restart hd) s fun u => u.restart := rfl

/-- The halt causes of RESTART, where the causes law holds (R116, R128). -/
theorem State.heldCauses_of_law (law : s.CausesLaw) (mode : s.control.mode ≠ .halted) :
    s.heldCauses =
      { haltPulse := false, estop := s.control.emergency.asserted, lineStuck := false
        signalFault := decide (∃ a, (s.signal a).fault = true) } := by
  rw [State.heldCauses, law mode, State.anyFault_eq]
  simp [HaltCauses.empty]

end

/-- Settles O53: RESTART is a flush, the return of the sensors one by one, the Mode Controller's change and its MODE
notice, none of which undoes what an earlier one did. -/
theorem restartClearsTheBook : Obligations.RestartClearsTheBook := by
  intro hd s taken law causes
  dsimp only
  obtain ⟨f, -, done⟩ := taken.exec_eq exec_restart
  obtain ⟨x, restarts, eq⟩ := State.restart_does (s := s.readFrame f) law
  rw [eq, State.countPassages_eq fun _ _ _ => rfl] at done
  obtain ⟨outer, posted, pool, ⟨arrivals, queues⟩, holding, sensing, scanner, signals, latches, marks, control⟩ := restarts
  have floor : x.timer.floor = s.timer.floor := congrArg Timer.floor outer.timer
  have told := posted.trans (State.postMode_posted_answer floor
    (.done (.restart ((List.finRange 24).filter fun p => (s.passage p).isSome).length x.postMode.control.mode)))
  obtain ⟨keeps, book, marks', signals'⟩ := x.postMode_keepsBook
  obtain ⟨-, map, timer, scanner', control', decoder, pending, error, -⟩ := keeps.sameOutside
  have power := keeps.power
  have kept : x.scanner.ms = s.scanner.ms ∧ x.scanner.cycles = s.scanner.cycles ∧
      x.scanner.period = s.scanner.period := by
    rw [scanner]
    exact ⟨rfl, rfl, rfl⟩
  obtain ⟨ms, cycles, period⟩ := kept
  generalize x.postMode = t at *
  have cell : ∀ c, t.cell c = x.cell c := State.cell_congr (congrArg Book.cells book)
  have signal : ∀ a, t.signal a = x.signal a := State.signal_congr signals'
  have sensor : ∀ c, t.sensor c = x.sensor c := fun c => congrArg (fun v : Scanner => v.sensors[c]) scanner'
  refine ⟨_, done, State.answers_giveTail _ _, fun p => (State.passage_congr (congrArg Book.pool book) p).trans (pool p),
    (congrArg Book.arrivals book).trans arrivals, fun a => ?_, fun c => ?_, fun latchLaw a => ?_, fun a => ?_, told.posts,
    fun c => ?_, fun halted => ?_, fun open' none => ?_, fun open' some => ?_, fun a => ?_, map.trans outer.map,
    timer.trans outer.timer, decoder.trans outer.decoder, error.trans outer.error, power.trans outer.power,
    pending.trans outer.pending, ?_, ?_, ?_⟩
  · refine Eq.trans ?_ (queues a)
    exact congrArg (fun b : Book => b.queues[a]) book
  · rw [State.cell_giveTail, cell]
    exact holding c
  · have stop := latches latchLaw a
    refine ⟨(congrArg SignalRec.latch (signal a)).trans stop, (signal a).trans ?_⟩
    rcases signals a with e | e
    · rw [e] at stop ⊢
      exact (SignalRec.latched_of_latch stop).symm
    · exact e
  · have same := marks a
    rw [← marks'] at same
    exact same
  · obtain ⟨r, occupancy, heard, stamp, intruded, asIs, standby, active⟩ := sensing c
    rw [State.cell_giveTail, State.sensor_giveTail, cell, sensor]
    refine ⟨fun h => ?_, fun inUse initial mode => ?_, fun inUse initial => ?_⟩
    · obtain ⟨record, sensor⟩ := asIs h
      rw [record, sensor]
      exact ⟨rfl, occupancy, heard, stamp, intruded⟩
    · obtain ⟨record, sensor⟩ := standby inUse initial mode
      rw [record, sensor]
      exact ⟨rfl, rfl, rfl, rfl, rfl⟩
    · obtain ⟨record, sensor⟩ := active inUse initial
      rw [record, sensor]
      refine ⟨rfl, rfl, rfl, ?_, ?_⟩
      · dsimp only
        rw [occupancy, stamp]
        rfl
      · dsimp only
        rw [intruded, heard]
        rfl
  · exact control'.trans (control.trans (if_pos halted))
  · have held : (s.readFrame f).heldCauses = .empty := (State.heldCauses_of_law (s := s) causes open').trans none
    have empty := causes open'
    refine (control'.trans (control.trans ((if_neg open').trans (if_pos held)))).trans ?_
    change ({ s.control with mode := .settling, causes := .empty, settleCount := 0, risesDue := 0 } : Control) = _
    rw [← empty]
  · have held : (s.readFrame f).heldCauses = _ := State.heldCauses_of_law (s := s) causes open'
    refine (control'.trans (control.trans ((if_neg open').trans (if_neg ?_)))).trans ?_
    · rw [held]; exact some
    · rw [held]; rfl
  · refine (congrArg SignalRec.fault (signal a)).trans ?_
    rcases signals a with e | e
    · rw [e]; rfl
    · rw [e, SignalRec.latched_fault]; rfl
  · exact (congrArg Scanner.ms scanner').trans ms
  · exact (congrArg Scanner.cycles scanner').trans cycles
  · exact (congrArg Scanner.period scanner').trans period

end Sys2Proof.Machine

namespace Sys2Proof.Machine

/-! ### What a release examination does -/

/-! #### The count of the cells released -/

section
variable {heard : CellId → Occupancy} {pos i : Nat} {cells rest : List CellId} {c : CellId}

theorem head_of_drop (h : cells.drop i = c :: rest) : cells[i]? = some c ∧ cells.drop (i + 1) = rest := by
  have first : (cells.drop i)[0]? = some c := by rw [h]; rfl
  rw [List.getElem?_drop] at first
  refine ⟨first, ?_⟩
  rw [← List.drop_drop, h]
  rfl

/-- What holds from a route index on holds for the cells of the run that begins there. -/
theorem forall_from_iff {P : CellId → Prop} :
    (∀ x d, i ≤ x → cells[x]? = some d → P d) ↔ ∀ d ∈ cells.drop i, P d := by
  constructor
  · intro h d mem
    obtain ⟨n, hn⟩ := List.mem_iff_getElem?.1 mem
    rw [List.getElem?_drop] at hn
    exact h _ d (Nat.le_add_right ..) hn
  · intro h x d le hd
    refine h d (List.mem_iff_getElem?.2 ⟨x - i, ?_⟩)
    rw [List.getElem?_drop, Nat.add_sub_cancel' le]
    exact hd

theorem not_meetsRelease_of_end (h : cells.drop i = []) : ¬ MeetsRelease heard pos cells i := by
  rintro ⟨j, c, le, hj, -⟩
  have short := List.drop_eq_nil_iff.1 h
  have long := (List.getElem?_eq_some_iff.1 hj).1
  omega

theorem not_meetsRelease_of_occupied (hc : cells[i]? = some c) (occupied : heard c = .occupied) :
    ¬ MeetsRelease heard pos cells i := by
  rintro ⟨j, d, le, hj, free, before, -⟩
  rcases Nat.lt_or_eq_of_le le with lt | rfl
  · rw [before i c (Nat.le_refl i) lt hc] at occupied
    cases occupied
  · cases hc.symm.trans hj
    rw [free] at occupied
    cases occupied

/-- A FREE cell decides for itself. -/
theorem meetsRelease_of_free (hc : cells[i]? = some c) (free : heard c = .free) :
    MeetsRelease heard pos cells i ↔ i < pos ∨ i = pos ∧ ∀ d ∈ cells.drop (i + 1), heard d = .blind := by
  rw [← forall_from_iff]
  constructor
  · rintro ⟨j, d, le, hj, -, before, place⟩
    rcases Nat.lt_or_eq_of_le le with lt | rfl
    · rw [before i c (Nat.le_refl i) lt hc] at free
      cases free
    · exact place.imp_right fun ⟨at_pos, blind⟩ => ⟨at_pos, fun x d hx => blind x d hx⟩
  · exact fun place => ⟨i, c, Nat.le_refl i, hc, free, fun x d h1 h2 => by omega,
      place.imp_right fun ⟨at_pos, blind⟩ => ⟨at_pos, fun x d hx => blind x d hx⟩⟩

/-- A BLIND cell leaves the decision to those after it. -/
theorem meetsRelease_of_blind (hc : cells[i]? = some c) (blind : heard c = .blind) :
    MeetsRelease heard pos cells i ↔ MeetsRelease heard pos cells (i + 1) := by
  constructor
  · rintro ⟨j, d, le, hj, free, before, place⟩
    rcases Nat.lt_or_eq_of_le le with lt | rfl
    · exact ⟨j, d, lt, hj, free, fun x e h1 h2 => before x e (by omega) h2, place⟩
    · cases hc.symm.trans hj
      rw [free] at blind
      cases blind
  · rintro ⟨j, d, le, hj, free, before, place⟩
    refine ⟨j, d, by omega, hj, free, fun x e h1 h2 he => ?_, place⟩
    rcases Nat.lt_or_eq_of_le h1 with lt | rfl
    · exact before x e lt h2 he
    · cases hc.symm.trans he
      exact blind

/-- The check of the model is R68's condition. -/
theorem meetsCondition_iff (l : List CellId) : ∀ i, cells.drop i = l →
    (meetsCondition heard pos i l = true ↔ MeetsRelease heard pos cells i) := by
  induction l with
  | nil =>
    intro i h
    simp [meetsCondition, not_meetsRelease_of_end h]
  | cons c rest ih =>
    intro i h
    obtain ⟨hc, tail⟩ := head_of_drop h
    unfold meetsCondition
    cases reads : heard c with
    | occupied => simp [not_meetsRelease_of_occupied hc reads]
    | free => simp [meetsRelease_of_free hc reads, tail]
    | blind =>
      rw [meetsRelease_of_blind hc reads]
      exact ih (i + 1) tail

/-- The count of the model is that of R67: each cell meets its condition in turn, and the next one does not. -/
theorem frontCount_meets (l : List CellId) : ∀ i, cells.drop i = l →
    (∀ x, x < frontCount heard pos i l → MeetsRelease heard pos cells (i + x)) ∧
      ¬ MeetsRelease heard pos cells (i + frontCount heard pos i l) := by
  induction l with
  | nil => exact fun i h => ⟨nofun, not_meetsRelease_of_end h⟩
  | cons c rest ih =>
    intro i h
    have condition := meetsCondition_iff (heard := heard) (pos := pos) _ i h
    obtain ⟨-, tail⟩ := head_of_drop h
    obtain ⟨each, stops⟩ := ih (i + 1) tail
    unfold frontCount
    by_cases meets : meetsCondition heard pos i (c :: rest) = true
    · rw [if_pos meets, Nat.add_comm _ 1, ← Nat.add_assoc]
      refine ⟨fun x hx => ?_, stops⟩
      cases x with
      | zero => exact condition.1 meets
      | succ x =>
        have := each x (by omega)
        rwa [Nat.add_assoc, Nat.add_comm 1 x] at this
    · rw [if_neg meets]
      exact ⟨nofun, fun h => meets (condition.2 h)⟩

/-- Nothing stands on a cell that is released. -/
theorem frontCount_unoccupied (l : List CellId) :
    ∀ i, ∀ c ∈ l.take (frontCount heard pos i l), heard c ≠ .occupied := by
  induction l with
  | nil => exact fun i c mem => by simp [frontCount] at mem
  | cons d rest ih =>
    intro i c mem
    unfold frontCount at mem
    by_cases meets : meetsCondition heard pos i (d :: rest) = true
    · rw [if_pos meets, List.take_succ_cons] at mem
      rcases List.mem_cons.1 mem with rfl | mem
      · intro occupied
        simp [meetsCondition, occupied] at meets
      · exact ih (i + 1) c mem
    · rw [if_neg meets] at mem
      cases mem

end

/-! #### The releases -/

section
variable {s t u v : State} {p : Slot} {q : Passage} {c : CellId} {l m : List CellId} {x y : Option Passage}

/-- The held run of a passage whose first held index has moved up. -/
theorem State.heldRun_moved {r : Passage} {n : Nat} (working : t.map.working = s.map.working)
    (route : r.route = q.route) (live : q.live = true) (state : r.state = q.state) (first : r.firstHeld = q.firstHeld + n) :
    t.heldRun r = (s.heldRun q).drop n := by
  rw [State.heldRun_of_live ((Passage.live_congr state).trans live), State.heldRun_of_live live,
    State.cellsOf_congr working route, first, List.drop_drop]

theorem CellRec.freed_of_unoccupied {r : CellRec} (h : r.heard ≠ .occupied) : r.freed = r.released := by
  simp [CellRec.freed, CellRec.released, h]

theorem lockNotices_congr (cells : ∀ c ∈ l, (t.cell c).lock = (s.cell c).lock) (map : t.map = s.map)
    (timer : t.timer = s.timer) : lockNotices t l = lockNotices s l := by
  refine List.flatMap_congr fun c mem => ?_
  rw [cells c mem, toSafety, toSafety, State.safetySlot, State.safetySlot, map, lockedNotice, lockedNotice, timer]

theorem State.release_posts_lock (unoccupied : (s.cell c).heard ≠ .occupied) :
    Posted s (s.release p q c) (lockNotices s [c]) := by
  refine (s.release_posted p q c).of_eq ?_
  have quiet : ¬ ((s.cell c).heard = .occupied ∧ (s.cell c).intruded = false) := fun h => unoccupied h.1
  rw [releaseNotices, if_neg quiet, List.append_nil, lockNotices, List.flatMap_singleton]

/-- An examination posts the LOCKED notices of the cells it releases. -/
theorem State.releaseFront_posted (pos : Nat) (l : List CellId) : ∀ (i : Nat) (s : State) (q : Passage),
    s.passage p = some q → l.Nodup →
      Posted s (State.releaseFront p pos i l s).1 (lockNotices s (l.take (frontCount s.heard pos i l))) := by
  induction l with
  | nil => exact fun i s q hq nodup => .rfl
  | cons c rest ih =>
    intro i s q hq nodup
    obtain ⟨new, nodup⟩ := List.nodup_cons.1 nodup
    by_cases meets : meetsCondition s.heard pos i (c :: rest) = true
    · have step := State.releaseStep_keepsBook hq c i
      have unoccupied : (s.cell c).heard ≠ .occupied := fun occupied => by
        have reads : s.heard c = .occupied := occupied
        simp [meetsCondition, reads] at meets
      have first : Posted s ((s.release p q c).modPassage p fun q => { q with firstHeld := i + 1 })
          (lockNotices s [c]) :=
        (State.release_posts_lock unoccupied).thenSame ⟨rfl, rfl, rfl⟩
      rw [State.releaseFront_of_meets hq meets]
      generalize (s.release p q c).modPassage p (fun q => { q with firstHeld := i + 1 }) = u at step first ⊢
      have at_p : u.passage p = some { q with firstHeld := i + 1 } := by rw [step.passage p]; simp
      have others := ih (i + 1) u _ at_p nodup
      rw [State.heard_release step] at others
      have count : frontCount s.heard pos i (c :: rest) = frontCount s.heard pos (i + 1) rest + 1 := by
        rw [frontCount, if_pos meets]
      rw [count, List.take_succ_cons]
      refine (first.trans others).of_eq ?_
      rw [lockNotices_congr (fun d mem => ?_) first.map step.1.timer]
      · rw [lockNotices, lockNotices, lockNotices, List.flatMap_singleton, List.flatMap_cons]
      · have apart : c ≠ d := fun e => new (e ▸ List.mem_of_mem_take mem)
        exact congrArg CellRec.lock ((step.cell d).trans ((State.cell_setCell s c d _).trans (if_neg apart)))
    · have count : frontCount s.heard pos i (c :: rest) = 0 := by rw [frontCount, if_neg meets]
      rw [State.releaseFront_of_stops hq meets, count]
      exact .rfl

/-- The cells of this list have been released with nothing standing on them, the slot now holds `x`, and nothing else of
the book, no mark and no signal has changed. -/
structure Releases (s u : State) (p : Slot) (l : List CellId) (x : Option Passage) : Prop where
  keeps : Keeps s u
  arrivals : u.book.arrivals = s.book.arrivals
  queues : u.book.queues = s.book.queues
  marks : u.marks = s.marks
  signals : u.signals = s.signals
  passage : ∀ y, u.passage y = if p = y then x else s.passage y
  cell : ∀ d, u.cell d = if d ∈ l then (s.cell d).released else s.cell d

theorem Releases.at_slot (h : Releases s u p l x) : u.passage p = x := (h.passage p).trans (if_pos rfl)

theorem Releases.other (h : Releases s u p l x) {y : Slot} (hy : y ≠ p) : u.passage y = s.passage y :=
  (h.passage y).trans (if_neg hy.symm)

theorem Releases.of_keepsBook (h : Releases s u p l x) (k : KeepsBook u v) : Releases s v p l x where
  keeps := h.keeps.trans k.1
  arrivals := (congrArg Book.arrivals k.2.1).trans h.arrivals
  queues := (congrArg Book.queues k.2.1).trans h.queues
  marks := k.2.2.1.trans h.marks
  signals := k.2.2.2.trans h.signals
  passage y := (k.passage y).trans (h.passage y)
  cell d := (k.cell d).trans (h.cell d)

theorem Releases.setPassage (h : Releases s u p l x) : Releases s (u.setPassage p y) p l y where
  keeps := h.keeps.trans (u.setPassage_keeps p y)
  arrivals := h.arrivals
  queues := h.queues
  marks := h.marks
  signals := h.signals
  passage z := by
    rw [State.passage_setPassage]
    split
    · rfl
    · rename_i other
      rw [h.passage, if_neg other]
  cell := h.cell

/-- The slot was rewritten before. -/
theorem Releases.of_setPassage (h : Releases (s.setPassage p y) u p l x) : Releases s u p l x where
  keeps := (s.setPassage_keeps p y).trans h.keeps
  arrivals := h.arrivals
  queues := h.queues
  marks := h.marks
  signals := h.signals
  passage z := by
    rw [h.passage, State.passage_setPassage]
    split <;> rfl
  cell := h.cell

theorem State.releaseFront_releases (hq : s.passage p = some q) (pos : Nat) :
    Releases s (State.releaseFront p pos q.firstHeld l s).1 p (l.take (frontCount s.heard pos q.firstHeld l))
      (some { q with firstHeld := q.firstHeld + frontCount s.heard pos q.firstHeld l }) := by
  obtain ⟨-, book⟩ := State.releaseFront_eq pos l q.firstHeld s q hq rfl
  have unoccupied := frontCount_unoccupied (heard := s.heard) (pos := pos) l q.firstHeld
  generalize frontCount s.heard pos q.firstHeld l = n at *
  have freed : Releases s (s.updateCells CellRec.freed (l.take n)) p (l.take n) (s.passage p) := by
    refine ⟨s.updateCells_keeps _ _, s.updateCells_arrivals _ _, s.updateCells_queues _ _, s.updateCells_marks _ _,
      s.updateCells_signals _ _, fun y => ?_, fun d => ?_⟩
    · rw [State.updateCells_passage]
      split
      · rename_i e; rw [e]
      · rfl
    · rw [s.cell_updateCells CellRec.freed_freed]
      split
      · rename_i mem
        exact CellRec.freed_of_unoccupied (unoccupied d mem)
      · rfl
  exact freed.setPassage.of_keepsBook book

/-! #### The examination -/

/-- What an examination leaves in the slot of an ENTERED passage when it has released `n` cells: nothing, if none is
left; the record with BLIND_CLEAR armed for the last cell of the route, if only BLIND cells are left after a release or a
change to BLIND; and otherwise the record with the first held index moved up (R67, R69). -/
def State.examined (s : State) (q : Passage) (n : Nat) (toBlind : Bool) : Option Passage :=
  if (s.heldRun q).drop n = [] then none
  else if (0 < n ∨ toBlind = true) ∧ ∀ d ∈ (s.heldRun q).drop n, s.heard d = .blind then
    some (match (s.cellsOf q).getLast? with
      | none => { q with firstHeld := q.firstHeld + n }
      | some d => { q with firstHeld := q.firstHeld + n }.armFor .blindClear s.map.working.options (s.traverseMs q d)
          s.timer.floor)
  else some { q with firstHeld := q.firstHeld + n }

section
variable {n : Nat} {toBlind : Bool}

theorem State.examined_of_end (run : s.heldRun q = l) (empty : l.drop n = []) : s.examined q n toBlind = none := by
  rw [State.examined, run, if_pos empty]

theorem State.examined_of_seen (run : s.heldRun q = l) (left : l.drop n ≠ [])
    (seen : ¬ ((0 < n ∨ toBlind = true) ∧ ∀ d ∈ l.drop n, s.heard d = .blind)) :
    s.examined q n toBlind = some { q with firstHeld := q.firstHeld + n } := by
  rw [State.examined, run, if_neg left, if_neg seen]

theorem State.examined_of_blind (run : s.heldRun q = l) (left : l.drop n ≠ [])
    (blind : (0 < n ∨ toBlind = true) ∧ ∀ d ∈ l.drop n, s.heard d = .blind)
    (last : (s.cellsOf q).getLast? = some c) :
    s.examined q n toBlind = some ({ q with firstHeld := q.firstHeld + n }.armFor .blindClear s.map.working.options
      (s.traverseMs q c) s.timer.floor) := by
  rw [State.examined, run, if_neg left, if_pos blind, last]

end

theorem State.armBlindClear_eq {r : Passage} (hr : u.passage p = some r) : u.armBlindClear p = u.setPassage p
    (some (match (u.cellsOf r).getLast? with
      | none => r
      | some d => r.armFor .blindClear u.map.working.options (u.traverseMs r d) u.timer.floor)) := by
  rw [State.armBlindClear, State.modPassage, hr]
  rfl

theorem Releases.heard (h : Releases s u p l x) : u.heard = s.heard := by
  funext d
  rw [State.heard, State.heard, h.cell]
  split <;> rfl

/-- A passage without a cell left is CLEARED: its slot is free, and its owner is told (R24, R67). -/
theorem Releases.cleared {r : Passage} (h : Releases s u p l (some r)) (entered : r.state = .entered)
    (single : u.SingleGrant) (empty : u.heldRun r = []) :
    Releases s (u.remove p .cleared) p l none ∧
      Posted u (u.remove p .cleared) [(r.master, passageNotice s .cleared p r)] := by
  have live : r.live = true := Passage.live_eq_true_iff.2 (by rw [entered]; exact nofun)
  obtain ⟨gone, others, -, lived, -, signals, -⟩ := State.remove_removed h.at_slot single .cleared
  obtain ⟨arrivals, queues, marks, cells, -⟩ := lived live
  refine ⟨⟨h.keeps.trans (u.remove_keeps p .cleared), arrivals.trans h.arrivals, queues.trans h.queues,
    marks.trans h.marks, (signals (by rw [entered]; exact nofun)).trans h.signals, fun y => ?_, fun d => ?_⟩, ?_⟩
  · split
    · rename_i e; rw [← e, gone]
    · rename_i other; rw [others y (Ne.symm other), h.other (Ne.symm other)]
  · rw [cells d (by rw [empty]; exact List.not_mem_nil), h.cell]
  · have posted := State.remove_posted h.at_slot (by rw [empty]; exact List.nodup_nil) .cleared
    have notice : passageNotice u .cleared p r = passageNotice s .cleared p r := by
      unfold passageNotice
      rw [h.keeps.timer]
    rw [← notice]
    rw [removalNotices, empty] at posted
    exact posted

/-- What the examination of an ENTERED passage does, and whether it answers that a cell was released (R67 to R70). -/
theorem State.examination_does (hq : s.passage p = some q) (entered : q.state = .entered) (lists : s.Listed)
    (held : s.Held) (holds : s.heldRun q ≠ []) (toBlind : Bool) {n : Nat}
    (hn : n = frontCount s.heard (q.position.getD 0) q.firstHeld (s.heldRun q)) :
    (s.examination p toBlind).2 = decide (0 < n) ∧
      Releases s (s.examination p toBlind).1 p ((s.heldRun q).take n) (s.examined q n toBlind) ∧
      Posted s (s.examination p toBlind).1 (lockNotices s ((s.heldRun q).take n) ++
        if (s.heldRun q).drop n = [] then [(q.master, passageNotice s .cleared p q)] else []) := by
  have live : q.live = true := Passage.live_eq_true_iff.2 (by rw [entered]; exact nofun)
  have nodup : (s.heldRun q).Nodup := State.heldRun_nodup (held.nodup hq)
  obtain ⟨left, -⟩ := State.releaseFront_eq (p := p) (q.position.getD 0) (s.heldRun q) q.firstHeld s q hq rfl
  have releases := State.releaseFront_releases (l := s.heldRun q) hq (q.position.getD 0)
  have posted := State.releaseFront_posted (p := p) (q.position.getD 0) (s.heldRun q) q.firstHeld s q hq nodup
  have tends := State.releaseFront_tends hq entered (q.position.getD 0)
  have count := frontCount_le s.heard (q.position.getD 0) (s.heldRun q) q.firstHeld
  rw [← hn] at left releases posted count
  obtain ⟨single, -⟩ := tends.held lists held
  have cells : (State.releaseFront p (q.position.getD 0) q.firstHeld (s.heldRun q) s).1.cellsOf
      { q with firstHeld := q.firstHeld + n } = s.cellsOf q := State.cellsOf_congr tends.working rfl
  unfold State.examination State.examined
  rw [hq]
  dsimp only
  rw [if_pos entered, left]
  generalize (State.releaseFront p (q.position.getD 0) q.firstHeld (s.heldRun q) s).1 = v at *
  have released : decide (((s.heldRun q).drop n).length < (s.heldRun q).length) = decide (0 < n) := by
    have some_held := List.length_pos_iff.2 holds
    rw [List.length_drop]
    exact decide_eq_decide.2 (by omega)
  rw [released, releases.heard]
  by_cases none_left : (s.heldRun q).drop n = []
  · have positive : 0 < n := Nat.pos_of_ne_zero fun e => holds (by rwa [e] at none_left)
    have empty : v.heldRun { q with firstHeld := q.firstHeld + n } = [] :=
      (State.heldRun_moved (q := q) (r := { q with firstHeld := q.firstHeld + n }) tends.working rfl live rfl
        rfl).trans none_left
    obtain ⟨cleared, told⟩ := releases.cleared entered single empty
    simp only [if_pos none_left, positive, decide_true, if_true]
    exact ⟨trivial, cleared, posted.trans told⟩
  · simp only [if_neg none_left, List.append_nil]
    by_cases blind : (0 < n ∨ toBlind = true) ∧ ∀ d ∈ (s.heldRun q).drop n, s.heard d = .blind
    · have test : ((decide (0 < n) || toBlind) && ((s.heldRun q).drop n).all fun c => s.heard c = .blind) = true := by
        simpa using blind
      rw [if_pos test, if_pos blind, State.armBlindClear_eq releases.at_slot,
        cells, releases.keeps.timer, releases.keeps.map]
      have times : ∀ d, v.traverseMs { q with firstHeld := q.firstHeld + n } d = s.traverseMs q d := fun d => by
        rw [State.traverseMs, State.traverseMs, releases.keeps.map]
      simp only [times]
      exact ⟨trivial, releases.setPassage, posted.thenSame ⟨.refl _, .refl _, .refl _⟩⟩
    · have test : ¬ ((decide (0 < n) || toBlind) && ((s.heldRun q).drop n).all fun c => s.heard c = .blind) = true :=
        fun h => blind (by simpa using h)
      rw [if_neg test, if_neg blind]
      exact ⟨rfl, releases, posted⟩

end

end Sys2Proof.Machine

namespace Sys2Proof.Machine

/-! ### A report of a cell that an ENTERED passage holds -/

section
variable {s t u v : State} {p : Slot} {q : Passage} {c : CellId} {occ : Occupancy} {stamp : Time}

/-- The Tracker has heard what a cell reads, and cleared its intruded flag if that is not OCCUPIED (R59; log
entry 5). -/
def State.told (s : State) (c : CellId) (occ : Occupancy) : State :=
  s.setCell c { s.cell c with heard := occ, intruded := (s.cell c).intruded && !decide (occ ≠ .occupied) }

theorem State.told_cell (d : CellId) : (s.told c occ).cell d =
    if d = c then { s.cell c with heard := occ, intruded := (s.cell c).intruded && !decide (occ ≠ .occupied) }
    else s.cell d := by
  rw [State.told, State.cell_setCell]
  by_cases e : d = c
  · rw [if_pos e, if_pos e.symm]
  · rw [if_neg e, if_neg (Ne.symm e)]

theorem State.told_lock (d : CellId) : ((s.told c occ).cell d).lock = (s.cell d).lock := by
  rw [State.told_cell]
  split
  · rename_i e; rw [e]
  · rfl

theorem State.told_heard : (s.told c occ).heard = fun d => if d = c then occ else (s.cell d).heard := by
  funext d
  rw [State.heard, State.told_cell]
  split <;> rfl

theorem State.told_sameCore : SameCore s (s.told c occ) := s.setCell_sameCore c rfl

theorem State.told_keeps : Keeps s (s.told c occ) := s.setCell_keeps c _

theorem State.told_sameTx : SameTx s (s.told c occ) := ⟨rfl, rfl, rfl⟩

/-- What the Tracker does with a report of a cell that an ENTERED passage holds (R65 to R70). -/
theorem State.takeChange_entered (holder : (s.cell c).holder = some p) (hq : s.passage p = some q)
    (entered : q.state = .entered) : s.takeChange c occ stamp =
      let v := if occ ≠ .occupied then s.told c occ else (s.told c occ).occupiedAhead p q c stamp
      ((v.examination p (decide (occ = .blind))).1,
        (s.cell c).intruded && decide (occ ≠ .occupied) || (v.examination p (decide (occ = .blind))).2) := by
  have at_p : (s.told c occ).passage p = some q := hq
  have told : s.setCell c { s.cell c with heard := occ, intruded := (s.cell c).intruded && !decide (occ ≠ .occupied) } =
      s.told c occ := rfl
  unfold State.takeChange
  dsimp only
  rw [told, holder, Option.bind_some, at_p, Option.map_some]
  dsimp only
  rw [entered]

/-- The command takes the report that waits (R59). -/
theorem exec_occupancyChange_of_report (running : s.power.phase = .running)
    (operating : s.control.mode.operating = true) (news : (s.cell c).heard ≠ (s.cell c).occupancy) : exec (.occupancyChange c) s =
      .next (s.afterEvent (s.takeChange c (s.cell c).occupancy (s.cell c).stamp).1
        (s.takeChange c (s.cell c).occupancy (s.cell c).stamp).2) := by
  have waits : s.reportWaits c = true := by simp [State.reportWaits, operating, news]
  have done : exec (.occupancyChange c) s = .next (s.occupancyChange c) := whenRunning_running running
  rw [done, State.occupancyChange, if_pos waits]

/-- While a passage is live the junction is not drained. -/
theorem State.drainedPost_of_live (hq : u.passage p = some q) (live : q.live = true) : State.drainedPost s u = u := by
  have positive : u.liveCount ≠ 0 := fun idle => by
    rw [Passage.live_eq_false_iff.2 (State.live_of_liveCount (by omega) hq)] at live
    cases live
  rw [State.drainedPost, if_neg (by simp [positive])]

theorem State.drainedPost_of_pool (pool : u.book.pool = s.book.pool) : State.drainedPost s u = u := by
  have count := State.liveCount_congr pool
  rw [State.drainedPost, if_neg fun h => ?_]
  simp only [Bool.and_eq_true, decide_eq_true_eq] at h
  omega

/-- The clock of a deadline that is armed while the causes of `d` are in force (R86). -/
def Deadline.clockNow (d : Deadline) (window now : Time) : Clock :=
  if d.halt || d.extStop then .frozen window else .armed (now + window)

theorem Deadline.clockNow_frozen {d : Deadline} {window now : Time} (h : d.halt = true ∨ d.extStop = true) :
    d.clockNow window now = .frozen window := by
  rw [Deadline.clockNow, if_pos (by simpa using h)]

theorem Deadline.clockNow_armed {d : Deadline} {window now : Time} (halt : d.halt = false) (ext : d.extStop = false) :
    d.clockNow window now = .armed (now + window) := by
  rw [Deadline.clockNow, if_neg (by simp [halt, ext])]

/-- An arming that replaces no ARRIVAL leaves the causes in force (R86). -/
theorem Passage.armFor_eq (h : q.deadline.kind ≠ .arrival) (kind : ArmedKind) (o : Options) (ms : Nat) (now : Time) :
    q.armFor kind o ms now =
      { q with
        clamped := q.clamped || (windowOf o ms).2
        deadline := { q.deadline with
          run := some
            { kind := kind, window := BitVec.ofNat 16 (windowOf o ms).1
              clock := q.deadline.clockNow (BitVec.ofNat 16 (windowOf o ms).1) now } } } := by
  have kept : (q.deadline.extStop && decide (q.deadline.kind ≠ .arrival)) = q.deadline.extStop := by simp [h]
  unfold Passage.armFor Deadline.arm Deadline.clockNow
  dsimp only
  rw [kept]

/-- The count of an examination is R67's. -/
theorem State.releaseCount_front (live : q.live = true) (heard : CellId → Occupancy) (pos : Nat) :
    ReleaseCount s q pos heard (frontCount heard pos q.firstHeld (s.heldRun q)) :=
  frontCount_meets _ _ (State.heldRun_of_live live).symm

/-! #### Advance -/

/-- The record of a passage whose nose has come to a cell ahead (R65). -/
def State.advanced (s : State) (q : Passage) (k : Nat) (c : CellId) : Passage :=
  { q with position := some k, overdue := .normal }.armFor .dwell s.map.working.options (s.traverseMs q c) s.timer.floor

theorem State.advance_eq (hq : s.passage p = some q) (k : Nat) :
    s.advance p k c = s.setPassage p (some (s.advanced q k c)) := by
  have moved : s.modPassage p (fun q => { q with position := some k, overdue := .normal }) =
      s.setPassage p (some { q with position := some k, overdue := .normal }) := by rw [State.modPassage, hq]; rfl
  rw [State.advance, moved, State.armDwell, State.modPassage, State.passage_setPassage, if_pos rfl,
    State.setPassage_setPassage]
  rfl

/-- A cell ahead of the position, with nothing but BLIND cells between, is advanced to (R65). -/
theorem State.occupiedAhead_of_next {i k : Nat} (nodup : (s.cellsOf q).Nodup) (position : q.position = some i)
    (ahead : i < k) (hc : (s.cellsOf q)[k]? = some c)
    (between : ∀ j d, i < j → j < k → (s.cellsOf q)[j]? = some d → s.heard d = .blind) :
    s.occupiedAhead p q c stamp = s.advance p k c := by
  obtain ⟨short, at_k⟩ := List.getElem?_eq_some_iff.1 hc
  have index : (s.cellsOf q).idxOf c = k := by rw [← at_k, nodup.idxOf_getElem]
  have blind : (((s.cellsOf q).take k).drop (i + 1)).all (fun d => s.heard d = .blind) = true := by
    refine List.all_eq_true.2 fun d mem => decide_eq_true ?_
    refine (forall_from_iff (P := fun d => s.heard d = .blind)).1 (fun x d le hd => ?_) d mem
    rw [List.getElem?_take] at hd
    split at hd
    · exact between x d le (by assumption) hd
    · cases hd
  unfold State.occupiedAhead
  dsimp only
  rw [index, position, Option.getD_some, if_neg (by omega), if_pos blind]

/-- A cell under the carrier's nose stays held, with all behind it in the run. -/
theorem mem_drop_of_occupied {heard : CellId → Occupancy} {pos i : Nat} {l : List CellId} (mem : c ∈ l)
    (occupied : heard c = .occupied) :
    c ∉ l.take (frontCount heard pos i l) ∧ c ∈ l.drop (frontCount heard pos i l) := by
  have stays : c ∉ l.take (frontCount heard pos i l) := fun h => frontCount_unoccupied l i c h occupied
  refine ⟨stays, ?_⟩
  rw [← List.take_append_drop (frontCount heard pos i l) l] at mem
  exact (List.mem_append.1 mem).resolve_left stays

/-- An advance with its examination, which cannot take the last cell (R65, R67). -/
theorem State.takeChange_advance {i k n : Nat} (law : s.HolderLaw) (holder : (s.cell c).holder = some p)
    (hq : s.passage p = some q) (entered : q.state = .entered) (position : q.position = some i) (ahead : i < k)
    (hc : (s.cellsOf q)[k]? = some c)
    (between : ∀ j d, i < j → j < k → (s.cellsOf q)[j]? = some d → (s.cell d).heard = .blind)
    (hn : n = frontCount (s.told c .occupied).heard k q.firstHeld (s.heldRun q)) :
    (s.takeChange c .occupied stamp).2 = decide (0 < n) ∧
      Releases (s.told c .occupied) (s.takeChange c .occupied stamp).1 p ((s.heldRun q).take n)
        (some { s.advanced q k c with firstHeld := q.firstHeld + n }) ∧
      Posted s (s.takeChange c .occupied stamp).1 (lockNotices s ((s.heldRun q).take n)) := by
  obtain ⟨listLaw, -, held⟩ := State.holderLaw_iff.1 law
  obtain ⟨-, lists⟩ := State.listLaw_iff.1 listLaw
  have nodup := held.nodup hq
  have apart : ∀ j d, j < k → (s.cellsOf q)[j]? = some d → d ≠ c := fun j d lt hd e => by
    obtain ⟨short, at_k⟩ := List.getElem?_eq_some_iff.1 hc
    obtain ⟨short', at_j⟩ := List.getElem?_eq_some_iff.1 hd
    have := (nodup.getElem_inj_iff (hi := short') (hj := short)).1 (by rw [at_j, at_k, e])
    omega
  have heard_c : (s.told c .occupied).heard c = .occupied := by rw [State.told_heard]; exact if_pos rfl
  have moves : (s.told c .occupied).occupiedAhead p q c stamp =
      (s.told c .occupied).setPassage p (some (s.advanced q k c)) := by
    refine (State.occupiedAhead_of_next (s := s.told c .occupied) nodup position ahead hc fun j d lt lt' hd => ?_).trans
      (State.advance_eq (s := s.told c .occupied) hq k)
    rw [State.told_heard]
    exact (if_neg (apart j d lt' hd)).trans (between j d lt lt' hd)
  have taken := State.takeChange_entered (occ := .occupied) (stamp := stamp) holder hq entered
  dsimp only at taken
  rw [if_neg (by simp), moves] at taken
  obtain ⟨a, ha⟩ : ∃ a, a = (s.told c .occupied).setPassage p (some (s.advanced q k c)) := ⟨_, rfl⟩
  have core : SameCore s a := by
    have advanced := (s.told c .occupied).advance_sameCore p k c
    rw [State.advance_eq (s := s.told c .occupied) hq k] at advanced
    exact ha ▸ State.told_sameCore.trans advanced
  have at_p : a.passage p = some (s.advanced q k c) := by rw [ha, State.passage_setPassage, if_pos rfl]
  have run : a.heldRun (s.advanced q k c) = s.heldRun q := State.heldRun_congr core.working rfl rfl rfl
  have heard : a.heard = (s.told c .occupied).heard := by rw [ha]; rfl
  have mem : c ∈ s.heldRun q := (held.holder_iff hq).1 holder
  obtain ⟨stays, left⟩ := mem_drop_of_occupied (pos := k) (i := q.firstHeld) mem heard_c
  rw [← hn] at stays left
  have some_left : (s.heldRun q).drop n ≠ [] := List.ne_nil_of_mem left
  obtain ⟨answer, releases, posted⟩ := State.examination_does at_p (q := s.advanced q k c) entered
    (core.listed lists) (core.held held) (by rw [run]; exact List.ne_nil_of_mem mem)
    (decide (Occupancy.occupied = .blind)) (n := n) (by rw [run, heard, hn]; rfl)
  have not_blind : ¬ ((0 < n ∨ decide (Occupancy.occupied = Occupancy.blind) = true) ∧
      ∀ d ∈ (s.heldRun q).drop n, a.heard d = .blind) := fun ⟨_, blind⟩ => by
    have := blind c left
    rw [heard, heard_c] at this
    cases this
  rw [State.examined_of_seen run some_left not_blind] at releases
  rw [run] at releases posted
  rw [if_neg some_left, List.append_nil] at posted
  rw [← ha] at taken
  rw [taken]
  refine ⟨?_, ?_, ?_⟩
  · refine Eq.trans ?_ answer
    simp
  · rw [ha] at releases ⊢
    exact releases.of_setPassage
  · have clean : SameTx s a := by rw [ha]; exact ⟨.refl _, .refl _, .refl _⟩
    have keeps : Keeps s a := by rw [ha]; exact State.told_keeps.trans (State.setPassage_keeps _ p _)
    have locks : ∀ d, (a.cell d).lock = (s.cell d).lock := fun d => core.lock d
    rw [lockNotices_congr (fun d _ => locks d) keeps.map keeps.timer] at posted
    exact clean.andPosted posted

end

/-- Settles O42: the report is an advance, the examination releases the cells in front of the run but never the one
under the nose, and a pass takes nothing from a live passage. -/
theorem advanceMovesThePosition : Obligations.AdvanceMovesThePosition := by
  intro c p q i k s running law operating occupied news holder hq entered position ahead hc between arrival
  dsimp only
  obtain ⟨listLaw, -, held⟩ := State.holderLaw_iff.1 law
  obtain ⟨-, lists⟩ := State.listLaw_iff.1 listLaw
  have live : q.live = true := Passage.live_eq_true_iff.2 (by rw [entered]; exact nofun)
  have mem : c ∈ s.heldRun q := (held.holder_iff hq).1 holder
  have heard_c : (s.told c .occupied).heard c = .occupied := by rw [State.told_heard]; exact if_pos rfl
  obtain ⟨n, hn⟩ : ∃ n, n = frontCount (s.told c .occupied).heard k q.firstHeld (s.heldRun q) := ⟨_, rfl⟩
  obtain ⟨stays, left⟩ := mem_drop_of_occupied (pos := k) (i := q.firstHeld) mem heard_c
  rw [← hn] at stays left
  have step := exec_occupancyChange_of_report running operating (by rw [occupied]; exact news)
  rw [occupied] at step
  obtain ⟨starts, releases, posted⟩ := State.takeChange_advance (stamp := (s.cell c).stamp) law holder hq entered
    position ahead hc between hn
  have tends := s.takeChange_tends c .occupied (s.cell c).stamp
  rw [starts, State.afterEvent_eq] at step
  generalize (s.takeChange c .occupied (s.cell c).stamp).1 = u at *
  rw [State.drainedPost_of_live releases.at_slot live] at step
  have pass := u.grantPass_tends none
  have kept := State.grantPass_passage_live (tends.listed lists) releases.at_slot live none
  have keeps : Keeps s u := State.told_keeps.trans releases.keeps
  have record : ({ s.advanced q k c with firstHeld := q.firstHeld + n } : Passage) =
      { q with
        position := some k, overdue := .normal, firstHeld := q.firstHeld + n
        clamped := q.clamped || (windowOf s.map.working.options (s.traverseMs q c)).2
        deadline := { q.deadline with
          run := some
            { kind := .dwell, window := BitVec.ofNat 16 (windowOf s.map.working.options (s.traverseMs q c)).1
              clock := q.deadline.clockNow (BitVec.ofNat 16 (windowOf s.map.working.options (s.traverseMs q c)).1)
                s.timer.floor } } } := by
    rw [State.advanced, Passage.armFor_eq (q := { q with position := some k, overdue := .normal }) arrival]
  refine ⟨u, n, _, ?_, keeps.sameOutside, keeps.sameLine, posted.posts_of_same, ?_,
    releases.at_slot.trans (congrArg some record),
    Deadline.clockNow_frozen, Deadline.clockNow_armed, ?_, fun d hd => ?_, fun x hx => releases.other hx,
    releases.arrivals, releases.queues, releases.marks, releases.signals, kept.trans releases.at_slot.symm, ?_⟩
  · rw [step]
    by_cases positive : 0 < n <;> simp [positive]
  · have count := State.releaseCount_front (s := s) live (s.told c .occupied).heard k
    rw [← hn, State.told_heard] at count
    exact count
  · rw [releases.cell, if_neg stays, State.told_cell, if_pos rfl]
    simp
  · rw [releases.cell, State.told_cell, if_neg hd]
  · refine ((pass.held (tends.listed lists) (tends.held lists held)).holder_iff kept).2 ?_
    have run := State.heldRun_moved (t := u.grantPass none) (q := q)
      (r := { s.advanced q k c with firstHeld := q.firstHeld + n }) (pass.working.trans tends.working) rfl live rfl rfl
    rw [run]
    exact left

end Sys2Proof.Machine

namespace Sys2Proof.Machine

/-! ### A report away from OCCUPIED -/

section
variable {s t u v : State} {p : Slot} {q : Passage} {c : CellId} {occ : Occupancy} {stamp : Time} {n : Nat}

/-- Where no ENTERED passage holds the cell, the Tracker hears the report and clears the flag (R59, R61). -/
theorem State.takeChange_away (away : occ ≠ .occupied)
    (other : ∀ p q, (s.cell c).holder = some p → s.passage p = some q → q.state ≠ .entered) :
    s.takeChange c occ stamp = (s.told c occ, (s.cell c).intruded) := by
  have told : s.setCell c { s.cell c with heard := occ, intruded := (s.cell c).intruded && !decide (occ ≠ .occupied) } =
      s.told c occ := rfl
  have pool : (s.told c occ).passage = s.passage := rfl
  unfold State.takeChange
  dsimp only
  rw [told, pool]
  split
  · simp [away]
  · rename_i p q found
    obtain ⟨x, holder, hx⟩ := Option.bind_eq_some_iff.1 found
    obtain ⟨y, hy, e⟩ := Option.map_eq_some_iff.1 hx
    cases e
    split
    · simp [away]
    · simp [away]
    · rename_i entered
      exact absurd entered (other p q holder hy)

/-- The report clears the flag and does nothing else. -/
theorem TakesAway.of_told (away : occ ≠ .occupied)
    (other : ∀ p q, (s.cell c).holder = some p → s.passage p = some q → q.state ≠ .entered) :
    TakesAway s (s.told c occ) c occ 0 := by
  refine ⟨State.told_keeps.sameOutside, State.told_keeps.sameLine, rfl, rfl, rfl, rfl, fun _ => ⟨rfl, rfl, fun d => ?_,
    State.told_sameTx.posted.posts_of_same⟩, fun p q i holder hq entered => absurd entered (other p q holder hq)⟩
  rw [State.told_cell]
  simp [away]

/-- The examination that a report brings to an ENTERED passage (R67 to R70). -/
theorem State.takeChange_examines (law : s.HolderLaw) (away : occ ≠ .occupied) (holder : (s.cell c).holder = some p)
    (hq : s.passage p = some q) (entered : q.state = .entered)
    (hn : n = frontCount (s.told c occ).heard (q.position.getD 0) q.firstHeld (s.heldRun q)) :
    (s.takeChange c occ stamp).2 = decide (0 < n ∨ (s.cell c).intruded = true) ∧
      Releases (s.told c occ) (s.takeChange c occ stamp).1 p ((s.heldRun q).take n)
        ((s.told c occ).examined q n (decide (occ = .blind))) ∧
      Posted s (s.takeChange c occ stamp).1 (lockNotices s ((s.heldRun q).take n) ++
        if (s.heldRun q).drop n = [] then [(q.master, passageNotice s .cleared p q)] else []) := by
  obtain ⟨listLaw, -, held⟩ := State.holderLaw_iff.1 law
  obtain ⟨-, lists⟩ := State.listLaw_iff.1 listLaw
  have mem : c ∈ s.heldRun q := (held.holder_iff hq).1 holder
  have core : SameCore s (s.told c occ) := State.told_sameCore
  have keeps : Keeps s (s.told c occ) := State.told_keeps
  have run : (s.told c occ).heldRun q = s.heldRun q := core.heldRun rfl
  have notice : passageNotice (s.told c occ) .cleared p q = passageNotice s .cleared p q := rfl
  obtain ⟨answer, releases, posted⟩ := State.examination_does (s := s.told c occ) hq entered (core.listed lists)
    (core.held held) (by rw [run]; exact List.ne_nil_of_mem mem) (decide (occ = .blind)) (n := n)
    (by rw [run]; exact hn)
  have taken := State.takeChange_entered (occ := occ) (stamp := stamp) holder hq entered
  dsimp only at taken
  rw [if_pos away] at taken
  rw [run] at releases posted
  rw [lockNotices_congr (fun d _ => State.told_lock d) keeps.map keeps.timer, notice] at posted
  rw [taken]
  dsimp only
  rw [answer]
  refine ⟨?_, releases, State.told_sameTx.andPosted posted⟩
  rw [Bool.eq_iff_iff]
  simp [away, or_comm]

/-- The event of a report on a cell of an ENTERED passage, up to its grant pass. -/
theorem TakesAway.of_examined (law : s.HolderLaw) (away : occ ≠ .occupied) (holder : (s.cell c).holder = some p)
    (hq : s.passage p = some q) (entered : q.state = .entered)
    (hn : n = frontCount (s.told c occ).heard (q.position.getD 0) q.firstHeld (s.heldRun q)) :
    TakesAway s (State.drainedPost s (s.takeChange c occ stamp).1) c occ n := by
  obtain ⟨-, releases, posted⟩ := State.takeChange_examines (stamp := stamp) law away holder hq entered hn
  have live : q.live = true := Passage.live_eq_true_iff.2 (by rw [entered]; exact nofun)
  have told : Keeps s (s.told c occ) := State.told_keeps
  have run : (s.told c occ).heldRun q = s.heldRun q := State.told_sameCore.heldRun rfl
  have heard := State.told_heard (s := s) (c := c) (occ := occ)
  have base : ∀ d, (s.told c occ).cell d =
      if d = c then { s.cell c with heard := occ, intruded := false } else s.cell d := fun d => by
    rw [State.told_cell]
    simp [away]
  have drained := State.drainedPost_posted (told.trans releases.keeps)
  have releases := releases.of_keepsBook (State.drainedPost_keepsBook s _)
  have posts := (posted.trans drained).posts_of_same
  generalize State.drainedPost s _ = u at *
  have keeps : Keeps s u := told.trans releases.keeps
  refine ⟨keeps.sameOutside, keeps.sameLine, releases.arrivals, releases.queues, releases.marks, releases.signals,
    fun other => absurd entered (other p q holder hq), ?_⟩
  intro p' q' i holder' hq' _ position
  cases holder.symm.trans holder'
  cases hq.symm.trans hq'
  rw [position, Option.getD_some] at hn
  dsimp only
  simp only [← congrFun heard]
  refine ⟨?_, fun x hx => releases.other hx, fun d => ?_, fun empty => ?_, fun left seen => ?_,
    fun left blind arrival last hlast => ?_, posts⟩
  · have count := State.releaseCount_front (s := s) live (s.told c occ).heard i
    rw [← hn] at count
    exact count
  · rw [releases.cell, base]
  · rw [releases.at_slot, State.examined_of_end run empty]
  · rw [releases.at_slot, State.examined_of_seen run left (by rwa [decide_eq_true_iff])]
  · refine ⟨q.deadline.clockNow (BitVec.ofNat 16 (windowOf s.map.working.options (s.traverseMs q last)).1)
      s.timer.floor, ?_, Deadline.clockNow_frozen, Deadline.clockNow_armed⟩
    rw [releases.at_slot, State.examined_of_blind run left (by rwa [decide_eq_true_iff]) (c := last) hlast,
      Passage.armFor_eq (q := { q with firstHeld := q.firstHeld + n }) arrival]
    rfl

/-- A first held cell behind the position that goes FREE is among the cells released (R67, R68). -/
theorem State.frontCount_of_free {heard : CellId → Occupancy} {i : Nat} (live : q.live = true) (free : heard c = .free)
    (first : (s.cellsOf q)[q.firstHeld]? = some c) (behind : q.firstHeld < i) :
    0 < frontCount heard i q.firstHeld (s.heldRun q) := by
  rw [Nat.pos_iff_ne_zero]
  intro none
  obtain ⟨-, stops⟩ := State.releaseCount_front (s := s) live heard i
  rw [none] at stops
  exact stops ((meetsRelease_of_free first free).2 (.inl behind))

end

/-- Settles O44: by who holds the cell; the examination of an ENTERED holder releases the front of its run, and nothing
is released for any other. -/
theorem releaseBehindTheCarrier : Obligations.ReleaseBehindTheCarrier := by
  intro c s running law operating away news
  have step := exec_occupancyChange_of_report running operating news
  rw [State.afterEvent_eq] at step
  by_cases inside : ∃ p q, (s.cell c).holder = some p ∧ s.passage p = some q ∧ q.state = .entered
  · obtain ⟨p, q, holder, hq, entered⟩ := inside
    have live : q.live = true := Passage.live_eq_true_iff.2 (by rw [entered]; exact nofun)
    obtain ⟨n, hn⟩ : ∃ n, n = frontCount (s.told c (s.cell c).occupancy).heard (q.position.getD 0) q.firstHeld
      (s.heldRun q) := ⟨_, rfl⟩
    obtain ⟨starts, -⟩ := State.takeChange_examines (stamp := (s.cell c).stamp) law away holder hq entered hn
    have takes := TakesAway.of_examined (stamp := (s.cell c).stamp) law away holder hq entered hn
    rw [starts] at step
    refine ⟨_, n, takes, ?_, fun p' q' i holder' hq' entered' position free first behind => ?_⟩
    · rw [step]
      simp only [decide_eq_true_eq]
    · cases holder.symm.trans holder'
      cases hq.symm.trans hq'
      have positive : 0 < n := by
        rw [hn, position, Option.getD_some]
        refine State.frontCount_of_free live ?_ first behind
        rw [State.told_heard]
        exact (if_pos rfl).trans free
      obtain ⟨-, -, -, -, -, -, -, held⟩ := takes
      obtain ⟨-, -, cells, -⟩ := held p q i holder hq entered position
      have front : c ∈ (s.heldRun q).take n := by
        have head : (s.heldRun q)[0]? = some c := by
          rw [State.heldRun_of_live live, List.getElem?_drop]
          exact first
        refine List.mem_iff_getElem?.2 ⟨0, ?_⟩
        rw [List.getElem?_take, if_pos positive, head]
      refine ⟨positive, ?_⟩
      rw [cells, if_pos front]
      rfl
  · have other : ∀ p q, (s.cell c).holder = some p → s.passage p = some q → q.state ≠ .entered :=
      fun p q holder hq entered => inside ⟨p, q, holder, hq, entered⟩
    rw [State.takeChange_away away other] at step
    dsimp only at step
    have quiet : State.drainedPost s (s.told c (s.cell c).occupancy) = s.told c (s.cell c).occupancy :=
      State.drainedPost_of_pool (.refl _)
    rw [quiet] at step
    refine ⟨_, 0, TakesAway.of_told away other, ?_, fun p q i holder hq entered => absurd entered (other p q holder hq)⟩
    rw [step]
    simp

end Sys2Proof.Machine

namespace Sys2Proof.Machine

/-! ## Granting right of way (R40 to R54)

### A passage becomes GRANTED in RUNNING alone -/

/-- No slot holds a GRANTED passage in `t` that held none in `s`. -/
def GrantsNone (s t : State) : Prop :=
  ∀ p r, t.passage p = some r → r.state = .granted → ∃ q, s.passage p = some q ∧ q.state = .granted

/-- A slot comes to hold a GRANTED passage only if `t` is in RUNNING (R41). -/
def GrantsInRunning (s t : State) : Prop := GrantsNone s t ∨ t.control.mode = .running

section
variable {s t u : State}

theorem GrantsNone.rfl {s : State} : GrantsNone s s := fun _ r hr granted => ⟨r, hr, granted⟩

theorem GrantsNone.trans (h : GrantsNone s t) (k : GrantsNone t u) : GrantsNone s u := fun p r hr granted => by
  obtain ⟨x, hx, granted⟩ := k p r hr granted
  exact h p x hx granted

theorem SameCore.grantsNone (h : SameCore s t) : GrantsNone s t := fun p r hr granted => by
  obtain ⟨q, hq, core⟩ := h.passage_some hr
  obtain ⟨-, -, -, state, -⟩ := Passage.core_eq_iff.1 core
  exact ⟨q, hq, state.trans granted⟩

theorem GrantsNone.of_pool (h : t.book.pool = s.book.pool) : GrantsNone s t := fun p r hr granted =>
  ⟨r, State.passage_congr h p ▸ hr, granted⟩

theorem grantsNone_foldl {α : Type} {f : State → α → State} (h : ∀ s x, GrantsNone s (f s x)) (l : List α)
    (s : State) : GrantsNone s (l.foldl f s) := by
  induction l generalizing s with
  | nil => exact .rfl
  | cons x rest ih => exact (h s x).trans (ih _)

/-- A slot that is freed, or gets a passage that is not GRANTED. -/
theorem GrantsNone.setPassage (h : GrantsNone s t) (p : Slot) {x : Option Passage}
    (hx : ∀ r, x = some r → r.state ≠ .granted) : GrantsNone s (t.setPassage p x) := fun y r hr granted => by
  rw [State.passage_setPassage] at hr
  split at hr
  · exact absurd granted (hx r hr)
  · exact h y r hr granted

theorem GrantsNone.setFree (h : GrantsNone s t) (p : Slot) : GrantsNone s (t.setPassage p none) :=
  h.setPassage p fun _ hr => by cases hr

theorem GrantsNone.inRunning (h : GrantsNone s t) : GrantsInRunning s t := .inl h

theorem GrantsInRunning.rfl {s : State} : GrantsInRunning s s := GrantsNone.rfl.inRunning

theorem GrantsNone.andInRunning (h : GrantsNone s t) (k : GrantsInRunning t u) : GrantsInRunning s u :=
  k.imp_left h.trans

/-- Work that leaves the mode alone may follow a grant. -/
theorem GrantsInRunning.trans (h : GrantsInRunning s t) (k : GrantsInRunning t u)
    (mode : u.control.mode = t.control.mode) : GrantsInRunning s u := by
  rcases h with none | running
  · exact none.andInRunning k
  · exact .inr (mode.trans running)

variable (s)

/-! #### Removals and the grant pass -/

theorem State.remove_grantsNone (p : Slot) (o : Outcome) : GrantsNone s (s.remove p o) := by
  cases hq : s.passage p with
  | none => rw [State.remove_of_none hq]; exact .rfl
  | some q =>
    refine GrantsNone.trans ?_ (State.remove_sameCore hq o).grantsNone
    unfold State.removedCore
    split
    · exact (GrantsNone.of_pool (s.updateCells_pool CellRec.freed _)).setFree p
    · have same : GrantsNone s (s.unlisted p q) := fun x r hr granted =>
        ⟨r, (State.unlisted_passage x).symm.trans hr, granted⟩
      exact same.setFree p

theorem State.flush_grantsNone (which : Passage → Bool) : GrantsNone s (s.flush which) :=
  grantsNone_foldl (fun s p => s.remove_grantsNone p .flushed) _ s

/-- A grant pass runs in RUNNING alone, and does not leave it (R41). -/
theorem State.grantPass_inRunning (quiet : Option Slot) : GrantsInRunning s (s.grantPass quiet) := by
  by_cases running : s.control.mode = .running
  · exact .inr (by rw [(s.grantPass_keeps quiet).control, running])
  · rw [State.grantPass_of_notRunning running]
    exact .rfl

theorem State.afterEvent_inRunning (before : State) (starts : Bool) :
    GrantsInRunning s (State.afterEvent before s starts) := by
  have drained := (State.drainedPost_keepsBook before s).sameCore.grantsNone
  rw [State.afterEvent_eq]
  split
  · exact drained.andInRunning (State.grantPass_inRunning _ none)
  · exact drained.inRunning

/-! #### The Tracker -/

/-- An examination releases cells of an ENTERED passage, which stays ENTERED or leaves (R67). -/
theorem State.examination_grantsNone (p : Slot) (toBlind : Bool) : GrantsNone s (s.examination p toBlind).1 := by
  unfold State.examination
  split
  · exact .rfl
  · rename_i q hq
    split
    · rename_i entered
      obtain ⟨-, book⟩ := State.releaseFront_eq (p := p) (q.position.getD 0) (s.heldRun q) q.firstHeld s q hq rfl
      have released := ((GrantsNone.of_pool (s.updateCells_pool CellRec.freed _)).setPassage p
        (fun r hr => by cases hr; simp [entered])).trans book.sameCore.grantsNone
      dsimp only
      split
      · split
        · exact released.trans (State.remove_grantsNone _ p .cleared)
        · exact released
      · split
        · exact released.trans (State.armBlindClear_sameCore _ _).grantsNone
        · exact released
    · exact .rfl

theorem State.enter_grantsNone (p : Slot) (q : Passage) (k : Nat) (c : CellId) : GrantsNone s (s.enter p q k c) := by
  have entered : GrantsNone s
      (s.setPassage p (some { q with state := .entered, position := some k, firstHeld := 0 })) :=
    GrantsNone.rfl.setPassage p fun r hr => by cases hr; exact nofun
  exact (entered.trans ((State.setLatch_sameCore _ _ .stop).trans (State.armDwell_sameCore _ p c)).grantsNone).trans
    (State.examination_grantsNone _ p false)

/-- A change report makes no passage GRANTED (R59). -/
theorem State.takeChange_grantsNone (c : CellId) (occ : Occupancy) (stamp : Time) :
    GrantsNone s (s.takeChange c occ stamp).1 := by
  have told : GrantsNone s (s.told c occ) := State.told_sameCore.grantsNone
  have intrudes : ∀ reason who, GrantsNone s ((s.told c occ).intrude c reason who stamp) := fun reason who =>
    told.trans (State.intrude_sameCore _ c reason who stamp).grantsNone
  change GrantsNone s (State.takeChange s c occ stamp).1
  unfold State.takeChange
  dsimp only
  rw [← State.told]
  split
  · split
    · exact told
    · exact intrudes _ _
  · split
    · exact told
    · split
      · exact told
      · split
        · split
          · exact told.trans (State.enter_grantsNone _ _ _ _ _)
          · exact intrudes _ _
        · exact intrudes _ _
    · refine GrantsNone.trans ?_ (State.examination_grantsNone _ _ _)
      split
      · exact told
      · exact told.trans (State.occupiedAhead_sameCore _ _ _ _ _).grantsNone

/-! #### Sensors and SETTLING -/

theorem State.toStandby_grantsNone (c : CellId) : GrantsNone s (s.toStandby c).1 :=
  (GrantsNone.of_pool (s := s) rfl).trans (State.takeChange_grantsNone _ _ _ _)

theorem State.restartFilter_grantsNone (c : CellId) : GrantsNone s (s.restartFilter c).1 := by
  unfold State.restartFilter
  dsimp only
  split
  · exact .of_pool rfl
  · exact (GrantsNone.of_pool (s := s) rfl).trans (State.takeChange_grantsNone _ _ _ _)

theorem State.toActive_grantsNone (c : CellId) : GrantsNone s (s.toActive c).1 :=
  (GrantsNone.of_pool (s := s) rfl).trans (State.restartFilter_grantsNone _ c)

theorem State.changeSensor_grantsNone (c : CellId) (m : SensorMode) : GrantsNone s (s.changeSensor c m).1 := by
  cases m
  · exact s.toActive_grantsNone c
  · exact s.toStandby_grantsNone c

theorem State.restartFilters_grantsNone : GrantsNone s s.restartFilters :=
  grantsNone_foldl (fun s c => by split; exacts [s.restartFilter_grantsNone c, .rfl]) _ s

theorem State.returnSensor_grantsNone (c : CellId) : GrantsNone s (s.returnSensor c) := by
  unfold State.returnSensor
  split
  · exact .rfl
  · split
    · exact s.restartFilter_grantsNone c
    · exact .rfl
    · exact s.toStandby_grantsNone c
    · exact s.toActive_grantsNone c

theorem State.enterSettling_grantsNone : GrantsNone s s.enterSettling := by
  unfold State.enterSettling
  dsimp only
  refine s.restartFilters_grantsNone.trans (SameCore.trans ?_ (State.postMode_sameCore _)).grantsNone
  split
  · exact State.setControl_sameCore _ _
  · exact (State.setControl_sameCore _ _).trans (State.halt_sameCore _ _ _)

/-! #### Owners of frames -/

theorem State.request_inRunning (m : MasterSlot) (carrier : CarrierId) (route cls speed : Byte) (length : BitVec 16) :
    GrantsInRunning s (s.request m carrier route cls speed length).1 := by
  unfold State.request
  split
  · exact .rfl
  · rename_i r p _
    have admitted : GrantsNone s (s.admission p (s.newPassage m carrier r cls speed length)) :=
      GrantsNone.rfl.setPassage p fun x hx => by cases hx; exact nofun
    exact admitted.andInRunning (State.grantPass_inRunning _ (some p))

theorem State.afterRemoval_inRunning (p : Slot) (o : Outcome) :
    GrantsInRunning s (s.afterEvent (s.remove p o) true) :=
  (s.remove_grantsNone p o).andInRunning (State.afterEvent_inRunning _ s true)

theorem State.withdraw_inRunning (src : Node) (slot : Byte) (carrier : CarrierId) :
    GrantsInRunning s (s.withdraw src slot carrier).1 := by
  unfold State.withdraw
  split
  · exact .rfl
  · split
    · exact .rfl
    · split
      · exact .rfl
      · exact s.afterRemoval_inRunning _ _

theorem State.forceRelease_inRunning (slot : Byte) (carrier : CarrierId) :
    GrantsInRunning s (s.forceRelease slot carrier).1 := by
  unfold State.forceRelease
  split
  · exact .rfl
  · exact s.afterRemoval_inRunning _ _

theorem State.lockCell_pool (c : CellId) : (s.lockCell c).book.pool = s.book.pool := by
  obtain ⟨⟨-, book, -⟩, -⟩ := s.lockCell_does c
  exact (congrArg Book.pool book).trans (s.setCell_book_pool c _)

theorem State.lockCells_inRunning (set : BitVec 32) : GrantsInRunning s (s.lockCells set).1 := by
  unfold State.lockCells
  split
  · exact .rfl
  · exact (grantsNone_foldl (fun s c => .of_pool (s.lockCell_pool c)) _ s).inRunning

theorem State.unlockCells_inRunning (set : BitVec 32) : GrantsInRunning s (s.unlockCells set).1 := by
  unfold State.unlockCells
  split
  · exact .rfl
  · have unlocked : GrantsNone s ((cellsIn set).foldl State.unlockCell s) :=
      grantsNone_foldl (f := State.unlockCell) (fun s c => .of_pool rfl) _ s
    dsimp only
    split
    · exact unlocked.andInRunning (State.grantPass_inRunning _ none)
    · exact unlocked.inRunning

theorem State.setSensorMode_inRunning (cell mode : Byte) : GrantsInRunning s (s.setSensorMode cell mode).1 := by
  unfold State.setSensorMode
  split
  · exact .rfl
  · dsimp only
    split
    · exact .rfl
    · exact (s.changeSensor_grantsNone _ _).andInRunning (State.afterEvent_inRunning _ s _)

theorem State.drain_grantsNone : GrantsNone s s.drain.1 := by
  unfold State.drain
  dsimp only
  split
  · exact ((s.setMode_sameCore _).trans (State.postMode_sameCore _)).grantsNone
  · exact .rfl

/-- A RESUME grants where it has led to RUNNING (R127, step 5). -/
theorem State.leaveHalted_inRunning (m : Mode) : GrantsInRunning s (s.leaveHalted m) :=
  ((((s.setMode_sameCore m).trans (State.modLiveDeadlines_sameCore _ _)).trans (State.goLatches_sameCore _)).trans
    (State.postMode_sameCore _)).grantsNone.andInRunning (State.grantPass_inRunning _ none)

theorem State.resume_inRunning : GrantsInRunning s s.resume.1 := by
  unfold State.resume
  split
  · split
    · exact .rfl
    · dsimp only
      split
      · exact s.leaveHalted_inRunning _
      · exact s.leaveHalted_inRunning _
      · exact s.enterSettling_grantsNone.inRunning
      · exact s.enterSettling_grantsNone.inRunning
  · dsimp only
    exact ((s.setMode_sameCore .running).trans (State.postMode_sameCore _)).grantsNone.andInRunning
      (State.grantPass_inRunning _ none)
  all_goals exact .rfl

theorem State.restart_grantsNone : GrantsNone s s.restart.1 := by
  have returned := (s.flush_grantsNone fun _ => true).trans
    (grantsNone_foldl State.returnSensor_grantsNone (List.finRange 32) _)
  unfold State.restart
  dsimp only
  split
  · exact returned.trans ((State.setControl_sameCore _ _).trans (State.postMode_sameCore _)).grantsNone
  · exact returned.trans (State.enterSettling_grantsNone _)

theorem State.openService_grantsNone (src : Node) : GrantsNone s (s.openService src).1 := by
  unfold State.openService
  split
  case h_1 => dsimp only; exact (s.enterService_sameCore src).grantsNone
  case h_2 => dsimp only; exact (s.nameServiceNode_sameCore src).grantsNone
  case h_3 | h_4 =>
    split
    · exact .rfl
    · dsimp only
      exact (s.flush_grantsNone _).trans (State.enterService_sameCore _ src).grantsNone
  all_goals exact .rfl

theorem State.load_grantsNone (map : Except Verdict WorkingMap) : GrantsNone s (s.load map).1 := by
  unfold State.load
  split <;> exact .of_pool rfl

theorem State.commitMap_grantsNone : GrantsNone s s.commitMap.1 := by
  unfold State.commitMap
  split
  · exact .rfl
  · dsimp only
    rw [State.commit_eq_enterSettling]
    exact (GrantsNone.of_pool s.committed_pool).trans (State.enterSettling_grantsNone _)

theorem State.junctionPart1_grantsNone (src : Node) : GrantsNone s (s.junctionPart1 src).1 := by
  unfold State.junctionPart1 State.storeSnapshot
  dsimp only
  split <;> exact .of_pool rfl

theorem State.junctionPart2_grantsNone (src : Node) : GrantsNone s (s.junctionPart2 src).1 := by
  unfold State.junctionPart2
  split <;> exact .rfl

theorem State.junctionPart_grantsNone (src : Node) (part : Byte) : GrantsNone s (s.junctionPart src part).1 := by
  unfold State.junctionPart
  split
  · exact s.junctionPart1_grantsNone src
  · split
    · exact s.junctionPart2_grantsNone src
    · exact .rfl

end

end Sys2Proof.Machine
namespace Sys2Proof.Machine

section
variable {s t u : State}

/-! #### Events -/

theorem whenRunning_inRunning {f : State → State} (hf : ∀ u, GrantsInRunning u (f u))
    (h : s.whenRunning f = .next t) : GrantsInRunning s t := by
  rcases whenRunning_eq h with rfl | ⟨-, rfl⟩
  · exact .rfl
  · exact hf s

/-- An event that leaves the core of the book alone grants nothing. -/
theorem whenRunning_sameCore {f : State → State} (hf : ∀ u, SameCore u (f u)) (h : s.whenRunning f = .next t) :
    GrantsInRunning s t :=
  whenRunning_inRunning (fun u => (hf u).grantsNone.inRunning) h

theorem onFrame_inRunning {c : Instr} {owner : State → State × Verdict}
    (ho : ∀ u, GrantsInRunning u (owner u).1) (h : onFrame c s owner = .next t) : GrantsInRunning s t := by
  have read : ∀ f, GrantsNone s (s.readFrame f) := fun f => .of_pool rfl
  have tail : ∀ (u : State) v, GrantsInRunning u (u.giveTail v) := fun u v => .inl (.of_pool rfl)
  rcases onFrame_cases h with rfl | ⟨f, -, -, ⟨-, rfl⟩ | ⟨v, -, rfl⟩ | ⟨-, rfl⟩⟩
  · exact .rfl
  · exact (read f).inRunning
  · exact (read f).andInRunning (tail _ v)
  · exact ((read f).andInRunning (ho _)).trans (tail _ _) rfl

theorem onServiceFrame_inRunning {c : Instr} {n : Node} {owner : State → State × Verdict}
    (ho : ∀ u, GrantsInRunning u (owner u).1) (h : onServiceFrame c n s owner = .next t) : GrantsInRunning s t := by
  refine onFrame_inRunning (fun u => ?_) h
  split
  · exact ho u
  · exact .rfl

variable (s)

theorem State.recordError_sameCore (k : LineError) : SameCore s (s.recordError k) := s.setLiu_sameCore _

theorem State.retireNotice_sameCore (k : MasterSlot) (lost : Bool) (rx : Option Receive) :
    SameCore s (s.retireNotice k lost rx) := by
  refine SameCore.trans ?_ (State.refill_keepsBook _).sameCore
  exact .of_book rfl rfl

theorem State.modGranted_sameCore (a : ApproachId) (f : Deadline → Deadline) : SameCore s (s.modGranted a f) := by
  unfold State.modGranted
  split
  · exact .rfl
  · exact s.modDeadline_sameCore _ f

theorem State.judgeReadback_sameCore (a : ApproachId) : SameCore s (s.judgeReadback a) := by
  have signal := s.setSignal_sameCore a
  unfold State.judgeReadback
  dsimp only
  split
  case h_1 | h_2 => exact (signal _).trans (State.modGranted_sameCore _ _ _)
  case h_3 => exact (signal _).trans (State.joinCause_sameCore _ _)
  case h_4 =>
    split
    · exact signal _
    · exact (signal _).trans (State.leaveCause_sameCore _ _)

theorem State.emergencyStop_sameCore : SameCore s s.emergencyStop := by
  unfold State.emergencyStop State.sendHaltPulse
  dsimp only
  split
  case h_1 | h_2 | h_3 => exact (s.joinCause_sameCore _).trans (State.setLiu_sameCore _ _)
  case h_4 | h_5 | h_6 => exact s.joinCause_sameCore _

/-- SETTLING ends in RUNNING, with a grant pass (R121). -/
theorem State.riseSettleCount_inRunning : GrantsInRunning s s.riseSettleCount := by
  unfold State.riseSettleCount
  dsimp only
  split
  · have counted := s.setControl_sameCore { s.control with settleCount := s.control.settleCount + 1 }
    split
    · exact ((counted.trans (State.setControl_sameCore _ _)).trans (State.postMode_sameCore _)).grantsNone.andInRunning
        (State.grantPass_inRunning _ none)
    · exact counted.grantsNone.inRunning
  · exact .rfl

theorem State.occupancyChange_inRunning (c : CellId) : GrantsInRunning s (s.occupancyChange c) := by
  unfold State.occupancyChange
  split
  · exact (s.takeChange_grantsNone c _ _).andInRunning (State.afterEvent_inRunning _ s _)
  · exact .rfl

/-! #### Expiries, which leave the mode alone -/

theorem State.expiry_inRunning (p : Slot) (k : ArmedKind) (o : Outcome) :
    GrantsInRunning s (if s.expiryDue p k then s.afterEvent (s.remove p o) true else s) ∧
      (if s.expiryDue p k then s.afterEvent (s.remove p o) true else s).control = s.control := by
  split
  · exact ⟨s.afterRemoval_inRunning p o, (s.afterRemoval_keeps p o).control⟩
  · exact ⟨.rfl, rfl⟩

theorem State.dwellExpiry_inRunning (p : Slot) :
    GrantsInRunning s (s.dwellExpiry p) ∧ (s.dwellExpiry p).control = s.control := by
  unfold State.dwellExpiry
  split
  · exact ⟨.rfl, rfl⟩
  · rename_i q hq
    dsimp only
    split
    · have posted := State.postOwnerAndSafety_keepsBook
        (s.setPassage p (some (q.afterDwell s.timer.floor))) q.overdue.body p (q.afterDwell s.timer.floor)
      have same : SameCore s (s.setPassage p (some (q.afterDwell s.timer.floor))) := by
        have modified := s.modPassage_sameCore p (f := fun q => q.afterDwell s.timer.floor) fun _ => rfl
        rwa [State.modPassage, hq] at modified
      exact ⟨(same.trans posted.sameCore).grantsNone.inRunning, posted.1.control⟩
    · exact ⟨.rfl, rfl⟩

theorem State.expire_inRunning (p : Slot) : GrantsInRunning s (s.expire p) ∧ (s.expire p).control = s.control := by
  obtain ⟨arrival, mode⟩ := s.expiry_inRunning p .arrival .lapsed
  obtain ⟨dwell, mode'⟩ := (s.arrivalExpiry p).dwellExpiry_inRunning p
  obtain ⟨blind, mode''⟩ := ((s.arrivalExpiry p).dwellExpiry p).expiry_inRunning p .blindClear .cleared
  exact ⟨(arrival.trans dwell (congrArg Control.mode mode')).trans blind (congrArg Control.mode mode''),
    mode''.trans (mode'.trans mode)⟩

theorem State.tick_inRunning (l : List Slot) : GrantsInRunning s (l.foldl State.expire s).increment := by
  have each : ∀ (l : List Slot) (s : State),
      GrantsInRunning s (l.foldl State.expire s) ∧ (l.foldl State.expire s).control = s.control := by
    intro l
    induction l with
    | nil => exact fun s => ⟨.rfl, rfl⟩
    | cons p rest ih =>
      intro s
      obtain ⟨first, mode⟩ := s.expire_inRunning p
      obtain ⟨others, mode'⟩ := ih (s.expire p)
      exact ⟨first.trans others (congrArg Control.mode mode'), mode'.trans mode⟩
  exact (each l s).1.trans (.inl (.of_pool rfl)) rfl

/-! #### The line and the pins -/

variable {s}

theorem execNoticeFrameStart_inRunning (h : execNoticeFrameStart s = .next t) : GrantsInRunning s t := by
  refine whenRunning_sameCore (fun u => ?_) h
  split
  · exact .rfl
  · split
    · exact .of_book rfl rfl
    · exact .rfl

theorem execNoticeSentClean_inRunning (h : execNoticeSentClean s = .next t) : GrantsInRunning s t := by
  refine whenRunning_sameCore (fun u => ?_) h
  split
  · exact u.retireNotice_sameCore _ _ _
  · exact .rfl

theorem execNoticeBitError_inRunning (h : execNoticeBitError s = .next t) : GrantsInRunning s t := by
  refine whenRunning_sameCore (fun u => ?_) h
  split
  · dsimp only
    split
    · exact .of_book rfl rfl
    · exact ((u.recordError_sameCore _).trans (State.recordError_sameCore _ _)).trans
        (State.retireNotice_sameCore _ _ _ _)
  · exact .rfl

theorem execArbitrationLost_inRunning {loss : Loss} (h : execArbitrationLost loss s = .next t) :
    GrantsInRunning s t := by
  refine whenRunning_sameCore (fun u => ?_) h
  split
  · exact .rfl
  · exact u.setLiu_sameCore _
  · split
    · exact u.setLiu_sameCore _
    · exact .rfl

theorem execFrameError_inRunning {raw : RawFrame} (h : execFrameError raw s = .next t) : GrantsInRunning s t := by
  refine whenRunning_sameCore (fun u => ?_) h
  split
  · exact .rfl
  · split
    · exact (u.setLiu_sameCore _).trans (State.recordError_sameCore _ _)
    · exact u.setLiu_sameCore _
    · exact .rfl

theorem execTailBitError_inRunning (h : execTailBitError s = .next t) : GrantsInRunning s t := by
  refine whenRunning_sameCore (fun u => ?_) h
  split
  · exact .rfl
  · split
    · exact (u.setLiu_sameCore _).trans (State.recordError_sameCore _ _)
    · exact .rfl

/-- An event with one condition, and work that leaves the core of the book alone. -/
theorem whenRunning_ite_sameCore {p : State → Prop} [DecidablePred p] {f : State → State}
    (hf : ∀ u, SameCore u (f u)) (h : (s.whenRunning fun u => if p u then f u else u) = .next t) :
    GrantsInRunning s t := by
  refine whenRunning_sameCore (fun u => ?_) h
  split
  · exact hf u
  · exact .rfl

theorem execSettleCountRise_inRunning (h : execSettleCountRise s = .next t) : GrantsInRunning s t := by
  refine whenRunning_inRunning (fun u => ?_) h
  split
  · exact (u.setControl_sameCore _).grantsNone.andInRunning (State.riseSettleCount_inRunning _)
  · exact .rfl

theorem afterReset_grantsNone (straps : BitVec 4) (l : List Instr) :
    GrantsNone s { State.afterReset straps with pending := l } := fun p r hr _ => by
  simp [State.passage, State.afterReset] at hr

/-! #### Commands and steps -/

theorem exec_inRunning {c : Instr} (h : exec c s = .next t) : GrantsInRunning s t := by
  cases c
  all_goals simp only [exec, execIdentify, execLinePattern, execQueryJunctionPart1, execQueryJunctionPart2,
    execQueryPassage, execQueryCell, execQueryLine, execRequestPassage, execWithdraw, execLockCells, execUnlockCells,
    execSetSensor, execForceRelease, execDrain, execResume, execRestart, execOpenService, execLoadOptions, execLoadCell,
    execLoadApproach, execLoadRoute, execLoadRouteCells, execLoadMaster, execCommitMap, execScan,
    execOccupancyChange, execTick, execArrivalExpiry, execDwellExpiry, execBlindClearExpiry, execHardwareReset,
    execOscillatorReady, execResetRelease] at h
  case identify | linePattern | queryPassage | queryCell => exact onFrame_inRunning (fun u => .rfl) h
  case queryJunctionPart1 => exact onFrame_inRunning (fun u => (u.junctionPart_grantsNone _ _).inRunning) h
  case queryJunctionPart2 => exact onFrame_inRunning (fun u => (u.junctionPart2_grantsNone _).inRunning) h
  case queryLine => exact onFrame_inRunning (fun u => .inl (.of_pool rfl)) h
  case requestPassage =>
    refine onFrame_inRunning (fun u => ?_) h
    split
    · exact .rfl
    · exact u.request_inRunning _ _ _ _ _ _
  case withdraw => exact onFrame_inRunning (fun u => u.withdraw_inRunning _ _ _) h
  case forceRelease => exact onFrame_inRunning (fun u => u.forceRelease_inRunning _ _) h
  case lockCells => exact onFrame_inRunning (fun u => u.lockCells_inRunning _) h
  case unlockCells => exact onFrame_inRunning (fun u => u.unlockCells_inRunning _) h
  case setSensor => exact onFrame_inRunning (fun u => u.setSensorMode_inRunning _ _) h
  case drain => exact onFrame_inRunning (fun u => u.drain_grantsNone.inRunning) h
  case resume => exact onFrame_inRunning (fun u => u.resume_inRunning) h
  case restart => exact onFrame_inRunning (fun u => u.restart_grantsNone.inRunning) h
  case openService => exact onFrame_inRunning (fun u => (u.openService_grantsNone _).inRunning) h
  case loadOptions | loadCell | loadApproach | loadRoute | loadRouteCells | loadMaster =>
    exact onServiceFrame_inRunning (fun u => (u.load_grantsNone _).inRunning) h
  case commitMap => exact onServiceFrame_inRunning (fun u => u.commitMap_grantsNone.inRunning) h
  case frameError => exact execFrameError_inRunning h
  case tailBitError => exact execTailBitError_inRunning h
  case noiseRun => exact whenRunning_ite_sameCore (fun u => u.recordError_sameCore _) h
  case lineIdle | lineBusy => exact whenRunning_ite_sameCore (fun u => u.setLiu_sameCore _) h
  case noticeFrameStart => exact execNoticeFrameStart_inRunning h
  case arbitrationLost => exact execArbitrationLost_inRunning h
  case noticeSentClean => exact execNoticeSentClean_inRunning h
  case noticeBitError => exact execNoticeBitError_inRunning h
  case haltPulseStart =>
    exact whenRunning_ite_sameCore (fun u => (u.setLiu_sameCore _).trans (State.joinCause_sameCore _ _)) h
  case haltPulseEnd | lineStuckRecovery =>
    exact whenRunning_ite_sameCore (fun u => (u.setLiu_sameCore _).trans (State.leaveCause_sameCore _ _)) h
  case lineStuck =>
    exact whenRunning_ite_sameCore (fun u => ((u.setLiu_sameCore _).trans (State.recordError_sameCore _ _)).trans
      (State.joinCause_sameCore _ _)) h
  case haltPulseRelease => exact whenRunning_sameCore (fun u => u.setLiu_sameCore _) h
  case scan => exact whenRunning_sameCore (fun u => u.scan_sameCore _ _ _) h
  case occupancyChange => exact whenRunning_inRunning (fun u => u.occupancyChange_inRunning _) h
  case readbackChange => exact whenRunning_ite_sameCore (fun u => u.judgeReadback_sameCore _) h
  case emergencyAsserted =>
    exact whenRunning_ite_sameCore (fun u => (u.setControl_sameCore _).trans (State.emergencyStop_sameCore _)) h
  case emergencyClear =>
    exact whenRunning_ite_sameCore (fun u => (u.setControl_sameCore _).trans (State.leaveCause_sameCore _ _)) h
  case settleCountRise => exact execSettleCountRise_inRunning h
  case tick => exact whenRunning_inRunning (fun u => u.tick_inRunning _) h
  case arrivalExpiry => exact whenRunning_inRunning (fun u => (u.expiry_inRunning _ _ _).1) h
  case dwellExpiry => exact whenRunning_inRunning (fun u => (u.dwellExpiry_inRunning _).1) h
  case blindClearExpiry => exact whenRunning_inRunning (fun u => (u.expiry_inRunning _ _ _).1) h
  case hardwareReset =>
    rw [Host.Outcome.next.injEq] at h
    subst h
    split
    · exact .inl (.of_pool rfl)
    · exact .rfl
  case oscillatorReady straps =>
    rw [Host.Outcome.next.injEq] at h
    subst h
    split
    · exact (afterReset_grantsNone straps s.pending).inRunning
    · exact .rfl
  case resetRelease =>
    rw [Host.Outcome.next.injEq] at h
    subst h
    split
    · exact .inl (.of_pool rfl)
    · exact .rfl

theorem State.crystalCycle_pool (s : State) : s.crystalCycle.book.pool = s.book.pool := by
  unfold State.crystalCycle
  split <;> rfl

theorem step_inRunning (h : step s = .next t) : GrantsInRunning s t := by
  unfold step at h
  split at h
  · cases h
    exact .inl (.of_pool s.crystalCycle_pool)
  · rename_i rest _
    have popped : GrantsNone s { s with pending := rest } := .of_pool rfl
    exact popped.andInRunning (exec_inRunning h)

end

/-- Settles O13: outside the grant pass no work makes a passage GRANTED, a pass runs in RUNNING alone, and no command
leaves RUNNING after its pass. -/
theorem grantOnlyInRunning : Obligations.GrantOnlyInRunning := by
  intro s t p q h hq granted before
  rcases step_inRunning h with none | running
  · obtain ⟨r, hr, was⟩ := none p q hq granted
    exact absurd was (before r hr)
  · exact running

end Sys2Proof.Machine

namespace Sys2Proof.Machine

/-! ### Grant order (R45) -/

/-- `x` stands before `y` in grant order: it is blocking alone, or of the higher class, or the older (R45). -/
def StandsBefore (order : List Slot) (x y : Entrant) : Prop :=
  (x.2.blocking = true ∧ y.2.blocking = false) ∨
    (x.2.blocking = y.2.blocking ∧ y.2.priority < x.2.priority) ∨
    (x.2.blocking = y.2.blocking ∧ x.2.priority = y.2.priority ∧ order.idxOf x.1 < order.idxOf y.1)

section
variable {order : List Slot} {x y z : Entrant}

theorem goesBefore_iff : goesBefore order x y = true ↔ StandsBefore order x y := by
  unfold goesBefore StandsBefore placeIn
  by_cases blocking : x.2.blocking = y.2.blocking
  · rw [if_neg (not_not.2 blocking)]
    by_cases priority : x.2.priority = y.2.priority
    · simp [blocking, priority]
    · rw [if_pos priority]
      simp [blocking, priority]
  · rw [if_pos blocking]
    have opposite : y.2.blocking = !x.2.blocking := Bool.eq_not_of_ne (Ne.symm blocking)
    simp [opposite]

theorem StandsBefore.trans (h : StandsBefore order x y) (k : StandsBefore order y z) : StandsBefore order x z := by
  unfold StandsBefore at h k ⊢
  rcases h with ⟨bx, by'⟩ | ⟨bxy, lt⟩ | ⟨bxy, pxy, lt⟩
  · rcases k with ⟨by'', -⟩ | ⟨byz, -⟩ | ⟨byz, -⟩
    · exact absurd (by'.symm.trans by'') Bool.false_ne_true
    · exact .inl ⟨bx, byz.symm.trans by'⟩
    · exact .inl ⟨bx, byz.symm.trans by'⟩
  · rw [bxy]
    rcases k with first | ⟨byz, lt'⟩ | ⟨byz, pyz, -⟩
    · exact .inl first
    · exact .inr (.inl ⟨byz, lt'.trans lt⟩)
    · exact .inr (.inl ⟨byz, pyz ▸ lt⟩)
  · rw [bxy, pxy]
    rcases k with first | second | ⟨byz, pyz, lt'⟩
    · exact .inl first
    · exact .inr (.inl second)
    · exact .inr (.inr ⟨byz, pyz, lt.trans lt'⟩)

/-- Two candidates of different slots never tie. -/
theorem standsBefore_or (hx : x.1 ∈ order) (h : x.1 ≠ y.1) : StandsBefore order x y ∨ StandsBefore order y x := by
  have place : order.idxOf x.1 ≠ order.idxOf y.1 := fun e => h ((List.idxOf_inj hx).1 e)
  by_cases blocking : x.2.blocking = y.2.blocking
  · rcases Nat.lt_trichotomy x.2.priority y.2.priority with lower | same | higher
    · exact .inr (.inr (.inl ⟨blocking.symm, lower⟩))
    · rcases Nat.lt_or_gt_of_ne place with older | younger
      · exact .inl (.inr (.inr ⟨blocking, same, older⟩))
      · exact .inr (.inr (.inr ⟨blocking.symm, same.symm, younger⟩))
    · exact .inl (.inr (.inl ⟨blocking, higher⟩))
  · have opposite : y.2.blocking = !x.2.blocking := Bool.eq_not_of_ne (Ne.symm blocking)
    cases bx : x.2.blocking with
    | true => exact .inl (.inl ⟨bx, by rw [opposite, bx]; rfl⟩)
    | false => exact .inr (.inl ⟨by rw [opposite, bx]; rfl, bx⟩)

theorem insertCandidate_pairwise {l : List Entrant} (sorted : l.Pairwise (StandsBefore order)) (hx : x.1 ∈ order)
    (new : ∀ y ∈ l, x.1 ≠ y.1) : (insertCandidate order x l).Pairwise (StandsBefore order) := by
  induction l with
  | nil => exact List.pairwise_singleton _ _
  | cons y rest ih =>
    obtain ⟨head, tail⟩ := List.pairwise_cons.1 sorted
    unfold insertCandidate
    split
    · rename_i before
      have before : StandsBefore order x y := goesBefore_iff.1 before
      exact List.pairwise_cons.2 ⟨List.forall_mem_cons.2 ⟨before, fun z hz => before.trans (head z hz)⟩, sorted⟩
    · rename_i behind
      have after : StandsBefore order y x :=
        (standsBefore_or hx (new y List.mem_cons_self)).resolve_left fun h => behind (goesBefore_iff.2 h)
      refine List.pairwise_cons.2 ⟨fun z hz => ?_, ih tail fun z hz => new z (List.mem_cons_of_mem y hz)⟩
      rcases mem_insertCandidate hz with rfl | hz
      · exact after
      · exact head z hz

theorem grantOrder_pairwise {l : List Entrant} (distinct : (l.map Prod.fst).Nodup) (listed : ∀ x ∈ l, x.1 ∈ order) :
    (grantOrder order l).Pairwise (StandsBefore order) := by
  induction l with
  | nil => exact .nil
  | cons x rest ih =>
    obtain ⟨new, distinct⟩ := List.nodup_cons.1 distinct
    refine insertCandidate_pairwise (ih distinct fun y hy => listed y (List.mem_cons_of_mem x hy))
      (listed x List.mem_cons_self) fun y hy e => new ?_
    rw [e]
    exact List.mem_map_of_mem (mem_of_mem_grantOrder hy)

end

/-- Settles O28: stage 2 is an insertion sort by a transitive relation under which candidates of different slots never
tie. -/
theorem grantOrderIsStrict : Obligations.GrantOrderIsStrict := fun order candidates distinct listed =>
  ⟨grantOrder_perm order candidates, grantOrder_pairwise distinct listed⟩

end Sys2Proof.Machine

namespace Sys2Proof.Machine

/-! ### Skip accounting and the reservation sweep (R49 to R52) -/

section
variable {s t : State} {order : List Slot} {granted : List Entrant} {p : Slot} {q : Passage}

/-- A candidate gains a skip: it was not granted, and it was passed over (R49). -/
def State.skipped (s : State) (order : List Slot) (granted : List Entrant) (h : Entrant) : Bool :=
  !(granted.any fun g => g.1 = h.1) && s.passedOver order granted h

/-- What the accounting writes for one passage (R49 to R51). -/
def State.accountedFor (s : State) (order : List Slot) (granted : List Entrant) (h : Entrant) (q : Passage) : Passage :=
  if s.skipped order granted h then q.gainSkip s.map.working.options.skipLimit else q

theorem State.skipped_iff {h : Entrant} :
    s.skipped order granted h = true ↔ (∀ g ∈ granted, g.1 ≠ h.1) ∧
      ∃ g ∈ granted, order.idxOf h.1 < order.idxOf g.1 ∧ ∃ c, c ∈ s.cellsOf g.2 ∧ c ∈ s.cellsOf h.2 := by
  simp only [State.skipped, State.passedOver, placeIn, Bool.and_eq_true, Bool.not_eq_true', List.any_eq_false,
    List.any_eq_true, decide_eq_true_eq, ne_eq]
  exact and_congr_right fun _ => exists_congr fun g => and_congr_right fun _ => and_congr_left' decide_eq_true_iff

theorem State.skipped_congr (same : t.map.working = s.map.working) (h : Entrant) :
    t.skipped order granted h = s.skipped order granted h := by
  have cells : ∀ q, t.cellsOf q = s.cellsOf q := fun q => State.cellsOf_congr same rfl
  simp only [State.skipped, State.passedOver, cells]

/-- The four stages, each by the model's own name (R42). -/
theorem State.grantPass_stages (s : State) (running : s.control.mode = .running) (quiet : Option Slot) :
    s.grantPass quiet =
      ((s.candidates.1.examine quiet (grantOrder s.book.arrivals s.candidates.2)).1.account s.book.arrivals
        (grantOrder s.book.arrivals s.candidates.2)
        (s.candidates.1.examine quiet (grantOrder s.book.arrivals s.candidates.2)).2).sweep := if_pos running

/-- The accounting for one candidate (R49). -/
def State.accountOne (order : List Slot) (granted : List Entrant) (s : State) (h : Entrant) : State :=
  if s.skipped order granted h then s.modPassage h.1 fun q => q.gainSkip s.map.working.options.skipLimit else s

theorem State.account_cons (s : State) (order : List Slot) (h : Entrant) (ordered granted : List Entrant) :
    s.account order (h :: ordered) granted = (s.accountOne order granted h).account order ordered granted := rfl

theorem State.accountOne_map (h : Entrant) : (s.accountOne order granted h).map = s.map := by
  unfold State.accountOne
  split <;> rfl

theorem State.accountOne_eq (h : Entrant) :
    ∃ pool, s.accountOne order granted h = { s with book := { s.book with pool := pool } } := by
  unfold State.accountOne
  split
  · exact ⟨_, rfl⟩
  · exact ⟨s.book.pool, rfl⟩

theorem State.accountOne_passage (h : Entrant) :
    (s.accountOne order granted h).passage p =
      if h.1 = p then (s.passage p).map (s.accountedFor order granted h) else s.passage p := by
  unfold State.accountOne State.accountedFor
  by_cases passed : s.skipped order granted h = true
  · rw [if_pos passed, State.passage_modPassage]
    by_cases e : h.1 = p
    · subst e
      simp only [if_pos passed, if_true]
    · rw [if_neg e, if_neg e]
  · simp only [if_neg passed, Option.map_id', ite_self]

/-- The accounting writes passage records alone. -/
theorem State.account_eq (s : State) (order : List Slot) (ordered granted : List Entrant) :
    ∃ pool, s.account order ordered granted = { s with book := { s.book with pool := pool } } := by
  induction ordered generalizing s with
  | nil => exact ⟨s.book.pool, rfl⟩
  | cons h rest ih =>
    obtain ⟨first, e⟩ := State.accountOne_eq (s := s) (order := order) (granted := granted) h
    obtain ⟨pool, e'⟩ := ih (s.accountOne order granted h)
    exact ⟨pool, by rw [State.account_cons, e', e]⟩

/-- Each candidate is accounted for once. -/
theorem State.account_passage_of_mem {ordered : List Entrant} (distinct : (ordered.map Prod.fst).Nodup) {h : Entrant}
    (mem : h ∈ ordered) : (s.account order ordered granted).passage h.1 =
      (s.passage h.1).map (s.accountedFor order granted h) := by
  induction ordered generalizing s with
  | nil => cases mem
  | cons x rest ih =>
    obtain ⟨new, distinct⟩ := List.nodup_cons.1 distinct
    have apart : ∀ y ∈ rest, y.1 ≠ x.1 := fun y hy e => new (e ▸ List.mem_map_of_mem hy)
    rw [State.account_cons]
    rcases List.mem_cons.1 mem with rfl | mem
    · rw [State.account_passage order granted apart, State.accountOne_passage, if_pos rfl]
    · have map := State.accountOne_map (s := s) (order := order) (granted := granted) x
      have same : (s.accountOne order granted x).accountedFor order granted h = s.accountedFor order granted h := by
        funext q
        rw [State.accountedFor, State.accountedFor, State.skipped_congr (congrArg MapStore.working map), map]
      rw [ih distinct mem, same, State.accountOne_passage, if_neg (apart h mem).symm]

theorem State.accountedFor_of_below {h : Entrant} (passed : s.skipped order granted h = true)
    (below : q.skips < s.map.working.options.skipLimit) :
    s.accountedFor order granted h q =
      { q with
        skips := q.skips + 1
        blocking := q.blocking || decide (q.skips + 1 = s.map.working.options.skipLimit) } := by
  rw [State.accountedFor, if_pos passed, Passage.gainSkip, if_pos below]

theorem State.accountedFor_of_limit (h : Entrant) (limit : s.map.working.options.skipLimit ≤ q.skips) :
    s.accountedFor order granted h q = q := by
  rw [State.accountedFor, Passage.gainSkip, if_neg (not_lt.2 limit), ite_self]

theorem State.accountedFor_of_not {h : Entrant} (not : ¬ s.skipped order granted h = true) :
    s.accountedFor order granted h q = q := if_neg not

/-- When the sweep reserves the route of a passage (R52). -/
def State.MayReserve (s : State) (p : Slot) (q : Passage) : Prop :=
  q.state = .queued ∧ q.blocking = true ∧ (∀ c, (s.cell c).reservation ≠ some p) ∧
    ∀ c ∈ s.cellsOf q, (s.cell c).reservation = none

theorem State.holdsOne_iff :
    (s.book.cells.toList.any fun r => r.reservation = some p) = true ↔ ∃ c, (s.cell c).reservation = some p := by
  rw [List.any_eq_true]
  constructor
  · rintro ⟨r, mem, h⟩
    obtain ⟨c, hc, rfl⟩ := Vector.mem_iff_getElem.1 (Vector.mem_toList_iff.1 mem)
    exact ⟨⟨c, hc⟩, of_decide_eq_true h⟩
  · rintro ⟨c, h⟩
    exact ⟨s.cell c, Vector.mem_toList_iff.2 (Vector.getElem_mem c.isLt), decide_eq_true h⟩

open Classical in
theorem State.reserveFor_eq (hq : s.passage p = some q) :
    s.reserveFor p = if s.MayReserve p q then s.updateCells (CellRec.reservedFor p) (s.cellsOf q) else s := by
  unfold State.reserveFor
  rw [hq]
  dsimp only
  have guard : (q.state = .queued && q.blocking &&
      !(s.book.cells.toList.any fun r => r.reservation = some p) &&
      ((s.cellsOf q).all fun c => (s.cell c).reservation = none || (s.cell c).reservation = some p)) = true ↔
        s.MayReserve p q := by
    rw [Bool.and_eq_true, Bool.and_eq_true, Bool.and_eq_true, Bool.not_eq_true', ← Bool.not_eq_true,
      State.holdsOne_iff, decide_eq_true_iff, List.all_eq_true, State.MayReserve, and_assoc, and_assoc, not_exists]
    refine and_congr_right fun _ => and_congr_right fun _ => and_congr_right fun unreserved => ?_
    exact forall₂_congr fun c _ => by simp [unreserved c]
  exact if_congr guard rfl rfl

end

/-- Settles O31: the accounting writes each candidate once, and the sweep the records of one route. -/
theorem skipsAndReservations : Obligations.SkipsAndReservations := by
  refine ⟨fun s quiet => ⟨fun h => State.grantPass_of_notRunning h quiet, fun running => ?_⟩,
    fun s order ordered granted distinct => ?_, fun s p q hq => ?_⟩
  · rw [s.grantPass_stages running quiet]
    simp only [State.sweep, State.examine, State.candidates]
  · have passage : ∀ h ∈ ordered, ∀ q, s.passage h.1 = some q → (s.account order ordered granted).passage h.1 =
        some (s.accountedFor order granted h q) := fun h mem q hq => by
      rw [State.account_passage_of_mem distinct mem, hq, Option.map_some]
    obtain ⟨pool, eq⟩ := s.account_eq order ordered granted
    refine ⟨fun h mem q hq => ⟨fun passed below => ?_, fun _ limit => ?_, fun not => ?_⟩,
      fun p other => State.account_passage order granted other, ?_⟩
    · rw [passage h mem q hq, State.accountedFor_of_below (State.skipped_iff.2 passed) below]
    · rw [passage h mem q hq, State.accountedFor_of_limit h limit]
    · rw [passage h mem q hq, State.accountedFor_of_not fun passed => not (State.skipped_iff.1 passed)]
    · generalize s.account order ordered granted = t at eq ⊢
      subst eq
      exact ⟨rfl, rfl, rfl, rfl, rfl, ⟨rfl, rfl, rfl, rfl, rfl, rfl, rfl, rfl, rfl, rfl⟩, rfl, rfl, rfl⟩
  · refine ⟨fun may => ?_, fun not => ?_⟩
    · rw [State.reserveFor_eq hq, if_pos (show s.MayReserve p q from may)]
      obtain ⟨cells, eq⟩ := s.updateCells_eq (CellRec.reservedFor p) (s.cellsOf q)
      refine ⟨fun c => ?_, by rw [eq]⟩
      rw [State.cell_updateCells _ (f := CellRec.reservedFor p) fun _ => rfl]
      split <;> rfl
    · rw [State.reserveFor_eq hq, if_neg (show ¬ s.MayReserve p q from not)]

end Sys2Proof.Machine

namespace Sys2Proof.Machine

/-! ### One grant (R47, R48) -/

section
variable {s t u : State} {p : Slot} {q : Passage} {quiet : Option Slot}

/-- The arrival window of a passage with its clamped flag (R48, R82, R84). -/
def State.arrivalWindow (s : State) (q : Passage) : Nat × Bool := windowOf s.map.working.options (s.arrivalMs q)

/-- The passage that a grant puts in the slot (R47, R48). -/
def State.armedGrant (s : State) (q : Passage) : Passage :=
  q.asGranted.armFor .arrival s.map.working.options (s.arrivalMs q) s.timer.floor

/-- A grant before it tells anybody (R47). -/
def State.grantQuietly (s : State) (p : Slot) (q : Passage) : State :=
  ((s.grantedCore p q).setPassage p (some (s.armedGrant q))).setLatch (s.approachOf q) .go

theorem State.grantedCore_keeps : Keeps s (s.grantedCore p q) :=
  (((s.updateCells_keeps _ _).trans (State.clearReservations_keeps _ _)).trans (State.leaveLists_keeps _ _ _)).trans
    (State.setPassage_keeps _ _ _)

theorem State.grantedCore_sameTx : SameTx s (s.grantedCore p q) := by
  have taken := s.updateCells_sameTx (CellRec.heldBy p) (s.cellsOf q)
  obtain ⟨-, -, cleared⟩ := (s.updateCells (CellRec.heldBy p) (s.cellsOf q)).clearReservations_same p
  have left :=
    ((s.updateCells (CellRec.heldBy p) (s.cellsOf q)).clearReservations p).leaveLists_sameTx p (s.approachOf q)
  exact ((taken.trans cleared).trans left).trans ⟨rfl, rfl, rfl⟩

theorem State.grantedCore_signals : (s.grantedCore p q).signals = s.signals := by
  unfold State.grantedCore
  simp

theorem State.grantedCore_marks (b : ApproachId) :
    (s.grantedCore p q).marks[b] = if b = s.approachOf q ∧ s.marks[b] = some p then none else s.marks[b] := by
  unfold State.grantedCore
  rw [State.setPassage_marks, State.marks_leaveLists, State.clearReservations_marks, State.updateCells_marks]
  by_cases h : b = s.approachOf q
  · subst h; rfl
  · rw [if_neg fun e => h e.1, if_neg fun e => h e.1]

theorem State.arrivalMs_congr (map : t.map = s.map) {r : Passage} (route : r.route = q.route)
    (speed : r.speed = q.speed) (load : r.load = q.load) : t.arrivalMs r = s.arrivalMs q := by
  have working := congrArg MapStore.working map
  simp only [State.arrivalMs, State.approachOf_congr working route, working, speed, load]

theorem State.grant_eq (s : State) (quiet : Option Slot) (p : Slot) (q : Passage) :
    s.grant quiet p q =
      if quiet = some p then s.grantQuietly p q
      else (s.grantQuietly p q).postOwner (.granted (BitVec.ofNat 16 (s.arrivalWindow q).1)) p (s.armedGrant q) := by
  obtain ⟨u, hu⟩ : ∃ u, u = ((s.updateCells (CellRec.heldBy p) (s.cellsOf q)).clearReservations p).leaveLists p
    (s.approachOf q) := ⟨_, rfl⟩
  have keeps : Keeps s u := by
    rw [hu]
    exact ((s.updateCells_keeps _ _).trans (State.clearReservations_keeps _ _)).trans (State.leaveLists_keeps _ _ _)
  have quietly : s.grantQuietly p q = (u.setPassage p (some (s.armedGrant q))).setLatch (s.approachOf q) .go := by
    rw [State.grantQuietly, State.grantedCore, State.setPassage_setPassage, hu]
  have armed : q.asGranted.armFor .arrival u.map.working.options (u.arrivalMs q.asGranted) u.timer.floor =
      s.armedGrant q := by
    rw [State.armedGrant, State.arrivalMs_congr keeps.map (q := q) (r := q.asGranted) rfl rfl rfl, keeps.map,
      keeps.timer]
  have latched : Keeps s (s.grantQuietly p q) := by
    rw [quietly]
    exact (keeps.trans (State.setPassage_keeps _ _ _)).trans (State.setLatch_keeps _ _ _)
  have window : windowOf (s.grantQuietly p q).map.working.options ((s.grantQuietly p q).arrivalMs (s.armedGrant q)) =
      s.arrivalWindow q := by
    rw [State.arrivalWindow, State.arrivalMs_congr latched.map (q := q) (r := s.armedGrant q) rfl rfl rfl, latched.map]
  rw [← window, quietly, ← armed, hu]
  rfl

theorem State.grantQuietly_keeps : Keeps s (s.grantQuietly p q) :=
  (State.grantedCore_keeps.trans (State.setPassage_keeps _ _ _)).trans (State.setLatch_keeps _ _ _)

theorem State.grantQuietly_keepsBook (quiet : Option Slot) : KeepsBook (s.grantQuietly p q) (s.grant quiet p q) := by
  rw [State.grant_eq]
  split
  · exact .rfl
  · exact State.postOwner_keepsBook _ _ _ _

theorem State.grantQuietly_cell (c : CellId) :
    (s.grantQuietly p q).cell c =
      { s.cell c with
        holder := if c ∈ s.cellsOf q then some p else (s.cell c).holder
        reservation := if (s.cell c).reservation = some p then none else (s.cell c).reservation } := by
  obtain ⟨-, -, cells⟩ :=
    State.setLatch_keepsCells ((s.grantedCore p q).setPassage p (some (s.armedGrant q))) (s.approachOf q) .go
  have same : (s.grantQuietly p q).book.cells = (s.grantedCore p q).book.cells := cells
  rw [State.cell_congr same, State.grantedCore_cell]

/-- A grant writes holders and reservations (R47). -/
theorem State.grant_cell (quiet : Option Slot) (c : CellId) :
    (s.grant quiet p q).cell c =
      { s.cell c with
        holder := if c ∈ s.cellsOf q then some p else (s.cell c).holder
        reservation := if (s.cell c).reservation = some p then none else (s.cell c).reservation } :=
  ((State.grantQuietly_keepsBook quiet).cell c).trans (State.grantQuietly_cell c)

theorem State.setLatch_book (a : ApproachId) (h : (s.signal a).extStop = false) (latch : Latch) :
    (s.setLatch a latch).book = s.book := by
  unfold State.setLatch
  dsimp only
  split
  · rfl
  · rw [if_neg (by rw [h]; exact Bool.false_ne_true)]
    rfl

/-- An approach without EXT_STOP lends the grant of its head no cause: the book is that of R47 with ARRIVAL armed. -/
theorem State.grantQuietly_book (h : (s.signal (s.approachOf q)).extStop = false) :
    (s.grantQuietly p q).book = ((s.grantedCore p q).setPassage p (some (s.armedGrant q))).book := by
  refine State.setLatch_book _ ?_ _
  have same : ((s.grantedCore p q).setPassage p (some (s.armedGrant q))).signals = s.signals := s.grantedCore_signals
  rw [State.signal, same]
  exact h

theorem State.grantQuietly_signal (b : ApproachId) : (s.grantQuietly p q).signal b =
    if b = s.approachOf q then (s.signal (s.approachOf q)).latched .go else s.signal b := by
  have same : ∀ a, ((s.grantedCore p q).setPassage p (some (s.armedGrant q))).signal a = s.signal a := fun a => by
    rw [State.signal, State.setPassage_signals, State.grantedCore_signals, State.signal]
  rw [State.grantQuietly, State.setLatch_signal, same, same]

theorem State.grantQuietly_marks (b : ApproachId) : (s.grantQuietly p q).marks[b] =
    if b = s.approachOf q ∧ s.marks[b] = some p then none else s.marks[b] := by
  rw [State.grantQuietly, State.setLatch_marks]
  exact State.grantedCore_marks b

theorem State.grantQuietly_sameTx : SameTx s (s.grantQuietly p q) := by
  obtain ⟨latched, -, -⟩ :=
    State.setLatch_keepsCells ((s.grantedCore p q).setPassage p (some (s.armedGrant q))) (s.approachOf q) .go
  exact (State.grantedCore_sameTx.trans ⟨rfl, rfl, rfl⟩).trans latched

/-- An idle record arms ARRIVAL from now (R48, R91). -/
theorem State.armedGrant_of_idle (idle : q.deadline = { run := none, halt := false, extStop := false }) :
    s.armedGrant q =
      { q with
        state := .granted, firstHeld := 0, position := none, skips := 0, blocking := false
        clamped := q.clamped || (s.arrivalWindow q).2
        deadline :=
          { run := some
              { kind := .arrival, window := BitVec.ofNat 16 (s.arrivalWindow q).1
                clock := .armed (s.timer.floor + BitVec.ofNat 16 (s.arrivalWindow q).1) }
            halt := false, extStop := false } } := by
  have other : q.asGranted.deadline.kind ≠ .arrival := by
    rw [show q.asGranted.deadline = _ from idle]
    exact DeadlineKind.noConfusion
  rw [State.armedGrant, Passage.armFor_eq other, show q.asGranted.deadline = _ from idle]
  rfl

theorem State.grant_told (h : quiet ≠ some p) :
    Posted s (s.grant quiet p q)
      [(q.master,
        { body := .granted (BitVec.ofNat 16 (s.arrivalWindow q).1), passage := some (p, q.carrier)
          stamp := s.timer.floor, clamped := (s.armedGrant q).clamped, wasOverdue := false })] := by
  have timer : (s.grantQuietly p q).timer = s.timer := State.grantQuietly_keeps.timer
  rw [State.grant_eq, if_neg h, ← timer]
  exact SameTx.andPosted State.grantQuietly_sameTx (State.postTo_posted _ _ _)

theorem State.grant_untold (h : quiet = some p) : Posted s (s.grant quiet p q) [] := by
  rw [State.grant_eq, if_pos h]
  exact State.grantQuietly_sameTx.posted

end

/-- Settles O29: a grant is the writing of R47, with nothing but its one notice after it. -/
theorem grantEffect : Obligations.GrantEffect := by
  intro s quiet p q idle plain
  dsimp only
  have told := s.grantQuietly_keepsBook (p := p) (q := q) quiet
  obtain ⟨keeps, book, marks, signals⟩ := told
  have bookEq := book.trans (State.grantQuietly_book (p := p) plain)
  have armed := State.armedGrant_of_idle (s := s) idle
  have signal : ∀ b, (s.grant quiet p q).signal b = (s.grantQuietly p q).signal b := fun b => by
    rw [State.signal, signals, State.signal]
  have passage : ∀ x, (s.grant quiet p q).passage x =
      if p = x then some (s.armedGrant q) else s.passage x := fun x => by
    rw [State.passage_congr (congrArg Book.pool bookEq) x, State.passage_setPassage, State.grantedCore_passage]
    split <;> rfl
  have latch : (s.grant quiet p q).signal (s.approachOf q) = (s.signal (s.approachOf q)).latched .go := by
    rw [signal, State.grantQuietly_signal, if_pos rfl]
  refine ⟨fun c => State.grant_cell quiet c, ?_, fun b => ?_, ?_, fun x other => ?_, latch, ?_, fun b other => ?_,
    fun b => ?_, (State.grantQuietly_keeps.trans keeps).sameOutside, fun h => (State.grant_untold h).posts_of_same,
    fun h => ?_⟩
  · rw [bookEq]
    exact s.grantedCore_arrivals
  · refine Eq.trans ?_ (State.grantedCore_queue b)
    rw [State.queue, bookEq]
    rfl
  · rw [passage, if_pos rfl, armed]
    rfl
  · rw [passage, if_neg other.symm]
  · rw [latch, SignalRec.latched_latch]
  · rw [signal, State.grantQuietly_signal, if_neg other]
  · rw [marks]
    exact State.grantQuietly_marks b
  · have clamped : (s.armedGrant q).clamped = (q.clamped || (s.arrivalWindow q).2) := by rw [armed]
    have posted := (s.grant_told (q := q) h).posts_of_same
    rw [clamped] at posted
    exact posted

end Sys2Proof.Machine

namespace Sys2Proof.Machine

/-! ### Candidates, and the cells a pass gives (R42 to R46) -/

/-- A record with what a grant pass may write blotted out: its holder and its reservation. -/
def CellRec.ungiven (r : CellRec) : CellRec := { r with holder := none, reservation := none }

/-- From `s` to `t` holders and reservations alone have changed, and a holder at cells that were free, unlocked and not
intruded alone (R46, R47, R52). -/
structure GivesFree (s t : State) : Prop where
  ungiven : ∀ c, (t.cell c).ungiven = (s.cell c).ungiven
  given : ∀ c, (t.cell c).holder ≠ (s.cell c).holder →
    (s.cell c).holder = none ∧ (s.cell c).lock = .none ∧ (s.cell c).intruded = false

section
variable {s t u : State} {p : Slot} {q : Passage} {a : ApproachId} {formed : List Entrant}

theorem CellRec.ungiven_eq_iff {r r' : CellRec} : r.ungiven = r'.ungiven ↔
    r.lock = r'.lock ∧ r.intruded = r'.intruded ∧ r.occupancy = r'.occupancy ∧ r.stamp = r'.stamp ∧
      r.heard = r'.heard := by
  cases r; cases r'
  simp only [CellRec.ungiven, CellRec.mk.injEq]
  tauto

theorem GivesFree.rfl {s : State} : GivesFree s s := ⟨fun _ => .refl _, fun _ h => absurd (.refl _) h⟩

theorem GivesFree.trans (h : GivesFree s t) (k : GivesFree t u) : GivesFree s u := by
  refine ⟨fun c => (k.ungiven c).trans (h.ungiven c), fun c changed => ?_⟩
  by_cases first : (t.cell c).holder = (s.cell c).holder
  · obtain ⟨free, unlocked, quiet⟩ := k.given c fun e => changed (e.trans first)
    obtain ⟨lock, intruded, -⟩ := CellRec.ungiven_eq_iff.1 (h.ungiven c)
    exact ⟨first.symm.trans free, lock.symm.trans unlocked, intruded.symm.trans quiet⟩
  · exact h.given c first

theorem GivesFree.of_cells (h : t.book.cells = s.book.cells) : GivesFree s t := by
  have cell := State.cell_congr h
  exact ⟨fun c => by rw [cell], fun c changed => absurd (by rw [cell]) changed⟩

theorem givesFree_foldl {α : Type} {f : State → α → State} (h : ∀ s x, GivesFree s (f s x)) (l : List α) (s : State) :
    GivesFree s (l.foldl f s) := by
  induction l generalizing s with
  | nil => exact .rfl
  | cons x rest ih => exact (h s x).trans (ih _)

/-- A grant gives the cells of an eligible route (R46, R47). -/
theorem State.grant_givesFree (quiet : Option Slot) (eligible : s.eligible p q = true) :
    GivesFree s (s.grant quiet p q) := by
  refine ⟨fun c => by rw [State.grant_cell]; rfl, fun c changed => ?_⟩
  rw [State.grant_cell] at changed
  have mem : c ∈ s.cellsOf q := by
    by_contra out
    exact changed (if_neg out)
  obtain ⟨free, unlocked, quiet, -⟩ := State.eligible_iff.1 eligible c mem
  exact ⟨free, unlocked, quiet⟩

theorem State.examine_givesFree (quiet : Option Slot) (l : List Entrant) (s : State) :
    GivesFree s (s.examine quiet l).1 := by
  have each : ∀ (l : List Entrant) (sg : State × List Entrant),
      GivesFree sg.1 (l.foldl (State.examineOne quiet) sg).1 := by
    intro l
    induction l with
    | nil => exact fun _ => .rfl
    | cons x rest ih =>
      intro sg
      refine GivesFree.trans ?_ (ih _)
      unfold State.examineOne
      split
      · rename_i eligible
        exact State.grant_givesFree quiet eligible
      · exact .rfl
  exact each l (s, [])

theorem State.reserveFor_givesFree (s : State) (p : Slot) : GivesFree s (s.reserveFor p) := by
  unfold State.reserveFor
  split
  · exact .rfl
  · dsimp only
    split
    · rename_i q _ _
      have cells : ∀ c, (s.updateCells (CellRec.reservedFor p) (s.cellsOf q)).cell c =
          if c ∈ s.cellsOf q then CellRec.reservedFor p (s.cell c) else s.cell c :=
        fun c => s.cell_updateCells (f := CellRec.reservedFor p) (fun _ => .refl _) _ c
      change GivesFree s (s.updateCells (CellRec.reservedFor p) (s.cellsOf q))
      refine ⟨fun c => by rw [cells]; split <;> rfl, fun c changed => absurd ?_ changed⟩
      rw [cells]
      split <;> rfl
    · exact .rfl

theorem State.runPass_givesFree (s : State) (quiet : Option Slot) : GivesFree s (s.runPass quiet) := by
  obtain ⟨book, -⟩ := s.candidates_heads
  have accounted : ∀ (u : State) (order : List Slot) (ordered granted : List Entrant),
      GivesFree u (u.account order ordered granted) := fun u order ordered granted => by
    obtain ⟨pool, e⟩ := u.account_eq order ordered granted
    exact .of_cells (by rw [e])
  exact (((GivesFree.of_cells (congrArg Book.cells book)).trans (State.examine_givesFree quiet _ _)).trans
    (accounted _ _ _ _)).trans (givesFree_foldl State.reserveFor_givesFree _ _)

theorem State.grantPass_givesFree (s : State) (quiet : Option Slot) : GivesFree s (s.grantPass quiet) := by
  unfold State.grantPass
  split
  · exact s.runPass_givesFree quiet
  · exact .rfl

theorem State.grantedOn_of_none (h : ∀ x, ¬ s.GrantedAt x a) : s.grantedOn a = none := by
  cases found : s.grantedOn a with
  | none => rfl
  | some x => exact absurd (State.grantedOn_some found) (h x)

theorem State.grantedOn_of_some (h : ∃ x, s.GrantedAt x a) : ∃ x, s.grantedOn a = some x := by
  obtain ⟨x, hx⟩ := h
  cases found : s.grantedOn a with
  | none => exact absurd hx (State.grantedOn_none found x)
  | some y => exact ⟨y, rfl⟩

theorem State.canSee_iff : s.canSee q = true ↔ ∃ c ∈ s.cellsOf q, (s.cell c).occupancy ≠ .blind := by
  simp [State.canSee]

theorem State.considerHead_empty (h : s.queue a = []) :
    State.considerHead a (s, formed) = (s.setMark a none, formed) := by
  unfold State.considerHead
  dsimp only
  rw [h]

theorem State.considerHead_of_granted (head : (s.queue a).head? = some p) (granted : ∃ x, s.GrantedAt x a) :
    State.considerHead a (s, formed) = (s, formed) := by
  obtain ⟨rest, queue⟩ := List.head?_eq_some_iff.1 head
  obtain ⟨x, found⟩ := State.grantedOn_of_some granted
  unfold State.considerHead
  dsimp only
  rw [queue, found]

/-- The report of a head whose route is BLIND from end to end (R44). -/
def State.blindReport (s : State) (p : Slot) (q : Passage) : State :=
  match (s.cellsOf q).head? with
  | none => s
  | some c => s.postSafety (s.note (.intrusion c .blindRoute) (some (p, q)))

theorem State.considerHead_of_head (head : (s.queue a).head? = some p) (hq : s.passage p = some q)
    (ungranted : ∀ x, ¬ s.GrantedAt x a) :
    State.considerHead a (s, formed) =
      if s.canSee q then (s.setMark a none, formed ++ [(p, q)])
      else if s.marks[a] = some p then (s, formed)
      else
        ((s.blindReport p q).setMark a (some p), formed) := by
  obtain ⟨rest, queue⟩ := List.head?_eq_some_iff.1 head
  unfold State.considerHead
  dsimp only
  rw [queue, State.grantedOn_of_none ungranted]
  dsimp only
  rw [hq]
  rfl

/-- The report of a blind route keeps the book, and is the one INTRUSION notice (R44). -/
theorem State.blindReport_does (s : State) (p : Slot) (q : Passage) :
    KeepsBook s (s.blindReport p q) ∧ ∀ c, (s.cellsOf q).head? = some c → Posted s (s.blindReport p q) (toSafety s
      { body := .intrusion c .blindRoute, passage := some (p, q.carrier), stamp := s.timer.floor
        clamped := q.clamped, wasOverdue := false }) := by
  unfold State.blindReport
  split
  · rename_i none
    exact ⟨.rfl, fun c found => absurd (none.symm.trans found) nofun⟩
  · rename_i c found
    refine ⟨State.postSafety_keepsBook _ _, fun d found' => ?_⟩
    cases found.symm.trans found'
    exact s.postSafety_posted _

end

/-- Settles O30: stages 1 and 3 by the cases of the model's functions; the frame of a pass is that of its grants and
reservations, and no stage gives back what a grant took. -/
theorem candidatesAndEligibleCells : Obligations.CandidatesAndEligibleCells := by
  refine ⟨fun s a formed => ⟨State.considerHead_empty, fun p q head hq =>
    ⟨State.considerHead_of_granted head, fun ungranted sees => ?_, fun ungranted blind => ?_⟩⟩,
    fun s quiet p q before => ⟨fun free => if_pos (State.eligible_iff.2 free),
      fun taken => if_neg fun eligible => taken (State.eligible_iff.1 eligible)⟩, fun s quiet c => ?_⟩
  · rw [State.considerHead_of_head head hq ungranted, if_pos (State.canSee_iff.2 sees)]
  · have unseen : ¬ s.canSee q = true := fun sees => by
      obtain ⟨c, mem, other⟩ := State.canSee_iff.1 sees
      exact other (blind c mem)
    obtain ⟨kept, told⟩ := s.blindReport_does p q
    rw [State.considerHead_of_head head hq ungranted, if_neg unseen]
    refine ⟨by split <;> rfl, fun marked => by rw [if_pos marked], fun unmarked => ?_⟩
    rw [if_neg unmarked]
    obtain ⟨keeps, book, marks, signals⟩ := kept
    have outside := (keeps.trans (State.setMark_keeps _ a (some p))).sameOutside
    refine ⟨congrArg (fun m => m.set a (some p)) marks, book, signals, outside, fun c found => ?_⟩
    exact ((told c found).thenSame ⟨rfl, rfl, rfl⟩).posts_of_same
  · obtain ⟨ungiven, given⟩ := s.grantPass_givesFree quiet
    obtain ⟨lock, intruded, occupancy, stamp, -⟩ := CellRec.ungiven_eq_iff.1 (ungiven c)
    refine ⟨lock, intruded, occupancy, stamp, fun changed => ?_⟩
    obtain ⟨free, unlocked, unmarked⟩ := given c changed
    refine ⟨free, unlocked, unmarked, ?_⟩
    by_contra other
    exact changed (by rw [State.grantPass_of_notRunning other])

end Sys2Proof.Machine

namespace Sys2Proof.Machine

/-! ### DRAIN (R122) -/

section
variable {s : State} {src : Node} {hd : FrameHead} {m : MasterSlot}

theorem Mode.operating_iff {mode : Mode} : mode.operating = true ↔ mode ≠ .unmapped ∧ mode ≠ .service := by
  cases mode <;> simp [Mode.operating]

theorem State.judge_drain_closed (closed : s.control.mode.operating = false) :
    s.judge .drain src = .refuse (.refusedMode s.control.mode) := by
  have untaken : ¬ (s.control.mode = .running ∨ s.control.mode = .draining) := by
    rintro (h | h) <;> rw [h] at closed <;> cases closed
  simp [State.judge, closed, Kind.takenIn, not_or.1 untaken]

theorem State.judge_drain_stranger (operating : s.control.mode.operating = true)
    (stranger : s.enrolledSlot src = none) : s.judge .drain src = .noTail := by
  simp [State.judge, operating, stranger, Kind.anyNode]

theorem State.judge_drain_mode (enrolled : s.enrolledSlot src = some m)
    (mode : s.control.mode = .settling ∨ s.control.mode = .halted) :
    s.judge .drain src = .refuse (.refusedMode s.control.mode) := by
  rcases mode with mode | mode <;> simp [State.judge, enrolled, mode, Mode.operating, Kind.takenIn]

/-- In RUNNING and DRAINING an enrolled master's role decides (R129). -/
theorem State.judge_drain_role (enrolled : s.enrolledSlot src = some m)
    (mode : s.control.mode = .running ∨ s.control.mode = .draining) :
    s.judge .drain src = if s.map.enrolment[m].role = .safety then .take else .refuse .refusedRole := by
  rcases mode with mode | mode <;>
    simp [State.judge, enrolled, mode, Mode.operating, Kind.takenIn, Kind.safetyOnly, State.isSafety]

theorem exec_drain : exec (.drain hd) s = onFrame (.drain hd) s State.drain := rfl

theorem State.drain_draining (mode : s.control.mode = .draining) : s.drain = (s, .done (.drain s.liveCount)) := by
  rw [State.drain, if_neg (by rw [mode]; exact Mode.noConfusion)]

theorem State.drain_running (mode : s.control.mode = .running) :
    s.drain = ((s.setMode .draining).postMode, .done (.drain s.liveCount)) := by
  rw [State.drain, if_pos mode]

/-- A frame that the Decoder refuses is answered, and changes nothing (R143). -/
theorem answers_of_refuse {c : Instr} {f : Frame} {v : Verdict} (hf : frameOf c = some f)
    (hears : s.hearsFrame f = true) (refused : s.judge f.kind f.head.src = .refuse v) :
    ∃ t, exec c s = .next t ∧ t.Answers v ∧ SameButTail s t :=
  ⟨_, exec_refuse hf hears refused, (s.sameButTail_answer f v).2, (s.sameButTail_answer f v).1⟩

end

/-- Settles O51: the Decoder's judgement of DRAIN by mode and role, and its owner's one change of mode. -/
theorem drainStopsGranting : Obligations.DrainStopsGranting := by
  intro hd s heard
  obtain ⟨f, hf, hears⟩ := id heard
  have kind : f.kind = .drain ∧ f.head.src = hd.src := by cases hf; exact ⟨rfl, rfl⟩
  obtain ⟨kind, src⟩ := kind
  have judged : ∀ j, s.judge .drain hd.src = j → s.judge f.kind f.head.src = j := fun j h => by rw [kind, src, h]
  have taken : ∀ {m}, s.enrolledSlot hd.src = some m → s.control.mode = .running ∨ s.control.mode = .draining →
      s.map.enrolment[m].role = .safety → s.Takes (.drain hd) := fun member mode safety =>
    ⟨f, hf, hears, judged _ ((State.judge_drain_role member mode).trans (if_pos safety))⟩
  refine ⟨fun closed => answers_of_refuse hf hears (judged _ (State.judge_drain_closed (Mode.closed_iff.1 closed))),
    fun mapped served stranger => ?_, fun m member => ⟨fun mode => ?_, fun mode other => ?_, fun mode safety => ?_,
      fun mode safety => ?_⟩⟩
  · have silent := judged _ (State.judge_drain_stranger (Mode.operating_iff.2 ⟨mapped, served⟩) stranger)
    exact ⟨_, exec_noTail hf hears silent, rfl, rfl⟩
  · exact answers_of_refuse hf hears (judged _ (State.judge_drain_mode member mode))
  · exact answers_of_refuse hf hears (judged _ ((State.judge_drain_role member mode).trans (if_neg other)))
  · exact (taken member (.inr mode) safety).answers exec_drain fun g => State.drain_draining (s := s.readFrame g) mode
  · obtain ⟨g, -, done⟩ := (taken member (.inl mode) safety).exec_eq exec_drain
    rw [State.drain_running (s := s.readFrame g) mode] at done
    have kept := ((s.readFrame g).setMode .draining).postMode_keepsBook
    have posted := State.postMode_posted_answer (s := (s.readFrame g).setMode .draining) (w := s) rfl
      (.done (.drain s.liveCount))
    have sent : SameTx (s.readFrame g) ((s.readFrame g).setMode .draining) := ⟨rfl, rfl, rfl⟩
    have told := (sent.andPosted posted).posts
    dsimp only at done
    generalize ((s.readFrame g).setMode .draining).postMode = t at kept told done
    obtain ⟨keeps, book, marks, signals⟩ := kept
    obtain ⟨power, map, timer, scanner, control, decoder, pending, error, -⟩ := keeps.sameOutside
    have draining : t.control.mode = .draining := congrArg Control.mode control
    have live : t.liveCount = s.liveCount := State.liveCount_congr (congrArg Book.pool book)
    refine ⟨_, done, rfl, control, ⟨book, marks, signals⟩, told.giveTail _, ?_, fun quiet => ?_, power, map, timer,
      scanner, decoder, pending, error⟩
    · change t.drained = _
      simp [State.drained, draining, live]
    · exact State.grantPass_of_notRunning (by rw [State.giveTail_control, draining]; exact Mode.noConfusion) quiet

end Sys2Proof.Machine

namespace Sys2Proof.Machine

/-! ### Entry (R62, R63) -/

section
variable {s t : State} {p : Slot} {q : Passage} {c : CellId} {a : ApproachId} {front rest : List CellId} {k : Nat}

/-- The entry cell is the first that the Tracker has not heard BLIND (R62). -/
theorem State.entryCell_of (cells : s.cellsOf q = front ++ c :: rest) (blind : ∀ d ∈ front, s.heard d = .blind)
    (seen : s.heard c ≠ .blind) : s.entryCell q = some (front.length, c) := by
  have none : (front.zipIdx.find? fun x => s.heard x.1 ≠ .blind) = none := by
    refine List.find?_eq_none.2 fun x mem => ?_
    simp [blind x.1 (List.fst_mem_of_mem_zipIdx mem)]
  rw [State.entryCell, cells, List.zipIdx_append, List.find?_append, none, List.zipIdx_cons,
    List.find?_cons_of_pos (by simpa using seen)]
  simp

/-- Nothing in front of an occupied cell is released across BLIND cells (R68). -/
theorem meetsCondition_of_occupied {heard : CellId → Occupancy} (pos : Nat) (blind : ∀ d ∈ front, heard d = .blind)
    (occupied : heard c = .occupied) (i : Nat) : meetsCondition heard pos i (front ++ c :: rest) = false := by
  induction front generalizing i with
  | nil => simp [meetsCondition, occupied]
  | cons d front ih =>
    obtain ⟨first, blind⟩ := List.forall_mem_cons.1 blind
    simp only [List.cons_append, meetsCondition, first]
    exact ih blind (i + 1)

/-- An examination at whose front nothing meets its condition does nothing, but for a change to BLIND (R67). -/
theorem State.examination_of_stops {run : List CellId} (hq : s.passage p = some q) (held : s.heldRun q = run)
    (holds : run ≠ []) (stops : meetsCondition s.heard (q.position.getD 0) q.firstHeld run = false) :
    s.examination p false = (s, false) := by
  obtain ⟨c, rest, rfl⟩ := List.exists_cons_of_ne_nil holds
  unfold State.examination
  rw [hq]
  dsimp only
  rw [held, State.releaseFront_of_stops hq (Bool.eq_false_iff.1 stops)]
  simp

/-- Setting a latch writes no deadline where no passage is GRANTED (R109). -/
theorem State.setLatch_book_of_ungranted (ungranted : ∀ x, ¬ s.GrantedAt x a) (latch : Latch) :
    (s.setLatch a latch).book = s.book := by
  have none : ∀ r, (s.setSignal a r).grantedOn a = none := fun r => State.grantedOn_of_none ungranted
  unfold State.setLatch
  dsimp only
  split
  · rfl
  · rw [none]
    split <;> rfl

/-- A passage in ENTERED at a route index (R63, step 1). -/
def Passage.asEntered (q : Passage) (k : Nat) : Passage :=
  { q with state := .entered, position := some k, firstHeld := 0 }

/-- The record of a passage that has entered at a cell, with its DWELL (R63). -/
def State.enteredAt (s : State) (q : Passage) (k : Nat) (c : CellId) : Passage :=
  (q.asEntered k).armFor .dwell s.map.working.options
    (s.traverseMs q c) s.timer.floor

/-- Entry before its examination (R63, steps 1 to 3). -/
def State.entering (s : State) (p : Slot) (q : Passage) (k : Nat) (c : CellId) : State :=
  ((s.setPassage p (some (q.asEntered k))).setLatch
    (s.approachOf q) .stop).setPassage p (some (s.enteredAt q k c))

/-- ARRIVAL's EXT_STOP does not stay with the DWELL that replaces it (R86; log entry 30). -/
theorem Passage.armFor_of_arrival (arrival : q.deadline.kind = .arrival) (kind : ArmedKind) (o : Options) (ms : Nat)
    (now : Time) : q.armFor kind o ms now =
      { q with
        clamped := q.clamped || (windowOf o ms).2
        deadline :=
          { run := some
              { kind := kind, window := BitVec.ofNat 16 (windowOf o ms).1
                clock := if q.deadline.halt then .frozen (BitVec.ofNat 16 (windowOf o ms).1)
                  else .armed (now + BitVec.ofNat 16 (windowOf o ms).1) }
            halt := q.deadline.halt, extStop := false } } := by
  simp [Passage.armFor, Deadline.arm, arrival]

/-- After the one GRANTED passage of an approach has entered, the approach has none (R43). -/
theorem State.SingleGrant.entered (single : s.SingleGrant) (hq : s.passage p = some q) (granted : q.state = .granted)
    {x : Passage} (other : x.state ≠ .granted) (y : Slot) :
    ¬ (s.setPassage p (some x)).GrantedAt y (s.approachOf q) := by
  rintro ⟨r, hr, was, approach⟩
  rw [State.passage_setPassage] at hr
  split at hr
  · cases hr
    exact other was
  · rename_i apart
    exact apart (single (s.approachOf q) p y ⟨q, hq, granted, rfl⟩ ⟨r, hr, was, approach⟩)

theorem State.setPassage_book_congr (h : t.book = s.book) (x : Option Passage) :
    (t.setPassage p x).book = (s.setPassage p x).book := by
  change { t.book with pool := t.book.pool.set p x } = { s.book with pool := s.book.pool.set p x }
  rw [h]

section
variable (single : s.SingleGrant) (hq : s.passage p = some q) (granted : q.state = .granted)
include single hq granted

/-- The latch of the approach goes to STOP with no other GRANTED passage on it (R63, step 2). -/
theorem State.enterLatch_book : ((s.setPassage p (some (q.asEntered k))).setLatch (s.approachOf q) .stop).book =
    (s.setPassage p (some (q.asEntered k))).book :=
  State.setLatch_book_of_ungranted (State.SingleGrant.entered single hq granted PassageState.noConfusion) .stop

theorem State.entering_book :
    (s.entering p q k c).book = (s.setPassage p (some (s.enteredAt q k c))).book := by
  have latched := State.enterLatch_book (k := k) single hq granted
  rw [State.entering, State.setPassage_book_congr latched, State.setPassage_setPassage]

/-- Entry's examination releases nothing: the cells in front of the nose are BLIND (R62, R67). -/
theorem State.enter_eq (cells : s.cellsOf q = front ++ c :: rest) (blind : ∀ d ∈ front, s.heard d = .blind)
    (occupied : s.heard c = .occupied) : s.enter p q k c = s.entering p q k c := by
  have at_p : (s.entering p q k c).passage p = some (s.enteredAt q k c) := by
    rw [State.entering, State.passage_setPassage, if_pos rfl]
  have moved : s.enter p q k c = ((s.entering p q k c).examination p false).1 := by
    have latched := State.enterLatch_book (k := k) single hq granted
    have keeps : Keeps s ((s.setPassage p (some (q.asEntered k))).setLatch (s.approachOf q) .stop) :=
      (s.setPassage_keeps p _).trans (State.setLatch_keeps _ _ _)
    have unfolded : s.enter p q k c = ((((s.setPassage p (some (q.asEntered k))).setLatch
        (s.approachOf q) .stop).armDwell p c).examination p false).1 := rfl
    rw [unfolded, State.entering]
    generalize (s.setPassage p (some (q.asEntered k))).setLatch (s.approachOf q) .stop = u at latched keeps
    have entered : u.passage p = some (q.asEntered k) := by
      rw [State.passage_congr (congrArg Book.pool latched) p, State.passage_setPassage, if_pos rfl]
    have record : (q.asEntered k).armFor .dwell u.map.working.options (u.traverseMs (q.asEntered k) c) u.timer.floor =
        s.enteredAt q k c := by
      simp only [State.enteredAt, State.traverseMs, keeps.map, keeps.timer]
      rfl
    rw [State.armDwell, State.modPassage, entered, Option.map_some, record]
  have keeps : Keeps s (s.entering p q k c) :=
    ((s.setPassage_keeps p _).trans (State.setLatch_keeps _ _ _)).trans (State.setPassage_keeps _ _ _)
  have heard : (s.entering p q k c).heard = s.heard := by
    funext d
    rw [State.heard, State.cell_congr (congrArg Book.cells (State.entering_book single hq granted)) d]
    rfl
  have held : (s.entering p q k c).heldRun (s.enteredAt q k c) = s.cellsOf q := by
    rw [State.heldRun_of_live rfl]
    exact State.cellsOf_congr (congrArg MapStore.working keeps.map) rfl
  have stops := meetsCondition_of_occupied (heard := (s.entering p q k c).heard) (rest := rest)
    ((s.enteredAt q k c).position.getD 0) (by rw [heard]; exact blind) (by rw [heard]; exact occupied)
    (s.enteredAt q k c).firstHeld
  rw [moved, State.examination_of_stops at_p (held.trans cells) (by simp) stops]

end

theorem State.entering_keeps : Keeps s (s.entering p q k c) :=
  ((s.setPassage_keeps p _).trans (State.setLatch_keeps _ _ _)).trans (State.setPassage_keeps _ _ _)

theorem State.entering_marks : (s.entering p q k c).marks = s.marks :=
  State.setLatch_marks (s.setPassage p (some (q.asEntered k))) (s.approachOf q) .stop

theorem State.entering_signal (b : ApproachId) : (s.entering p q k c).signal b =
    if b = s.approachOf q then (s.signal b).latched .stop else s.signal b := by
  have latched := State.setLatch_signal (s.setPassage p (some (q.asEntered k))) (s.approachOf q) .stop b
  refine latched.trans ?_
  by_cases e : b = s.approachOf q
  · rw [if_pos e, if_pos e, e]; rfl
  · rw [if_neg e, if_neg e]; rfl

theorem State.entering_sameTx : SameTx s (s.entering p q k c) := by
  obtain ⟨latched, -⟩ := State.setLatch_keepsCells (s.setPassage p (some (q.asEntered k))) (s.approachOf q) .stop
  have first : SameTx s (s.setPassage p (some (q.asEntered k))) := ⟨rfl, rfl, rfl⟩
  exact (first.trans latched).trans ⟨rfl, rfl, rfl⟩

/-- A report of OCCUPIED from the entry cell of a GRANTED passage enters it (R62, R63). -/
theorem State.takeChange_entry {stamp : Time} (holder : (s.cell c).holder = some p) (hq : s.passage p = some q)
    (granted : q.state = .granted) (entry : (s.told c .occupied).entryCell q = some (k, c)) :
    s.takeChange c .occupied stamp = ((s.told c .occupied).enter p q k c, true) := by
  have told : s.setCell c { s.cell c with
      heard := .occupied, intruded := (s.cell c).intruded && !decide (Occupancy.occupied ≠ .occupied) } =
        s.told c .occupied := rfl
  have at_p : (s.told c .occupied).passage p = some q := hq
  unfold State.takeChange
  dsimp only
  rw [told, holder, Option.bind_some, at_p, Option.map_some]
  simp [granted, entry]

theorem split_at_getElem? {α : Type} {l : List α} {k : Nat} {x : α} (h : l[k]? = some x) :
    l = l.take k ++ x :: l.drop (k + 1) ∧ (l.take k).length = k := by
  obtain ⟨short, rfl⟩ := List.getElem?_eq_some_iff.1 h
  rw [List.getElem_cons_drop, List.take_append_drop]
  exact ⟨rfl, List.length_take_of_le short.le⟩

end

/-- Settles O41: the BLIND cells before it make the cell the entry cell, the SingleGrant law leaves its approach without
a GRANTED passage when the latch goes to STOP, and the examination that follows releases nothing. -/
theorem entryMovesThePassage : Obligations.EntryMovesThePassage := by
  intro c p q k s running operating occupied news holder hq granted arrival hc blind nodup single
  dsimp only
  obtain ⟨cells, length⟩ := split_at_getElem? hc
  have heard := State.told_heard (s := s) (c := c) (occ := .occupied)
  have apart : ∀ d ∈ (s.cellsOf q).take k, d ≠ c := fun d mem e => by
    rw [cells] at nodup
    obtain ⟨-, -, disjoint⟩ := List.nodup_append.1 nodup
    exact disjoint d mem c List.mem_cons_self e
  have front : ∀ d ∈ (s.cellsOf q).take k, (s.told c .occupied).heard d = .blind := fun d mem => by
    rw [heard]
    exact (if_neg (apart d mem)).trans (blind d mem)
  have nose : (s.told c .occupied).heard c = .occupied := by rw [heard]; exact if_pos rfl
  have entry : (s.told c .occupied).entryCell q = some (k, c) := by
    have found := State.entryCell_of (s := s.told c .occupied) cells front (by rw [nose]; exact Occupancy.noConfusion)
    rwa [length] at found
  have step := exec_occupancyChange_of_report running operating (by rw [occupied]; exact news)
  rw [occupied, State.takeChange_entry holder hq granted entry,
    State.enter_eq (s := s.told c .occupied) single hq granted cells front nose, State.afterEvent_eq,
    if_pos rfl] at step
  have book := State.entering_book (s := s.told c .occupied) (k := k) (c := c) single hq granted
  have keeps := State.told_keeps.trans
    (State.entering_keeps (s := s.told c .occupied) (p := p) (q := q) (k := k) (c := c))
  have sent := State.told_sameTx.trans
    (State.entering_sameTx (s := s.told c .occupied) (p := p) (q := q) (k := k) (c := c))
  have marks := State.entering_marks (s := s.told c .occupied) (p := p) (q := q) (k := k) (c := c)
  have signal := State.entering_signal (s := s.told c .occupied) (p := p) (q := q) (k := k) (c := c)
  generalize (s.told c .occupied).entering p q k c = u at *
  have passage : ∀ x, u.passage x = if p = x then some ((s.told c .occupied).enteredAt q k c) else s.passage x :=
    fun x => (State.passage_congr (congrArg Book.pool book) x).trans (State.passage_setPassage _ _ _ _)
  have cells' : u.book.cells = (s.told c .occupied).book.cells :=
    (congrArg Book.cells book).trans (State.setPassage_book_cells _ _ _)
  have arrivals : u.book.arrivals = s.book.arrivals :=
    (congrArg Book.arrivals book).trans (State.setPassage_book_arrivals _ _ _)
  have queues : u.book.queues = s.book.queues :=
    (congrArg Book.queues book).trans (State.setPassage_book_queues _ _ _)
  have cell : ∀ d, u.cell d = (s.told c .occupied).cell d := State.cell_congr cells'
  have at_p : u.passage p = some ((s.told c .occupied).enteredAt q k c) := (passage p).trans (if_pos rfl)
  have record := Passage.armFor_of_arrival (q := q.asEntered k) arrival .dwell s.map.working.options (s.traverseMs q c)
    s.timer.floor
  obtain ⟨liu, notices, -⟩ := sent
  rw [State.drainedPost_of_live at_p rfl] at step
  refine ⟨u, _, step, keeps.sameOutside, ⟨notices, by rw [liu], by rw [liu]⟩, keeps.sameLine, by rw [liu], marks,
    at_p.trans (congrArg some record), fun halted => if_pos halted, fun free => ?_, signal,
    fun x other => (passage x).trans (if_neg other.symm), fun d other => ?_, ?_, arrivals, queues⟩
  · exact if_neg (by rw [show (q.asEntered k).deadline.halt = false from free]; exact Bool.false_ne_true)
  · rw [cell, State.told_cell, if_neg other]
  · rw [cell, State.told_cell, if_pos rfl]
    simp

end Sys2Proof.Machine

namespace Sys2Proof.Machine

/-! ### What a report away from OCCUPIED can write -/

/-- A record with what a release writes blotted out: its holder, its lock and its intruded flag. -/
def CellRec.unreleased (r : CellRec) : CellRec := { r with holder := none, lock := .none, intruded := false }

/-- From `s` to `t` cells have been released, and passages of the Tracker written, and nothing else of the book, no mark
and no signal has changed; a release sets the flag of a cell heard OCCUPIED alone (R23). -/
structure OnlyReleases (s t : State) : Prop where
  keeps : Keeps s t
  arrivals : t.book.arrivals = s.book.arrivals
  queues : t.book.queues = s.book.queues
  marks : t.marks = s.marks
  signals : t.signals = s.signals
  unreleased : ∀ d, (t.cell d).unreleased = (s.cell d).unreleased
  flag : ∀ d, (s.cell d).heard ≠ .occupied → (t.cell d).intruded = (s.cell d).intruded

section
variable {s t u : State} {p : Slot} {q : Passage} {c : CellId} {occ : Occupancy} {stamp : Time}

theorem CellRec.unreleased_eq_iff {r r' : CellRec} : r.unreleased = r'.unreleased ↔
    r.reservation = r'.reservation ∧ r.occupancy = r'.occupancy ∧ r.stamp = r'.stamp ∧ r.heard = r'.heard := by
  cases r; cases r'
  simp only [CellRec.unreleased, CellRec.mk.injEq]
  tauto

theorem OnlyReleases.rfl {s : State} : OnlyReleases s s :=
  ⟨.rfl, .refl _, .refl _, .refl _, .refl _, fun _ => .refl _, fun _ _ => .refl _⟩

theorem OnlyReleases.heard (h : OnlyReleases s t) (d : CellId) : (t.cell d).heard = (s.cell d).heard := by
  obtain ⟨-, -, -, heard⟩ := CellRec.unreleased_eq_iff.1 (h.unreleased d)
  exact heard

theorem OnlyReleases.trans (h : OnlyReleases s t) (k : OnlyReleases t u) : OnlyReleases s u :=
  ⟨h.keeps.trans k.keeps, k.arrivals.trans h.arrivals, k.queues.trans h.queues, k.marks.trans h.marks,
    k.signals.trans h.signals, fun d => (k.unreleased d).trans (h.unreleased d),
    fun d unoccupied => (k.flag d (by rw [h.heard]; exact unoccupied)).trans (h.flag d unoccupied)⟩

theorem KeepsBook.onlyReleases (h : KeepsBook s t) : OnlyReleases s t := by
  have cell := h.cell
  obtain ⟨keeps, book, marks, signals⟩ := h
  exact ⟨keeps, congrArg Book.arrivals book, congrArg Book.queues book, marks, signals, fun d => by rw [cell],
    fun d _ => by rw [cell]⟩

theorem State.setPassage_onlyReleases (s : State) (p : Slot) (x : Option Passage) :
    OnlyReleases s (s.setPassage p x) :=
  ⟨s.setPassage_keeps p x, .refl _, .refl _, .refl _, .refl _, fun _ => .refl _, fun _ _ => .refl _⟩

theorem State.updateCells_freed_onlyReleases (s : State) (l : List CellId) :
    OnlyReleases s (s.updateCells CellRec.freed l) := by
  have cell := s.cell_updateCells CellRec.freed_freed l
  refine ⟨s.updateCells_keeps _ l, s.updateCells_arrivals _ l, s.updateCells_queues _ l, s.updateCells_marks _ l,
    s.updateCells_signals _ l, fun d => ?_, fun d unoccupied => ?_⟩
  · rw [cell]
    split <;> rfl
  · rw [cell]
    split
    · simp [CellRec.freed, unoccupied]
    · rfl

theorem State.releaseFront_onlyReleases (hq : s.passage p = some q) (pos : Nat) (l : List CellId) :
    OnlyReleases s (State.releaseFront p pos q.firstHeld l s).1 := by
  obtain ⟨-, book⟩ := State.releaseFront_eq pos l q.firstHeld s q hq rfl
  exact ((s.updateCells_freed_onlyReleases _).trans (State.setPassage_onlyReleases _ _ _)).trans book.onlyReleases

/-- The removal of an ENTERED passage releases what it holds; no latch and no list is its own (R24). -/
theorem State.remove_onlyReleases (hq : s.passage p = some q) (entered : q.state = .entered) (o : Outcome) :
    OnlyReleases s (s.remove p o) := by
  obtain ⟨told, -⟩ := State.remove_vacated hq o
  refine OnlyReleases.trans ?_ told.onlyReleases
  have live : q.live = true := Passage.live_eq_true_iff.2 (by rw [entered]; exact PassageState.noConfusion)
  have ungranted : ¬ q.state = .granted := by rw [entered]; exact PassageState.noConfusion
  have released : OnlyReleases s (s.released p q) :=
    ((s.updateCells_freed_onlyReleases _).trans (s.releaseRun_keepsBook p q).onlyReleases).trans
      (State.setPassage_onlyReleases _ _ _)
  rw [State.vacated, if_pos live, if_neg ungranted]
  exact released.trans (State.setPassage_onlyReleases _ _ _)

theorem State.examination_onlyReleases (s : State) (p : Slot) (toBlind : Bool) :
    OnlyReleases s (s.examination p toBlind).1 := by
  unfold State.examination
  split
  · exact .rfl
  · rename_i q hq
    split
    · rename_i entered
      have released := State.releaseFront_onlyReleases hq (q.position.getD 0) (s.heldRun q)
      obtain ⟨-, book⟩ := State.releaseFront_eq (q.position.getD 0) (s.heldRun q) q.firstHeld s q hq rfl
      have at_p := (book.passage p).trans (State.passage_setPassage _ _ _ _)
      rw [if_pos rfl] at at_p
      dsimp only
      split
      · split
        · exact released.trans (State.remove_onlyReleases at_p entered .cleared)
        · exact released
      · split
        · exact released.trans (State.setPassage_onlyReleases _ _ _)
        · exact released
    · exact .rfl

/-- The Tracker hears a cell go away from OCCUPIED, and what follows are releases (R59, R67). -/
theorem State.takeChange_onlyReleases (away : occ ≠ .occupied) :
    OnlyReleases (s.told c occ) (s.takeChange c occ stamp).1 := by
  by_cases inside : ∃ p q, (s.cell c).holder = some p ∧ s.passage p = some q ∧ q.state = .entered
  · obtain ⟨p, q, holder, hq, entered⟩ := inside
    have taken := State.takeChange_entered (occ := occ) (stamp := stamp) holder hq entered
    dsimp only at taken
    rw [if_pos away] at taken
    rw [taken]
    exact State.examination_onlyReleases _ _ _
  · rw [State.takeChange_away away fun p q holder hq entered => inside ⟨p, q, holder, hq, entered⟩]
    exact .rfl

end

/-! ### Filter restarts and changes of mode (R99, R101) -/

/-- The cell and the sensor record of one cell are written. -/
def State.resensed (s : State) (c : CellId) (r : CellRec) (m : SensorRec) : State := (s.setCell c r).setSensor c m

/-- A cell's record after a restart of its filter at FREE, which the Tracker hears (R101; log entry 11). -/
def CellRec.restarted (r : CellRec) (now : Time) : CellRec :=
  { r with
    occupancy := .free, heard := .free
    stamp := if r.occupancy = .free then r.stamp else now
    intruded := r.intruded && decide (r.heard = .free) }

/-- A cell's record after its sensor has gone to STANDBY (R99). -/
def CellRec.blinded (r : CellRec) (now : Time) : CellRec :=
  { r with occupancy := .blind, heard := .blind, stamp := now, intruded := false }

/-- A cell's record after a change of its sensor to this mode. -/
def CellRec.changedTo (r : CellRec) (mode : SensorMode) (now : Time) : CellRec :=
  if mode = .standby then r.blinded now else r.restarted now

/-- A sensor record after a change to this mode (R99). -/
def SensorRec.changedTo (m : SensorRec) (mode : SensorMode) : SensorRec :=
  if mode = .standby then { m with mode := .standby, count := 0 } else { mode := .active, raw := .free, count := 0 }

section
variable {s t : State} {c d : CellId}

theorem State.resensed_cell (r : CellRec) (m : SensorRec) :
    (s.resensed c r m).cell d = if d = c then r else s.cell d := by
  refine (State.cell_setCell s c d r).trans ?_
  by_cases e : c = d
  · rw [if_pos e, if_pos e.symm]
  · rw [if_neg e, if_neg (Ne.symm e)]

theorem State.resensed_sensor (r : CellRec) (m : SensorRec) :
    (s.resensed c r m).sensor d = if d = c then m else s.sensor d := by
  refine (State.sensor_setSensor (s.setCell c r) c d m).trans ?_
  by_cases e : c = d
  · rw [if_pos e, if_pos e.symm]
  · rw [if_neg e, if_neg (Ne.symm e)]; rfl

/-- A report of FREE or BLIND just written is heard, and what follows are releases. -/
theorem State.resensed_told (r : CellRec) (m : SensorRec) {occ : Occupancy} (away : occ ≠ .occupied) :
    (s.resensed c r m).told c occ = s.resensed c { r with heard := occ, intruded := false } m := by
  have cell : (s.resensed c r m).cell c = r := (State.resensed_cell r m).trans (if_pos rfl)
  have swap : ∀ x, (s.resensed c r m).setCell c x = ((s.setCell c r).setCell c x).setSensor c m := fun _ => rfl
  rw [State.told, cell, swap, State.setCell_setCell]
  simp [State.resensed, away]

/-- The base of a filter restart, before the Tracker takes it. -/
theorem State.restartFilter_eq : (s.restartFilter c).1 =
    if (s.cell c).heard = .free then
      s.resensed c ((s.cell c).restarted s.timer.floor) { s.sensor c with raw := .free, count := 0 }
    else
      ((s.resensed c
        { s.cell c with
          occupancy := .free
          stamp := if (s.cell c).occupancy = .free then (s.cell c).stamp else s.timer.floor }
        { s.sensor c with raw := .free, count := 0 }).takeChange c .free s.timer.floor).1 := by
  have base : (s.restartFilter c).1 =
      (if (s.cell c).heard = .free then
        ((s.resensed c
          { s.cell c with
            occupancy := .free
            stamp := if (s.cell c).occupancy = .free then (s.cell c).stamp else s.timer.floor }
          { s.sensor c with raw := .free, count := 0 }), false)
      else
        ((s.resensed c
          { s.cell c with
            occupancy := .free
            stamp := if (s.cell c).occupancy = .free then (s.cell c).stamp else s.timer.floor }
          { s.sensor c with raw := .free, count := 0 }).takeChange c .free s.timer.floor)).1 := rfl
  rw [base]
  by_cases quiet : (s.cell c).heard = .free
  · rw [if_pos quiet, if_pos quiet]
    have same : (s.cell c).restarted s.timer.floor =
        { s.cell c with
          occupancy := .free
          stamp := if (s.cell c).occupancy = .free then (s.cell c).stamp else s.timer.floor } := by
      simp [CellRec.restarted, quiet]
    rw [same]
  · rw [if_neg quiet, if_neg quiet]

/-- A filter restart writes its cell and its sensor; what follows are releases (R101). -/
theorem State.restartFilter_onlyReleases :
    OnlyReleases (s.resensed c ((s.cell c).restarted s.timer.floor) { s.sensor c with raw := .free, count := 0 })
      (s.restartFilter c).1 := by
  rw [State.restartFilter_eq]
  by_cases quiet : (s.cell c).heard = .free
  · rw [if_pos quiet]
    exact .rfl
  · rw [if_neg quiet]
    have after := State.takeChange_onlyReleases (s := s.resensed c
      { s.cell c with
        occupancy := .free
        stamp := if (s.cell c).occupancy = .free then (s.cell c).stamp else s.timer.floor }
      { s.sensor c with raw := .free, count := 0 }) (c := c) (occ := .free) (stamp := s.timer.floor)
      Occupancy.noConfusion
    rw [State.resensed_told _ _ Occupancy.noConfusion] at after
    have same : (s.cell c).restarted s.timer.floor =
        { s.cell c with
          occupancy := .free, heard := .free, intruded := false
          stamp := if (s.cell c).occupancy = .free then (s.cell c).stamp else s.timer.floor } := by
      simp [CellRec.restarted, quiet]
    rw [same]
    exact after

/-- A change of mode before the Tracker takes it (R99). -/
def State.reporting (s : State) (c : CellId) (mode : SensorMode) : State :=
  s.resensed c
    { s.cell c with
      occupancy := if mode = .standby then .blind else .free
      stamp := if mode = .active ∧ (s.cell c).occupancy = .free then (s.cell c).stamp else s.timer.floor }
    ((s.sensor c).changedTo mode)

/-- A change of mode is its report, if it makes one; a change to ACTIVE starts a pass in any case (R40, R99). -/
theorem State.changeSensor_eq (mode : SensorMode) : s.changeSensor c mode =
    if mode = .active ∧ (s.cell c).heard = .free then (s.reporting c mode, true)
    else
      (((s.reporting c mode).takeChange c (if mode = .standby then .blind else .free) s.timer.floor).1,
        decide (mode = .active) ||
          ((s.reporting c mode).takeChange c (if mode = .standby then .blind else .free) s.timer.floor).2) := by
  cases mode with
  | standby => rfl
  | active =>
    have sensor : { (s.setSensor c { s.sensor c with mode := .active }).sensor c with raw := .free, count := 0 } =
        (s.sensor c).changedTo .active := by
      rw [State.sensor_setSensor, if_pos rfl]
      rfl
    have base : s.changeSensor c .active =
        (((s.setSensor c { s.sensor c with mode := .active }).restartFilter c).1, true) := rfl
    have twice : ∀ r,
        (s.setSensor c { s.sensor c with mode := .active }).resensed c r ((s.sensor c).changedTo .active) =
        s.resensed c r ((s.sensor c).changedTo .active) := fun r => State.setSensor_setSensor (s.setCell c r) c _ _
    have cell : (s.setSensor c { s.sensor c with mode := .active }).cell c = s.cell c := rfl
    rw [base, State.restartFilter_eq, sensor, twice, twice, cell, State.setSensor_timer]
    by_cases quiet : (s.cell c).heard = .free
    · have same : (s.cell c).restarted s.timer.floor =
          { s.cell c with
            occupancy := .free
            stamp := if (s.cell c).occupancy = .free then (s.cell c).stamp else s.timer.floor } := by
        simp [CellRec.restarted, quiet]
      rw [if_pos quiet, if_pos ⟨rfl, quiet⟩, same]
      simp [State.reporting]
    · have loud : ¬ (SensorMode.active = .active ∧ (s.cell c).heard = .free) := fun h => quiet h.2
      rw [if_neg quiet, if_neg loud]
      simp [State.reporting]

/-- A change of mode writes its cell and its sensor; what follows are releases (R99). -/
theorem State.changeSensor_onlyReleases (mode : SensorMode) :
    OnlyReleases (s.resensed c ((s.cell c).changedTo mode s.timer.floor) ((s.sensor c).changedTo mode))
      (s.changeSensor c mode).1 := by
  rw [State.changeSensor_eq]
  by_cases quiet : mode = .active ∧ (s.cell c).heard = .free
  · have same : (s.cell c).changedTo mode s.timer.floor =
        { s.cell c with
          occupancy := if mode = .standby then .blind else .free
          stamp := if mode = .active ∧ (s.cell c).occupancy = .free then (s.cell c).stamp else s.timer.floor } := by
      obtain ⟨rfl, quiet⟩ := quiet
      simp [CellRec.changedTo, CellRec.restarted, quiet]
    rw [if_pos quiet, same]
    exact .rfl
  · have away : (if mode = .standby then Occupancy.blind else .free) ≠ .occupied := by
      split <;> exact Occupancy.noConfusion
    have after := State.takeChange_onlyReleases (s := s.reporting c mode) (c := c) (stamp := s.timer.floor) away
    rw [State.reporting, State.resensed_told _ _ away] at after
    have same : (s.cell c).changedTo mode s.timer.floor =
        { s.cell c with
          occupancy := if mode = .standby then .blind else .free
          heard := if mode = .standby then .blind else .free
          stamp := if mode = .active ∧ (s.cell c).occupancy = .free then (s.cell c).stamp else s.timer.floor
          intruded := false } := by
      cases mode with
      | standby => simp [CellRec.changedTo, CellRec.blinded]
      | active =>
        have loud : (s.cell c).heard ≠ .free := fun h => quiet ⟨rfl, h⟩
        simp [CellRec.changedTo, CellRec.restarted, loud]
    rw [if_neg quiet, same]
    exact after

/-- With nobody on the cell nothing follows a change of mode (R99). -/
theorem State.changeSensor_unheld (free : (s.cell c).holder = none) (mode : SensorMode) :
    (s.changeSensor c mode).1 =
      s.resensed c ((s.cell c).changedTo mode s.timer.floor) ((s.sensor c).changedTo mode) := by
  cases mode with
  | standby => exact State.toStandby_unheld free
  | active => exact State.toActive_unheld free

end

end Sys2Proof.Machine

namespace Sys2Proof.Machine

/-! ### SET_SENSOR (R99, R100) -/

section
variable {s t u : State} {c d : CellId} {cell mode : Byte} {m : SensorMode} {hd : FrameHead}

theorem exec_setSensor : exec (.setSensor hd cell mode) s =
    onFrame (.setSensor hd cell mode) s fun u => u.setSensorMode cell mode := rfl

theorem State.sensorOperands_badCell (bad : 31 < cell.toNat ∨
      ∃ c : CellId, cell.toNat = c.val ∧ s.map.working.cells[c].inUse = false) :
    s.sensorOperands cell mode = .error (.badValue 1 none) := by
  have none : (cellOf cell).filter s.cellInUse = none := by
    rcases bad with high | ⟨c, same, unused⟩
    · rw [cellOf, indexOf_eq_none high]
      rfl
    · rw [cellOf_val same, Option.filter_some, State.cellInUse, unused]
      rfl
  rw [State.sensorOperands, none]
  rfl

section
variable (same : cell.toNat = c.val) (used : s.map.working.cells[c].inUse = true)
include same used

theorem State.filter_cellOf : (cellOf cell).filter s.cellInUse = some c := by
  rw [cellOf_val same, Option.filter_some, State.cellInUse, used]
  rfl

theorem State.sensorOperands_badMode (bad : sensorModeOf mode = none) :
    s.sensorOperands cell mode = .error (.badValue 2 none) := by
  rw [State.sensorOperands, State.filter_cellOf same used, bad]
  rfl

theorem State.sensorOperands_ok (named : sensorModeOf mode = some m) : s.sensorOperands cell mode = .ok (c, m) := by
  rw [State.sensorOperands, State.filter_cellOf same used, named]

end

theorem sensorModeOf_none (high : 1 < mode.toNat) : sensorModeOf mode = none := by
  have zero : mode ≠ 0 := fun e => by subst e; exact absurd high (by decide)
  have one : mode ≠ 1 := fun e => by subst e; exact absurd high (by decide)
  rw [sensorModeOf, if_neg zero, if_neg one]

theorem State.setSensorMode_error {v : Verdict} (bad : s.sensorOperands cell mode = .error v) :
    s.setSensorMode cell mode = (s, v) := by
  rw [State.setSensorMode, bad]

/-- The event of a change of mode, with its pass (R40, R99). -/
def State.sensorEvent (s : State) (c : CellId) (m : SensorMode) : State :=
  s.afterEvent (s.changeSensor c m).1 (s.changeSensor c m).2

theorem State.setSensorMode_same (good : s.sensorOperands cell mode = .ok (c, m)) (same : (s.sensor c).mode = m) :
    s.setSensorMode cell mode = (s, .done (.setSensor (s.sensor c).mode (s.cell c).occupancy)) := by
  rw [State.setSensorMode, good]
  dsimp only
  rw [if_pos same.symm]

theorem State.setSensorMode_change (good : s.sensorOperands cell mode = .ok (c, m)) (other : (s.sensor c).mode ≠ m) :
    s.setSensorMode cell mode =
      (s.sensorEvent c m, .done (.setSensor (s.sensor c).mode ((s.sensorEvent c m).cell c).occupancy)) := by
  rw [State.setSensorMode, good]
  dsimp only
  rw [if_neg other.symm]
  rfl

/-- What follows the Tracker's work in an event gives cells, and posts (R40, R117). -/
theorem State.afterEvent_frame (before w : State) (starts : Bool) :
    Keeps w (State.afterEvent before w starts) ∧ GivesFree w (State.afterEvent before w starts) := by
  have posted := State.drainedPost_keepsBook before w
  obtain ⟨keeps, book, -⟩ := id posted
  have quiet : GivesFree w (State.drainedPost before w) := .of_cells (congrArg Book.cells book)
  rw [State.afterEvent_eq]
  split
  · exact ⟨keeps.trans (State.grantPass_keeps _ _), quiet.trans (State.grantPass_givesFree _ _)⟩
  · exact ⟨keeps, quiet⟩

/-- What an event of a change of mode leaves of the sensors, and of what each cell reads. -/
theorem State.sensorEvent_reads (s : State) (c : CellId) (m : SensorMode) :
    KeepsMode s (s.sensorEvent c m) ∧
    (s.sensorEvent c m).scanner =
      (s.resensed c ((s.cell c).changedTo m s.timer.floor) ((s.sensor c).changedTo m)).scanner ∧
    (∀ d, ((s.sensorEvent c m).cell d).occupancy =
        (if d = c then (s.cell c).changedTo m s.timer.floor else s.cell d).occupancy ∧
      ((s.sensorEvent c m).cell d).stamp =
        (if d = c then (s.cell c).changedTo m s.timer.floor else s.cell d).stamp) ∧
    ((s.sensorEvent c m).cell c).intruded = ((s.cell c).changedTo m s.timer.floor).intruded := by
  have releases := State.changeSensor_onlyReleases (s := s) (c := c) m
  obtain ⟨keeps, gives⟩ := State.afterEvent_frame s (s.changeSensor c m).1 (s.changeSensor c m).2
  have mode := (s.changeSensor_keepsMode c m).trans keeps.mode
  change Keeps _ (s.sensorEvent c m) at keeps
  change GivesFree _ (s.sensorEvent c m) at gives
  change KeepsMode _ (s.sensorEvent c m) at mode
  generalize s.sensorEvent c m = e at *
  have scanner := (releases.keeps.trans keeps).scanner
  have base := fun d => State.resensed_cell (s := s) (c := c) (d := d) ((s.cell c).changedTo m s.timer.floor)
    ((s.sensor c).changedTo m)
  refine ⟨mode, scanner, fun d => ?_, ?_⟩
  · obtain ⟨-, occupancy, stamp, -⟩ := CellRec.unreleased_eq_iff.1 (releases.unreleased d)
    obtain ⟨-, -, occupancy', stamp', -⟩ := CellRec.ungiven_eq_iff.1 (gives.ungiven d)
    rw [base] at occupancy stamp
    exact ⟨occupancy'.trans occupancy, stamp'.trans stamp⟩
  · have flag := releases.flag c (by
      rw [base, if_pos rfl]
      cases m <;> exact Occupancy.noConfusion)
    obtain ⟨-, intruded, -⟩ := CellRec.ungiven_eq_iff.1 (gives.ungiven c)
    rw [base, if_pos rfl] at flag
    exact intruded.trans flag

/-- A change to STANDBY is stamped with now, and so is one of a BLIND cell (R99, R101). -/
theorem CellRec.changedTo_stamp {r : CellRec} {now : Time} (fresh : m = .standby ∨ r.occupancy = .blind) :
    (r.changedTo m now).stamp = now := by
  rcases fresh with rfl | blind
  · rfl
  · cases m with
    | standby => rfl
    | active => simp [CellRec.changedTo, CellRec.restarted, blind]

/-- A change that the Tracker hears clears the flag (R61). -/
theorem CellRec.changedTo_intruded {r : CellRec} {now : Time} (fresh : m = .standby ∨ r.heard = .blind) :
    (r.changedTo m now).intruded = false := by
  rcases fresh with rfl | blind
  · rfl
  · cases m with
    | standby => rfl
    | active => simp [CellRec.changedTo, CellRec.restarted, blind]

/-- With nobody on the cell and no pass, one cell and one sensor are all that an event of a change of mode writes. -/
theorem State.sensorEvent_unheld (free : (s.cell c).holder = none) (mode : s.control.mode ≠ .running) :
    s.sensorEvent c m = s.resensed c ((s.cell c).changedTo m s.timer.floor) ((s.sensor c).changedTo m) := by
  have still : s.control.mode ≠ .running := mode
  rw [State.sensorEvent, State.afterEvent_eq, State.changeSensor_unheld free]
  have quiet := State.drainedPost_of_pool (s := s)
    (u := s.resensed c ((s.cell c).changedTo m s.timer.floor) ((s.sensor c).changedTo m)) rfl
  rw [quiet, State.grantPass_of_notRunning (by exact mode), ite_self]

theorem State.reporting_sameCore : SameCore s (s.reporting c m) :=
  (s.setCell_sameCore c (r := { s.cell c with
    occupancy := if m = .standby then .blind else .free
    stamp := if m = .active ∧ (s.cell c).occupancy = .free then (s.cell c).stamp else s.timer.floor }) rfl).trans
    (State.setSensor_sameCore _ c ((s.sensor c).changedTo m))

/-- Under the laws of holding the Tracker's work in an event of a change of mode is that of R61 and R71. -/
theorem State.sensorEvent_takesAway (law : s.HolderLaw)
    (news : m = .active → (s.cell c).heard ≠ .free ∧ (s.cell c).occupancy = .blind) :
    ∃ u n, TakesAway (s.reporting c m) u c (if m = .standby then .blind else .free) n ∧
      s.sensorEvent c m = if m = .active ∨ 0 < n ∨ (s.cell c).intruded = true then u.grantPass none else u := by
  have away : (if m = .standby then Occupancy.blind else .free) ≠ .occupied := by
    split <;> exact Occupancy.noConfusion
  have loud : ¬ (m = .active ∧ (s.cell c).heard = .free) := fun ⟨active, quiet⟩ => by
    obtain ⟨heard, -⟩ := news active
    exact heard quiet
  have law' : (s.reporting c m).HolderLaw := by
    obtain ⟨-, -, -, holding⟩ := State.reporting_sameCore.laws (s := s) (t := s.reporting c m) rfl
    exact holding law
  have intruded : ((s.reporting c m).cell c).intruded = (s.cell c).intruded := by
    rw [State.reporting, State.resensed_cell, if_pos rfl]
  have drained : ∀ w, State.drainedPost s w = State.drainedPost (s.reporting c m) w := fun _ => rfl
  rw [State.sensorEvent, State.changeSensor_eq, if_neg loud, State.afterEvent_eq, drained, ← intruded]
  dsimp only
  generalize (if m = .standby then Occupancy.blind else .free) = occ at *
  generalize s.reporting c m = v at *
  by_cases inside : ∃ p q, (v.cell c).holder = some p ∧ v.passage p = some q ∧ q.state = .entered
  · obtain ⟨p, q, holder, hq, entered⟩ := inside
    obtain ⟨n, hn⟩ : ∃ n, n = frontCount (v.told c occ).heard (q.position.getD 0) q.firstHeld (v.heldRun q) := ⟨_, rfl⟩
    obtain ⟨starts, -⟩ := State.takeChange_examines (stamp := s.timer.floor) law' away holder hq entered hn
    refine ⟨_, n, TakesAway.of_examined (stamp := s.timer.floor) law' away holder hq entered hn, ?_⟩
    rw [starts]
    refine if_congr ?_ rfl rfl
    simp
  · have other : ∀ p q, (v.cell c).holder = some p → v.passage p = some q → q.state ≠ .entered :=
      fun p q holder hq entered => inside ⟨p, q, holder, hq, entered⟩
    have quiet : State.drainedPost v (v.told c occ) = v.told c occ := State.drainedPost_of_pool rfl
    refine ⟨_, 0, TakesAway.of_told away other, ?_⟩
    rw [State.takeChange_away away other, quiet]
    refine if_congr ?_ rfl rfl
    simp

end

/-- Settles O39: the checks of the operands, then by the mode: the write of one cell and one sensor, and the Tracker's
work and the pass that follow it. -/
theorem setSensor : Obligations.SetSensor := by
  intro hd cell mode s taken
  dsimp only
  refine ⟨fun bad => taken.answers exec_setSensor fun f =>
    State.setSensorMode_error (State.sensorOperands_badCell (s := s.readFrame f) bad), fun c same used =>
      ⟨fun high => taken.answers exec_setSensor fun f =>
        State.setSensorMode_error
          (State.sensorOperands_badMode (s := s.readFrame f) same used (sensorModeOf_none high)),
        fun m code => ?_⟩⟩
  obtain ⟨f, -, done⟩ := taken.exec_eq exec_setSensor
  have good : (s.readFrame f).sensorOperands cell mode = .ok (c, m) :=
    State.sensorOperands_ok (s := s.readFrame f) same used (code ▸ sensorModeOf_code m)
  by_cases still : (s.sensor c).mode = m
  · rw [State.setSensorMode_same good still] at done
    exact ⟨_, done, rfl, fun _ => rfl, fun other => absurd still other⟩
  · rw [State.setSensorMode_change good still] at done
    obtain ⟨keeps, scanner, reads, flag⟩ := (s.readFrame f).sensorEvent_reads c m
    have takes := State.sensorEvent_takesAway (s := s.readFrame f) (c := c) (m := m)
    have unheld := State.sensorEvent_unheld (s := s.readFrame f) (c := c) (m := m)
    dsimp only at done
    generalize (s.readFrame f).sensorEvent c m = e at *
    have sensor : ∀ d, e.sensor d = if d = c then (s.sensor c).changedTo m else s.sensor d := fun d => by
      rw [State.sensor, scanner]
      exact State.resensed_sensor (s := s.readFrame f) _ _
    have at_c : e.sensor c = (s.sensor c).changedTo m := (sensor c).trans (if_pos rfl)
    obtain ⟨occupancy, stamp⟩ := reads c
    rw [if_pos rfl] at occupancy stamp
    refine ⟨_, done, rfl, fun e => absurd e still, fun _ => ⟨?_, ?_, ?_, ?_, ?_, ?_, fun d other => ?_,
      fun free quiet => ?_, fun law news => ?_, keeps.2, keeps.1.map, keeps.1.timer, keeps.1.power, keeps.1.decoder,
      keeps.1.error⟩⟩
    · change (e.sensor c).mode = m
      rw [at_c]
      cases m <;> rfl
    · change (e.sensor c).count = 0
      rw [at_c]
      cases m <;> rfl
    · rintro rfl
      refine ⟨occupancy, ?_⟩
      change (e.sensor c).raw = _
      rw [at_c]
      rfl
    · rintro rfl
      refine ⟨occupancy, ?_⟩
      change (e.sensor c).raw = _
      rw [at_c]
      rfl
    · exact fun fresh => stamp.trans (CellRec.changedTo_stamp (r := s.cell c) fresh)
    · exact fun fresh => flag.trans (CellRec.changedTo_intruded (r := s.cell c) fresh)
    · obtain ⟨occupancy, stamp⟩ := reads d
      rw [if_neg other] at occupancy stamp
      exact ⟨(sensor d).trans (if_neg other), occupancy, stamp⟩
    · rw [unheld free quiet]
      exact ⟨rfl, fun d other => (State.resensed_cell _ ((s.sensor c).changedTo m)).trans (if_neg other)⟩
    · obtain ⟨u, n, takes, pass⟩ := takes law news
      obtain ⟨-, rx⟩ := keeps.1.line
      have written : ({ s with
          scanner := e.scanner
          liu := { s.liu with line := .busy, rx := e.liu.rx, tail := none }
          book := { s.book with
            cells := s.book.cells.set c
              { s.cell c with
                occupancy := if m = .standby then .blind else .free, stamp := s.timer.floor } } } : State) =
          (s.readFrame f).reporting c m := by
        have fresh : ¬ (m = .active ∧ (s.cell c).occupancy = .free) := fun ⟨active, quiet⟩ => by
          obtain ⟨-, blind⟩ := news active
          rw [blind] at quiet
          cases quiet
        have record : ({ s.cell c with
            occupancy := if m = .standby then .blind else .free, stamp := s.timer.floor } : CellRec) =
            { s.cell c with
              occupancy := if m = .standby then .blind else .free
              stamp := if m = .active ∧ (s.cell c).occupancy = .free then (s.cell c).stamp else s.timer.floor } := by
          rw [if_neg fresh]
        rw [scanner, rx, record]
        rfl
      rw [← written] at takes
      exact ⟨u, n, takes, pass ▸ State.sameButTail_giveTail e _⟩

end Sys2Proof.Machine

namespace Sys2Proof.Machine

/-! ### RESUME (R127)

#### Folds that write each index once -/

/-- A fold over indices that each step of which writes at its own index alone. -/
theorem foldl_observed {ι α : Type} [DecidableEq ι] {f : State → ι → State} {obs : State → ι → α} {g : ι → α → α}
    {inv : State → Prop} (keep : ∀ u i, inv u → inv (f u i)) (own : ∀ u i, inv u → obs (f u i) i = g i (obs u i))
    (other : ∀ u i j, inv u → j ≠ i → obs (f u i) j = obs u j) {l : List ι} (nodup : l.Nodup) {s : State} (hs : inv s)
    (j : ι) : obs (l.foldl f s) j = if j ∈ l then g j (obs s j) else obs s j := by
  induction l generalizing s with
  | nil => rfl
  | cons i rest ih =>
    obtain ⟨new, nodup⟩ := List.nodup_cons.1 nodup
    rw [List.foldl_cons, ih nodup (keep s i hs)]
    by_cases e : j = i
    · subst e
      rw [if_neg new, if_pos List.mem_cons_self, own s j hs]
    · rw [other s i j hs e]
      refine if_congr ?_ rfl rfl
      rw [List.mem_cons, or_iff_right e]

theorem foldl_invariant {ι : Type} {f : State → ι → State} {inv : State → Prop} (keep : ∀ u i, inv u → inv (f u i))
    {s : State} (hs : inv s) (l : List ι) : inv (l.foldl f s) := by
  induction l generalizing s with
  | nil => exact hs
  | cons i rest ih => exact ih (keep s i hs)

/-! #### A restart of the filters (R101, R102) -/

/-- From `s` to `t` filters have restarted: lists, marks, latches, reservations and the sensors' modes stay (R101). -/
structure Refilters (s t : State) : Prop where
  keeps : KeepsMode s t
  arrivals : t.book.arrivals = s.book.arrivals
  queues : t.book.queues = s.book.queues
  marks : t.marks = s.marks
  signals : t.signals = s.signals
  scanner : t.scanner = { s.scanner with sensors := t.scanner.sensors }
  mode : ∀ c, (t.sensor c).mode = (s.sensor c).mode
  reservation : ∀ c, (t.cell c).reservation = (s.cell c).reservation

section
variable {s t u : State} {c d : CellId}

theorem Refilters.rfl {s : State} : Refilters s s :=
  ⟨.rfl, .refl _, .refl _, .refl _, .refl _, .refl _, fun _ => .refl _, fun _ => .refl _⟩

theorem Refilters.trans (h : Refilters s t) (k : Refilters t u) : Refilters s u :=
  ⟨h.keeps.trans k.keeps, k.arrivals.trans h.arrivals, k.queues.trans h.queues, k.marks.trans h.marks,
    k.signals.trans h.signals, by rw [k.scanner, h.scanner], fun c => (k.mode c).trans (h.mode c),
    fun c => (k.reservation c).trans (h.reservation c)⟩

theorem State.restartFilter_refilters (s : State) (c : CellId) : Refilters s (s.restartFilter c).1 := by
  have mode := s.restartFilter_keepsMode c
  have releases := State.restartFilter_onlyReleases (s := s) (c := c)
  generalize (s.restartFilter c).1 = t at *
  have scanner := releases.keeps.scanner
  refine ⟨mode, releases.arrivals, releases.queues, releases.marks, releases.signals, ?_, fun d => ?_, fun d => ?_⟩
  · rw [scanner]
    rfl
  · rw [State.sensor, scanner]
    refine (congrArg SensorRec.mode (State.resensed_sensor _ _)).trans ?_
    split
    · rename_i e; rw [e]
    · rfl
  · obtain ⟨reservation, -⟩ := CellRec.unreleased_eq_iff.1 (releases.unreleased d)
    rw [reservation, State.resensed_cell]
    split
    · rename_i e; rw [e]; rfl
    · rfl

/-- The restart of the filters at one cell (R102). -/
def State.refilter (s : State) (c : CellId) : State :=
  if s.cellInUse c && (s.sensor c).mode = .active then (s.restartFilter c).1 else s

theorem State.restartFilters_eq (s : State) : s.restartFilters = (List.finRange 32).foldl State.refilter s := rfl

/-- The filter of a cell restarts (R102). -/
def State.Restarts (s : State) (c : CellId) : Prop :=
  s.map.working.cells[c].inUse = true ∧ (s.sensor c).mode = .active

theorem State.refilter_of_restarts (h : s.Restarts c) : s.refilter c = (s.restartFilter c).1 := by
  obtain ⟨used, active⟩ := h
  have used : s.cellInUse c = true := used
  rw [State.refilter, if_pos (by simp [used, active])]

theorem State.refilter_of_not (h : ¬ s.Restarts c) : s.refilter c = s := by
  refine if_neg fun both => h ?_
  rw [Bool.and_eq_true, decide_eq_true_iff] at both
  exact both

theorem State.refilter_refilters (s : State) (c : CellId) : Refilters s (s.refilter c) := by
  unfold State.refilter
  split
  · exact s.restartFilter_refilters c
  · exact .rfl

theorem Refilters.restarts (h : Refilters s t) : t.Restarts c ↔ s.Restarts c := by
  rw [State.Restarts, State.Restarts, h.mode, h.keeps.1.map]

theorem State.restartFilters_refilters (s : State) : Refilters s s.restartFilters := by
  rw [State.restartFilters_eq]
  exact foldl_invariant (inv := Refilters s) (fun u c h => h.trans (u.refilter_refilters c)) .rfl _

/-- What a cell reads, with its sensor. -/
def State.reads (s : State) (c : CellId) : Occupancy × SensorRec := ((s.cell c).occupancy, s.sensor c)

theorem State.restartFilter_reads (s : State) (c d : CellId) : (s.restartFilter c).1.reads d =
    if d = c then (.free, { s.sensor c with raw := .free, count := 0 }) else s.reads d := by
  have releases := State.restartFilter_onlyReleases (s := s) (c := c)
  generalize (s.restartFilter c).1 = t at *
  obtain ⟨-, occupancy, -⟩ := CellRec.unreleased_eq_iff.1 (releases.unreleased d)
  rw [State.reads, State.sensor, releases.keeps.scanner, occupancy, State.resensed_cell]
  have sensor := State.resensed_sensor (s := s) (c := c) (d := d) ((s.cell c).restarted s.timer.floor)
    { s.sensor c with raw := .free, count := 0 }
  refine Prod.ext ?_ ?_
  · split
    · rfl
    · rfl
  · refine sensor.trans ?_
    split <;> rfl

theorem State.refilter_reads_other (s : State) (h : d ≠ c) : (s.refilter c).reads d = s.reads d := by
  by_cases restarts : s.Restarts c
  · rw [State.refilter_of_restarts restarts, State.restartFilter_reads, if_neg h]
  · rw [State.refilter_of_not restarts]

open Classical in
/-- Every filter that restarts ends at FREE, at rest (R101, R102). -/
theorem State.restartFilters_reads (s : State) (c : CellId) : s.restartFilters.reads c =
    if s.Restarts c then (.free, { mode := .active, raw := .free, count := 0 }) else s.reads c := by
  rw [State.restartFilters_eq]
  have each := foldl_observed (f := State.refilter) (obs := State.reads) (inv := Refilters s)
    (g := fun c r => if s.Restarts c then (.free, { mode := .active, raw := .free, count := 0 }) else r)
    (fun u c h => h.trans (u.refilter_refilters c)) (fun u c h => ?_)
    (fun u c d _ other => u.refilter_reads_other other) (List.nodup_finRange 32) .rfl c
  · rw [if_pos (List.mem_finRange c)] at each
    exact each
  · by_cases restarts : u.Restarts c
    · obtain ⟨-, active⟩ := id restarts
      rw [State.refilter_of_restarts restarts, State.restartFilter_reads, if_pos rfl, if_pos (h.restarts.1 restarts),
        ← active]
    · rw [State.refilter_of_not restarts, if_neg fun r => restarts (h.restarts.2 r)]

/-- With no cell held the restart of the filters writes cells and sensors alone. -/
structure RefiltersUnheld (s t : State) : Prop where
  refilters : Refilters s t
  unheld : ∀ c, (t.cell c).holder = none
  pool : t.book.pool = s.book.pool
  sameTx : SameTx s t

/-- One cell with its sensor. -/
def State.senses (s : State) (c : CellId) : CellRec × SensorRec := (s.cell c, s.sensor c)

theorem State.refilter_unheld (free : (s.cell c).holder = none) (restarts : s.Restarts c) :
    s.refilter c = s.resensed c ((s.cell c).restarted s.timer.floor) { s.sensor c with raw := .free, count := 0 } := by
  rw [State.refilter_of_restarts restarts]
  exact State.restartFilter_unheld free

theorem RefiltersUnheld.refilter (h : RefiltersUnheld s t) (c : CellId) : RefiltersUnheld s (t.refilter c) := by
  have again := h.refilters.trans (t.refilter_refilters c)
  by_cases restarts : t.Restarts c
  · rw [State.refilter_unheld (h.unheld c) restarts] at again ⊢
    refine ⟨again, fun d => ?_, h.pool, h.sameTx.trans ⟨.refl _, .refl _, .refl _⟩⟩
    rw [State.resensed_cell]
    split
    · exact h.unheld c
    · exact h.unheld d
  · rw [State.refilter_of_not restarts]
    exact h

section
variable (unheld : ∀ c, (s.cell c).holder = none)
include unheld

theorem State.restartFilters_unheld : RefiltersUnheld s s.restartFilters := by
  rw [State.restartFilters_eq]
  exact foldl_invariant (inv := RefiltersUnheld s) (fun _ c h => h.refilter c) ⟨.rfl, unheld, .refl _, .rfl⟩ _

open Classical in
/-- Each filter that restarts writes its own cell and sensor (R101, R102). -/
theorem State.restartFilters_senses (c : CellId) : s.restartFilters.senses c =
    if s.Restarts c then
      ((s.cell c).restarted s.timer.floor, { s.sensor c with raw := .free, count := 0 })
    else s.senses c := by
  rw [State.restartFilters_eq]
  have each := foldl_observed (f := State.refilter) (obs := State.senses) (inv := RefiltersUnheld s)
    (g := fun c r => if s.Restarts c then (r.1.restarted s.timer.floor, { r.2 with raw := .free, count := 0 }) else r)
    (fun u c h => h.refilter c) (fun u c h => ?_) (fun u c d h other => ?_) (List.nodup_finRange 32)
    ⟨.rfl, unheld, .refl _, .rfl⟩ c
  · rw [if_pos (List.mem_finRange c)] at each
    exact each
  · have floor : u.timer = s.timer := h.refilters.keeps.1.timer
    by_cases restarts : u.Restarts c
    · rw [State.refilter_unheld (h.unheld c) restarts, if_pos (h.refilters.restarts.1 restarts), State.senses,
        State.resensed_cell, State.resensed_sensor, if_pos rfl, if_pos rfl, floor]
      rfl
    · rw [State.refilter_of_not restarts, if_neg fun r => restarts (h.refilters.restarts.2 r)]
  · by_cases restarts : u.Restarts c
    · rw [State.refilter_unheld (h.unheld c) restarts, State.senses, State.resensed_cell, State.resensed_sensor,
        if_neg other, if_neg other]
      rfl
    · rw [State.refilter_of_not restarts]

end

end

/-! #### The ways out of HALTED -/

section
variable {s t u : State} {a : ApproachId} {p : Slot} {q : Passage} {hd : FrameHead} {mode : Mode}

theorem exec_resume : exec (.resume hd) s = onFrame (.resume hd) s State.resume := rfl

theorem State.resume_running (h : s.control.mode = .running) : s.resume = (s, .done (.resume .running)) := by
  rw [State.resume, h]

theorem State.resume_draining (h : s.control.mode = .draining) :
    s.resume = (((s.setMode .running).postMode).grantPass none, .done (.resume .running)) := by
  rw [State.resume, h]

theorem State.resume_caused (h : s.control.mode = .halted) (causes : s.control.causes ≠ .empty) :
    s.resume = (s, .causePresent s.control.causes) := by
  rw [State.resume, h]
  simp [HaltCauses.isEmpty, causes]

section
variable (h : s.control.mode = .halted) (causes : s.control.causes = .empty)
include h causes

theorem State.resume_settling (prior : s.control.prior = .settling) :
    s.resume = (s.enterSettling, .done (.resume s.enterSettling.control.mode)) := by
  rw [State.resume, h]
  simp [HaltCauses.isEmpty, causes, prior]

theorem State.resume_running_or_draining (prior : s.control.prior = .running ∨ s.control.prior = .draining) :
    s.resume = (s.leaveHalted (if s.control.prior = .running then .running else .draining),
      .done (.resume (s.leaveHalted (if s.control.prior = .running then .running else .draining)).control.mode)) := by
  rw [State.resume, h]
  rcases prior with prior | prior <;> simp [HaltCauses.isEmpty, causes, prior]

end

/-- The Mode Controller in SETTLING, its count begun (R120). -/
def Control.inSettling (c : Control) : Control := { c with mode := .settling, settleCount := 0, risesDue := 0 }

/-- With no cause, no emergency and no fault the entry is into SETTLING itself (R120). -/
theorem State.enterSettling_of_quiet (causes : s.control.causes = .empty) (calm : s.control.emergency.asserted = false)
    (faultless : ∀ a, (s.signal a).fault = false) :
    s.enterSettling = (s.restartFilters.setControl s.control.inSettling).postMode := by
  have refilters := s.restartFilters_refilters
  have same : s.enterSettling = s.restartFilters.settled.postMode := rfl
  have fault : s.restartFilters.anyFault = false := by
    rw [State.anyFault_eq]
    refine decide_eq_false fun ⟨a, fault⟩ => ?_
    rw [State.signal, refilters.signals] at fault
    exact Bool.false_ne_true ((faultless a).symm.trans fault)
  have none : s.restartFilters.heldCauses = .empty := by
    rw [State.heldCauses, refilters.keeps.2, fault, calm, causes]
    rfl
  have control : ({ s.control with mode := .settling, causes := .empty, settleCount := 0, risesDue := 0 } : Control) =
      s.control.inSettling := by rw [Control.inSettling, ← causes]
  have empty : HaltCauses.empty.isEmpty = true := rfl
  unfold State.settled at same
  dsimp only at same
  rw [none, refilters.keeps.2, control, if_pos empty] at same
  exact same

/-- A deadline without EXT_STOP does not change when EXT_STOP leaves (R91). -/
theorem Deadline.leaveExtStop_of_plain {d : Deadline} (plain : d.extStop = false) (now : Time) :
    d.leaveExtStop now = d := by
  obtain ⟨run, halt, extStop⟩ := d
  cases plain
  cases halt <;> simp [Deadline.leaveExtStop, Deadline.setCauses]

theorem State.leaveExtStop_passage_of_plain (hq : s.passage p = some q) (plain : q.deadline.extStop = false) (x : Slot)
    (now : Time) : (s.modDeadline x fun d => d.leaveExtStop now).passage p = some q := by
  rw [State.passage_modDeadline]
  split
  · rename_i e
    rw [e, hq, Option.map_some, Deadline.leaveExtStop_of_plain plain]
  · exact hq

/-- A latch leaves the passages without EXT_STOP (R109). -/
theorem State.setLatch_passage_of_plain (hq : s.passage p = some q) (plain : q.deadline.extStop = false)
    (latch : Latch) : (s.setLatch a latch).passage p = some q := by
  unfold State.setLatch
  dsimp only
  split
  · exact hq
  · split
    · split
      · exact hq
      · exact State.leaveExtStop_passage_of_plain hq plain _ _
    · exact hq

/-- The latch of one approach, at a RESUME (R127, step 3). -/
def State.goLatch (s : State) (a : ApproachId) : State := if (s.grantedOn a).isSome then s.setLatch a .go else s

theorem State.goLatches_eq (s : State) : s.goLatches = (List.finRange 8).foldl State.goLatch s := rfl

theorem State.goLatch_of_granted (h : ∃ p, s.GrantedAt p a) : s.goLatch a = s.setLatch a .go := by
  obtain ⟨x, found⟩ := State.grantedOn_of_some h
  rw [State.goLatch, found]
  rfl

theorem State.goLatch_of_ungranted (h : ∀ p, ¬ s.GrantedAt p a) : s.goLatch a = s := by
  rw [State.goLatch, State.grantedOn_of_none h]
  rfl

theorem State.goLatch_cases (s : State) (a : ApproachId) : s.goLatch a = s.setLatch a .go ∨ s.goLatch a = s := by
  unfold State.goLatch
  split
  · exact .inl rfl
  · exact .inr rfl

theorem State.goLatch_sameCore (s : State) (a : ApproachId) : SameCore s (s.goLatch a) := by
  rcases s.goLatch_cases a with e | e <;> rw [e]
  · exact s.setLatch_sameCore a .go
  · exact .rfl

theorem State.goLatches_invariant {inv : State → Prop} (keep : ∀ u a, inv u → inv (u.setLatch a .go)) (hs : inv s) :
    inv s.goLatches := by
  rw [State.goLatches_eq]
  refine foldl_invariant (fun u a h => ?_) hs _
  rcases u.goLatch_cases a with e | e <;> rw [e]
  · exact keep u a h
  · exact h

theorem State.goLatches_keepsCells (s : State) : KeepsCells s s.goLatches :=
  State.goLatches_invariant (fun u a h => h.trans (u.setLatch_keepsCells a .go)) .rfl

theorem State.goLatches_marks (s : State) : s.goLatches.marks = s.marks :=
  State.goLatches_invariant (inv := fun u => u.marks = s.marks) (fun u a h => (u.setLatch_marks a .go).trans h) rfl

theorem State.goLatches_passage_of_plain (hq : s.passage p = some q) (plain : q.deadline.extStop = false) :
    s.goLatches.passage p = some q :=
  State.goLatches_invariant (inv := fun u => u.passage p = some q)
    (fun _ _ h => State.setLatch_passage_of_plain h plain .go) hq

open Classical in
/-- The latches of the approaches with a GRANTED passage go to GO, and no other is written (R106, R127). -/
theorem State.goLatches_signal (s : State) (a : ApproachId) : s.goLatches.signal a =
    if ∃ p, s.GrantedAt p a then (s.signal a).latched .go else s.signal a := by
  rw [State.goLatches_eq]
  have each := foldl_observed (f := State.goLatch) (obs := State.signal) (inv := SameCore s)
    (g := fun a r => if ∃ p, s.GrantedAt p a then r.latched .go else r) (fun u a h => h.trans (u.goLatch_sameCore a))
    (fun u a h => ?_) (fun u a b _ other => ?_) (List.nodup_finRange 8) .rfl a
  · rw [if_pos (List.mem_finRange a)] at each
    exact each
  · by_cases granted : ∃ p, u.GrantedAt p a
    · rw [State.goLatch_of_granted granted, State.setLatch_signal, if_pos rfl, if_pos]
      exact granted.imp fun p => h.grantedAt
    · rw [State.goLatch_of_ungranted (not_exists.1 granted), if_neg]
      exact fun before => granted (before.imp fun p => h.symm.grantedAt)
  · rcases u.goLatch_cases a with e | e <;> rw [e]
    rw [State.setLatch_signal, if_neg other]

/-- The state that a RESUME to RUNNING or DRAINING reaches before its notice and its pass (R127, steps 1 to 3). -/
def State.unhalted (s : State) (mode : Mode) : State :=
  ((s.setMode mode).modLiveDeadlines fun d => d.leaveHalt s.timer.floor).goLatches

theorem State.leaveHalted_eq : s.leaveHalted mode = ((s.unhalted mode).postMode).grantPass none := rfl

theorem State.unhalted_keeps : Keeps (s.setMode mode) (s.unhalted mode) :=
  (State.modLiveDeadlines_keeps _ _).trans (State.goLatches_keeps _)

theorem State.unhalted_sameCore : SameCore s (s.unhalted mode) :=
  ((s.setControl_sameCore _).trans (State.modLiveDeadlines_sameCore _ _)).trans (State.goLatches_sameCore _)

theorem State.unhalted_keepsCells : KeepsCells s (s.unhalted mode) := by
  refine KeepsCells.trans ?_ (State.goLatches_keepsCells _)
  simp [KeepsCells, SameTx, State.setMode]

theorem State.unhalted_passage (hq : s.passage p = some q) (plain : q.deadline.extStop = false) :
    (s.unhalted mode).passage p =
      some { q with deadline := if q.live then q.deadline.leaveHalt s.timer.floor else q.deadline } := by
  have restored : ((s.setMode mode).modLiveDeadlines fun d => d.leaveHalt s.timer.floor).passage p =
      some { q with deadline := if q.live then q.deadline.leaveHalt s.timer.floor else q.deadline } := by
    rw [State.passage_modLiveDeadlines, show (s.setMode mode).passage p = some q from hq, Option.map_some]
    split <;> rfl
  refine State.goLatches_passage_of_plain restored ?_
  split
  · exact plain
  · exact plain

theorem State.unhalted_marks : (s.unhalted mode).marks = s.marks := by
  rw [State.unhalted, State.goLatches_marks, State.modLiveDeadlines_marks]
  rfl

theorem State.unhalted_signal (a : ApproachId) :
    ((∃ p, s.GrantedAt p a) → (s.unhalted mode).signal a = (s.signal a).latched .go) ∧
      ((∀ p, ¬ s.GrantedAt p a) → (s.unhalted mode).signal a = s.signal a) := by
  obtain ⟨v, hv⟩ : ∃ v, v = (s.setMode mode).modLiveDeadlines fun d => d.leaveHalt s.timer.floor := ⟨_, rfl⟩
  have core : SameCore s v := by
    rw [hv]
    exact (s.setControl_sameCore _).trans (State.modLiveDeadlines_sameCore _ _)
  have signal : v.signal a = s.signal a := by
    rw [hv, State.signal, State.modLiveDeadlines_signals]
    rfl
  have latches := v.goLatches_signal a
  rw [signal] at latches
  rw [State.unhalted, ← hv, latches]
  exact ⟨fun granted => if_pos (granted.imp fun p => core.symm.grantedAt),
    fun none => if_neg fun ⟨p, granted⟩ => none p (core.grantedAt granted)⟩

/-- Once the mode is that of the RESUME the MODE notice and one pass are left (R40, R117, R127). -/
theorem State.resumed {f : Frame} {v : State} (keeps : Keeps ((s.readFrame f).setMode mode) v)
    (sent : SameTx (s.readFrame f) v) (verdict : Verdict) :
    SameOutside { s with control := { s.control with mode := mode } } v.postMode ∧
      Posts s v.postMode (toAll (modeNotice s v.postMode)) ∧ v.postMode.control.mode = mode ∧
      ((v.postMode.grantPass none).giveTail verdict).control = v.postMode.control := by
  have posted := v.postMode_keepsBook
  obtain ⟨told, book, -⟩ := id posted
  have floor : v.timer.floor = s.timer.floor := congrArg Timer.floor keeps.timer
  have notice := State.postMode_posted (t := v.postMode) (w := s) floor told.control (congrArg Book.pool book)
  have posts := (sent.andPosted notice).posts
  generalize v.postMode = u at *
  obtain ⟨power, map, timer, scanner, control, decoder, pending, error, own, pulse⟩ := (keeps.trans told).sameOutside
  refine ⟨⟨power, map, timer, scanner, control, decoder, pending, error, own, pulse⟩, posts,
    congrArg Control.mode control, ?_⟩
  rw [State.giveTail_control, (u.grantPass_keeps none).control]

end

/-- Settles O52: a RESUME by mode, causes and prior mode. Its restart of settling is a fold of filter restarts, its
return from HALTED a fold of latches. -/
theorem resumeLeavesHalted : Obligations.ResumeLeavesHalted := by
  intro hd s taken
  refine ⟨fun running => taken.answers exec_resume fun f => State.resume_running (s := s.readFrame f) running,
    fun draining => ?_,
    fun halted causes => taken.answers exec_resume fun f => State.resume_caused (s := s.readFrame f) halted causes,
    fun halted causes prior calm faultless => ?_, fun halted causes prior => ?_⟩
  · obtain ⟨f, -, done⟩ := taken.exec_eq exec_resume
    rw [State.resume_draining (s := s.readFrame f) draining] at done
    obtain ⟨outside, posts, -, control⟩ := State.resumed (s := s) (f := f) (mode := .running)
      (v := (s.readFrame f).setMode .running) .rfl ⟨rfl, rfl, rfl⟩ (.done (.resume .running))
    obtain ⟨-, same⟩ := ((s.readFrame f).setMode .running).postMode_keepsBook
    dsimp only at done
    generalize ((s.readFrame f).setMode .running).postMode = u at *
    exact ⟨u, _, done, rfl, outside, same, posts, State.sameButTail_giveTail _ _, control⟩
  · obtain ⟨f, -, done⟩ := taken.exec_eq exec_resume
    rw [State.resume_settling (s := s.readFrame f) halted causes prior,
      State.enterSettling_of_quiet (s := s.readFrame f) causes calm faultless] at done
    have refilters := (s.readFrame f).restartFilters_refilters
    have reads := (s.readFrame f).restartFilters_reads
    have unheld := State.restartFilters_unheld (s := s.readFrame f)
    have senses := State.restartFilters_senses (s := s.readFrame f)
    generalize (s.readFrame f).restartFilters = v at *
    have posted := (v.setControl s.control.inSettling).postMode_keepsBook
    have floor : v.timer.floor = s.timer.floor := congrArg Timer.floor refilters.keeps.1.timer
    have notice := State.postMode_posted_answer
      (s := v.setControl s.control.inSettling) (w := s) floor
      (.done (.resume .settling))
    dsimp only at done
    rw [State.readFrame_control, posted.1.control] at done
    generalize (v.setControl s.control.inSettling).postMode = t at *
    obtain ⟨told, book, marks, signals⟩ := posted
    have cell := State.cell_congr (congrArg Book.cells book)
    have sensor : ∀ c, t.sensor c = v.sensor c := fun c => by rw [State.sensor, told.scanner]; rfl
    refine ⟨_, done, rfl, told.control, told.map.trans refilters.keeps.1.map, told.timer.trans refilters.keeps.1.timer,
      told.decoder.trans refilters.keeps.1.decoder, ?_, told.power.trans refilters.keeps.1.power,
      told.pending.trans refilters.keeps.1.pending, ?_, (congrArg Book.arrivals book).trans refilters.arrivals,
      (congrArg Book.queues book).trans refilters.queues, marks.trans refilters.marks,
      signals.trans refilters.signals, fun c => ⟨?_, ?_⟩, fun free => ?_, fun c used active => ?_⟩
    · exact (congrArg OuterLiu.error told.liu).trans refilters.keeps.1.error
    · change t.scanner = { s.scanner with sensors := t.scanner.sensors }
      rw [told.scanner]
      exact refilters.scanner
    · exact (congrArg SensorRec.mode (sensor c)).trans (refilters.mode c)
    · exact (congrArg CellRec.reservation (cell c)).trans (refilters.reservation c)
    · obtain ⟨-, -, pool, sent⟩ := unheld free
      have begun : SameTx (s.readFrame f) (v.setControl s.control.inSettling) := sent.trans ⟨rfl, rfl, rfl⟩
      refine ⟨(congrArg Book.pool book).trans pool, (begun.andPosted notice).posts.giveTail _, fun c => ?_⟩
      have sense : (v.cell c, v.sensor c) = _ := senses free c
      refine ⟨fun still => ?_, fun restarts => (cell c).trans ?_⟩
      · rw [if_neg (show ¬ (s.readFrame f).Restarts c from still)] at sense
        exact ⟨(cell c).trans (congrArg Prod.fst sense), (sensor c).trans (congrArg Prod.snd sense)⟩
      · rw [if_pos (show (s.readFrame f).Restarts c from restarts)] at sense
        exact congrArg Prod.fst sense
    · have read : ((v.cell c).occupancy, v.sensor c) = _ := reads c
      rw [if_pos (show (s.readFrame f).Restarts c from ⟨used, active⟩)] at read
      exact ⟨(congrArg CellRec.occupancy (cell c)).trans (congrArg Prod.fst read),
        (sensor c).trans (congrArg Prod.snd read)⟩
  · obtain ⟨f, -, done⟩ := taken.exec_eq exec_resume
    rw [State.resume_running_or_draining (s := s.readFrame f) halted causes prior, State.leaveHalted_eq] at done
    have control' : (s.readFrame f).control.prior = s.control.prior := rfl
    rw [control'] at done
    dsimp only
    generalize (if s.control.prior = .running then Mode.running else .draining) = mode at *
    obtain ⟨outside, posts, at_mode, control⟩ := State.resumed (s := s) (f := f) (mode := mode)
      (v := (s.readFrame f).unhalted mode) State.unhalted_keeps State.unhalted_keepsCells.1 (.done (.resume mode))
    obtain ⟨told, book, marks, signals⟩ := ((s.readFrame f).unhalted mode).postMode_keepsBook
    have cells := State.unhalted_keepsCells (s := s.readFrame f) (mode := mode)
    have core := State.unhalted_sameCore (s := s.readFrame f) (mode := mode)
    have marked : ((s.readFrame f).unhalted mode).marks = s.marks := State.unhalted_marks (s := s.readFrame f)
    have signal := State.unhalted_signal (s := s.readFrame f) (mode := mode)
    have passage := fun p q => State.unhalted_passage (s := s.readFrame f) (mode := mode) (p := p) (q := q)
    obtain ⟨-, -, cells⟩ := cells
    dsimp only at done
    rw [(State.grantPass_keeps _ _).control, at_mode] at done
    generalize (s.readFrame f).unhalted mode = v at *
    generalize v.postMode = u at *
    have pool := State.passage_congr (congrArg Book.pool book)
    refine ⟨u, _, done, rfl, outside, (congrArg Book.cells book).trans cells,
      (congrArg Book.arrivals book).trans core.arrivals, (congrArg Book.queues book).trans core.queues,
      marks.trans marked, fun a granted => ?_, fun a none => ?_, fun p none => ?_, fun p q hq plain => ?_, posts,
      State.sameButTail_giveTail _ _, control, fun draining => ?_⟩
    · rw [State.signal, signals]
      exact (signal a).1 granted
    · rw [State.signal, signals]
      exact (signal a).2 none
    · rw [pool]
      exact core.passage_none none
    · rw [pool]
      exact passage p q hq plain
    · rw [State.grantPass_of_notRunning (by rw [at_mode, draining]; exact Mode.noConfusion)]
      exact State.sameButTail_giveTail _ _

end Sys2Proof.Machine

namespace Sys2Proof.Machine

/-! ### Intrusions (R59, R61, R64, R66) -/

section
variable {s : State} {p : Slot} {q : Passage} {c : CellId} {reason : IntrusionReason}
  {who : Option (Slot × Passage)} {stamp : Time} {i k : Nat}

/-! #### What an intrusion does -/

/-- Apart from the notice, an intrusion writes one flag. -/
theorem State.intrude_keepsBook :
    KeepsBook (s.setCell c { s.cell c with intruded := true }) (s.intrude c reason who stamp) :=
  State.postSafety_keepsBook _ _

theorem State.intrude_posted : Posted s (s.intrude c reason who stamp)
    (toSafety s
      { body := .intrusion c reason, passage := who.map fun w => (w.1, w.2.carrier), stamp := stamp
        clamped := who.any fun w => w.2.clamped, wasOverdue := false }) := by
  have marked : SameTx s (s.setCell c { s.cell c with intruded := true }) := ⟨rfl, rfl, rfl⟩
  have notice : s.note (.intrusion c reason) who =
      { body := .intrusion c reason, passage := who.map fun w => (w.1, w.2.carrier), stamp := s.timer.floor
        clamped := who.any fun w => w.2.clamped, wasOverdue := false } := by simp [State.note]
  have posted := marked.andPosted (State.postSafety_posted _ { s.note (.intrusion c reason) who with stamp := stamp })
  rw [notice] at posted
  exact posted

theorem State.intrude_heard : (s.intrude c reason who stamp).heard = s.heard := by
  funext d
  rw [State.heard, State.intrude_keepsBook.cell, State.cell_setCell]
  split
  · rename_i e; rw [← e]; rfl
  · rfl

/-- The command leaves the cell intruded and tells the safety master of it with the stamp of the report; nothing else of
the book changes, and no pass starts (R59, R61; log entry 20). -/
def MarksIntrusion (s : State) (c : CellId) (reason : IntrusionReason) (who : Option (Slot × CarrierId))
    (clamped : Bool) : Prop :=
  ∃ t, exec (.occupancyChange c) s = .next t ∧ SameOutside s t ∧
    t.cell c = { s.cell c with heard := .occupied, intruded := true } ∧
    (∀ d, d ≠ c → t.cell d = s.cell d) ∧ t.book.pool = s.book.pool ∧ t.book.arrivals = s.book.arrivals ∧
    t.book.queues = s.book.queues ∧ t.marks = s.marks ∧ t.signals = s.signals ∧
    Posts s t (toSafety s
      { body := .intrusion c reason, passage := who, stamp := (s.cell c).stamp, clamped := clamped
        wasOverdue := false })

section
variable (running : s.power.phase = .running) (operating : s.control.mode.operating = true)
  (occupied : (s.cell c).occupancy = .occupied) (news : (s.cell c).heard ≠ .occupied)
include running operating occupied news

/-- A report that starts no pass and leaves the pool alone does what the Tracker does with it. -/
theorem exec_occupancyChange_of_quiet {u : State} (taken : s.takeChange c .occupied (s.cell c).stamp = (u, false))
    (pool : u.book.pool = s.book.pool) : exec (.occupancyChange c) s = .next u := by
  have step := exec_occupancyChange_of_report running operating (by rw [occupied]; exact news)
  rw [occupied, taken, State.afterEvent_eq, State.drainedPost_of_pool pool] at step
  exact step

/-- A report that the Tracker answers with an intrusion. -/
theorem MarksIntrusion.of_taken
    (taken : s.takeChange c .occupied (s.cell c).stamp =
      ((s.told c .occupied).intrude c reason who (s.cell c).stamp, false)) :
    MarksIntrusion s c reason (who.map fun w => (w.1, w.2.carrier)) (who.any fun w => w.2.clamped) := by
  have keeps := State.told_keeps.trans
    ((s.told c .occupied).intrude_keeps c reason who (s.cell c).stamp)
  have posted := State.told_sameTx.andPosted
    (State.intrude_posted (s := s.told c .occupied) (c := c) (reason := reason) (who := who)
      (stamp := (s.cell c).stamp))
  have book := State.intrude_keepsBook (s := s.told c .occupied) (c := c) (reason := reason) (who := who)
    (stamp := (s.cell c).stamp)
  generalize (s.told c .occupied).intrude c reason who (s.cell c).stamp = t at *
  have cell := book.cell
  obtain ⟨-, same, marks, signals⟩ := book
  have pool : t.book.pool = s.book.pool := (congrArg Book.pool same).trans (State.setCell_book_pool _ _ _)
  refine ⟨t, exec_occupancyChange_of_quiet running operating occupied news taken pool, keeps.sameOutside, ?_,
    fun d other => ?_, pool, (congrArg Book.arrivals same).trans (State.setCell_book_arrivals _ _ _),
    (congrArg Book.queues same).trans (State.setCell_book_queues _ _ _), marks, signals, posted.posts_of_same⟩
  · rw [cell, State.cell_setCell, if_pos rfl, State.told_cell, if_pos rfl]
  · rw [cell, State.cell_setCell, if_neg (Ne.symm other), State.told_cell, if_neg other]

end

/-! #### The reports that intrude -/

/-- A report of OCCUPIED from a cell that nobody holds (R61). -/
theorem State.takeChange_occupiedFree (free : (s.cell c).holder = none) : s.takeChange c .occupied stamp =
    ((s.told c .occupied).intrude c .occupiedFree none stamp, false) := by
  unfold State.takeChange State.told
  dsimp only
  rw [free, Option.bind_none]
  simp

/-- A report of OCCUPIED on a granted route from a cell that is not its entry cell (R64). -/
theorem State.takeChange_early {d : CellId} (holder : (s.cell c).holder = some p) (hq : s.passage p = some q)
    (granted : q.state = .granted) (entry : (s.told c .occupied).entryCell q = some (k, d)) (other : d ≠ c) :
    s.takeChange c .occupied stamp = ((s.told c .occupied).intrude c .early (some (p, q)) stamp, false) := by
  have told : s.setCell c { s.cell c with
      heard := .occupied, intruded := (s.cell c).intruded && !decide (Occupancy.occupied ≠ .occupied) } =
        s.told c .occupied := rfl
  have at_p : (s.told c .occupied).passage p = some q := hq
  unfold State.takeChange
  dsimp only
  rw [told, holder, Option.bind_some, at_p, Option.map_some]
  simp [granted, entry, other]

theorem idxOf_of_getElem? {l : List CellId} (nodup : l.Nodup) (hc : l[k]? = some c) : l.idxOf c = k := by
  obtain ⟨short, rfl⟩ := List.getElem?_eq_some_iff.1 hc
  exact nodup.idxOf_getElem k short

/-- A cell that is ahead of the position, with one between that should have been seen, is skipped to (R66). -/
theorem State.occupiedAhead_of_skip {j : Nat} {d : CellId} (nodup : (s.cellsOf q).Nodup)
    (position : q.position = some i) (after : i < j) (before : j < k) (hc : (s.cellsOf q)[k]? = some c)
    (hd : (s.cellsOf q)[j]? = some d) (seen : s.heard d ≠ .blind) :
    s.occupiedAhead p q c stamp = s.intrude c .skip (some (p, q)) stamp := by
  have between : d ∈ ((s.cellsOf q).take k).drop (i + 1) := by
    refine List.mem_iff_getElem?.2 ⟨j - (i + 1), ?_⟩
    rw [List.getElem?_drop, Nat.add_sub_cancel' after, List.getElem?_take, if_pos before, hd]
  have stands : ¬ (((s.cellsOf q).take k).drop (i + 1)).all (fun d => s.heard d = .blind) = true := fun blind =>
    seen (of_decide_eq_true (List.all_eq_true.1 blind d between))
  unfold State.occupiedAhead
  dsimp only
  rw [idxOf_of_getElem? nodup hc, position, Option.getD_some, if_neg (by omega), if_neg stands]

/-- A cell at or behind the position is no news of the carrier (R66). -/
theorem State.occupiedAhead_of_behind (nodup : (s.cellsOf q).Nodup) (position : q.position = some i)
    (behind : k ≤ i) (hc : (s.cellsOf q)[k]? = some c) : s.occupiedAhead p q c stamp = s := by
  unfold State.occupiedAhead
  dsimp only
  rw [idxOf_of_getElem? nodup hc, position, Option.getD_some, if_pos behind]

/-- Where the first held cell does not meet its condition, what the Tracker does with a report of OCCUPIED on the route
is all of the event (R66, R67). -/
theorem State.takeChange_stops {u : State} (law : s.HolderLaw) (holder : (s.cell c).holder = some p)
    (hq : s.passage p = some q) (entered : q.state = .entered) (position : q.position = some i)
    (stops : ¬ MeetsRelease (s.told c .occupied).heard i (s.cellsOf q) q.firstHeld)
    (moves : (s.told c .occupied).occupiedAhead p q c stamp = u) (core : SameCore s u)
    (at_p : u.passage p = some q) (heard : u.heard = (s.told c .occupied).heard) :
    s.takeChange c .occupied stamp = (u, false) := by
  obtain ⟨-, -, held⟩ := State.holderLaw_iff.1 law
  have live : q.live = true := Passage.live_eq_true_iff.2 (by rw [entered]; exact nofun)
  have some_held : s.heldRun q ≠ [] := List.ne_nil_of_mem ((held.holder_iff hq).1 holder)
  have none_meets : meetsCondition u.heard (q.position.getD 0) q.firstHeld (s.heldRun q) = false := by
    rw [heard, position, Option.getD_some, Bool.eq_false_iff]
    exact fun meets => stops ((meetsCondition_iff _ _ (State.heldRun_of_live live).symm).1 meets)
  have taken := State.takeChange_entered (occ := .occupied) (stamp := stamp) holder hq entered
  dsimp only at taken
  rw [if_neg (by simp), moves] at taken
  have examined : u.examination p (decide (Occupancy.occupied = .blind)) = (u, false) :=
    State.examination_of_stops at_p (core.heldRun rfl) some_held none_meets
  rw [taken, examined]
  simp

end

/-- Settles O43: the Tracker answers the report with one intrusion, by who holds the cell and where it stands on the
route, or, at or behind the nose, with nothing; and the examination of an ENTERED holder stops at its first cell. -/
theorem intrusionMarksTheCell : Obligations.IntrusionMarksTheCell := by
  intro c s running operating occupied news
  have heard := State.told_heard (s := s) (c := c) (occ := .occupied)
  have unchanged : ∀ d, d ≠ c → (s.told c .occupied).heard d = (s.cell d).heard := fun d other => by
    rw [heard]
    exact if_neg other
  refine ⟨fun free => MarksIntrusion.of_taken running operating occupied news (State.takeChange_occupiedFree free),
    fun p q holder hq => ⟨fun granted k d hd other seen blind => ?_, fun entered law i position stops => ?_⟩⟩
  · have entry : (s.told c .occupied).entryCell q = some (k, d) := by
      obtain ⟨cells, length⟩ := split_at_getElem? hd
      have found := State.entryCell_of (s := s.told c .occupied) cells
        (fun e mem => (unchanged e (blind e mem).1).trans (blind e mem).2) (by rwa [unchanged d other])
      rwa [length] at found
    exact MarksIntrusion.of_taken running operating occupied news
      (State.takeChange_early holder hq granted entry other)
  · obtain ⟨-, -, held⟩ := State.holderLaw_iff.1 law
    have nodup := held.nodup hq
    rw [← heard] at stops
    have taken := fun u => State.takeChange_stops (u := u) (stamp := (s.cell c).stamp) law holder hq entered position
      stops
    refine ⟨fun j k d after before hc hd seen => ?_, fun k behind hc => ?_⟩
    · have other : d ≠ c := fun e => by
        have at_k := idxOf_of_getElem? nodup hc
        have at_j := idxOf_of_getElem? nodup hd
        rw [e] at at_j
        omega
      have skips := State.occupiedAhead_of_skip (s := s.told c .occupied) (p := p) (stamp := (s.cell c).stamp) nodup
        position after before hc hd (by rwa [unchanged d other])
      exact MarksIntrusion.of_taken running operating occupied news
        (taken _ skips (State.told_sameCore.trans (State.intrude_sameCore _ _ _ _ _))
          ((State.intrude_keepsBook.passage p).trans hq) State.intrude_heard)
    · have stays := State.occupiedAhead_of_behind (s := s.told c .occupied) (p := p) (stamp := (s.cell c).stamp) nodup
        position behind hc
      rw [exec_occupancyChange_of_quiet running operating occupied news (taken _ stays State.told_sameCore hq rfl) rfl]
      simp [State.told, State.setCell]

end Sys2Proof.Machine

namespace Sys2Proof.Machine

/-! ### Windows and freeze-cause sets (R81 to R84, R92) -/

/-! #### Division rounded up -/

/-- The quotient rounded up is the smallest number of divisors that covers the dividend (5.3). -/
theorem ceilDiv_covers (a : Nat) {b : Nat} (pos : 0 < b) : a ≤ ceilDiv a b * b ∧ ceilDiv a b * b < a + b := by
  have split := Nat.div_add_mod (a + b - 1) b
  have rest := Nat.mod_lt (a + b - 1) pos
  rw [ceilDiv, Nat.mul_comm]
  omega

theorem acceleration_of_mem {load a : Nat} (h : (load, a) ∈ [(0, 50), (1, 40), (2, 25), (3, 15)]) :
    acceleration load = a ∧ 0 < a := by
  simp only [List.mem_cons, Prod.mk.injEq, List.not_mem_nil, or_false] at h
  rcases h with ⟨rfl, rfl⟩ | ⟨rfl, rfl⟩ | ⟨rfl, rfl⟩ | ⟨rfl, rfl⟩ <;> exact ⟨rfl, by decide⟩

/-- A window is the smallest number of ticks that covers the stretched time (R84). -/
theorem ticksOf_covers {o : Options} {ms : Nat} (tick : 0 < o.tick) (stretched : 0 < ms * o.dwell) :
    ms * o.dwell ≤ ticksOf o ms * (8 * o.tick) ∧ (ticksOf o ms - 1) * (8 * o.tick) < ms * o.dwell ∧
      1 ≤ ticksOf o ms := by
  have divisor : 0 < 8 * o.tick := by omega
  obtain ⟨covers, least⟩ := ceilDiv_covers (ms * o.dwell) divisor
  refine ⟨covers, ?_, ceilDiv_pos stretched divisor⟩
  rw [Nat.sub_mul, Nat.one_mul]
  rw [ticksOf]
  omega

theorem windowOf_eq (o : Options) (ms : Nat) :
    windowOf o ms = (min (ticksOf o ms) 32767, decide (32767 < ticksOf o ms)) := by
  rw [windowOf, Config.windowLimit]
  split
  · rename_i above
    rw [Nat.min_eq_right (Nat.le_of_lt above), decide_eq_true above]
  · rename_i within
    rw [Nat.min_eq_left (Nat.not_lt.1 within), decide_eq_false within]

/-! #### What a change of the freeze-cause set does -/

section
variable {d : Deadline} {halt extStop : Bool} (now : Time)

/-- The first cause to join freezes what runs (R92). -/
theorem Deadline.setCauses_freeze (before : (d.halt || d.extStop) = false) (after : (halt || extStop) = true) :
    d.setCauses halt extStop now =
      { run := d.run.map fun r => { r with clock := r.clock.freeze now }, halt := halt, extStop := extStop } := by
  simp [Deadline.setCauses, before, after]

/-- The last cause to leave restores what is frozen (R92). -/
theorem Deadline.setCauses_restore (before : (d.halt || d.extStop) = true) (after : (halt || extStop) = false) :
    d.setCauses halt extStop now =
      { run := d.run.map fun r => { r with clock := r.clock.restore now }, halt := halt, extStop := extStop } := by
  simp [Deadline.setCauses, before, after]

/-- A change between sets that are both empty or both not leaves the deadline alone (R92). -/
theorem Deadline.setCauses_same (same : (halt || extStop) = (d.halt || d.extStop)) :
    d.setCauses halt extStop now = { run := d.run, halt := halt, extStop := extStop } := by
  cases before : d.halt || d.extStop <;> simp [Deadline.setCauses, before, same]

/-- Kind NONE keeps only the set (R92). -/
theorem Deadline.setCauses_idle (idle : d.run = none) (halt extStop : Bool) :
    d.setCauses halt extStop now = { run := none, halt := halt, extStop := extStop } := by
  simp [Deadline.setCauses, idle]

theorem Deadline.joinHalt_haltJoined (d : Deadline) (now : Time) : d.HaltJoined (d.joinHalt now) now := by
  refine ⟨rfl, fun idle => by rw [Deadline.joinHalt, Deadline.setCauses_idle now idle],
    fun r run => ⟨fun remainder frozen => ?_, fun halt extStop deadline armed => ?_⟩⟩
  · have same : { r with clock := r.clock.freeze now } = r := by
      obtain ⟨kind, window, clock⟩ := r
      cases frozen
      rfl
    cases before : d.halt || d.extStop with
    | false => rw [Deadline.joinHalt, Deadline.setCauses_freeze now before rfl, run, Option.map_some, same]
    | true => rw [Deadline.joinHalt, Deadline.setCauses_same now (by rw [before]; rfl), run]
  · rw [Deadline.joinHalt, Deadline.setCauses_freeze now (by rw [halt, extStop]; rfl) rfl, run, Option.map_some, armed]
    rfl

/-- EXT_STOP leaves a set that keeps HALT (R91, R92). -/
theorem Deadline.leaveExtStop_of_halted (halted : d.halt = true) : d.leaveExtStop now = { d with extStop := false } := by
  rw [Deadline.leaveExtStop, Deadline.setCauses_same now (by rw [halted]; rfl)]

end

/-- Settles O32: rounding up is bounded on both sides, and a change of the set freezes, restores or leaves the deadline
by whether the set was and is empty. -/
theorem windowsAndFreezing : Obligations.WindowsAndFreezing := by
  refine ⟨fun o ms tick dwell time => ?_, fun distance speed load a fast known => ?_, fun cell carrier speed fast =>
    ceilDiv_covers _ fast, fun d now => ⟨fun idle => ?_, fun r run => ⟨fun x armed halt extStop => ?_,
      fun x frozen => ⟨fun halt => ?_, fun extStop => ?_, fun halt extStop => ?_, fun halt extStop => ?_,
        fun halt extStop => ?_⟩⟩⟩⟩
  · obtain ⟨covers, least, pos⟩ := ticksOf_covers (o := o) tick (Nat.mul_pos time (by omega))
    exact ⟨ticksOf o ms, covers, least, pos, windowOf_eq o ms⟩
  · obtain ⟨rfl, pos⟩ := acceleration_of_mem known
    obtain ⟨covers, least⟩ := ceilDiv_covers (distance * 1000) fast
    exact ⟨_, _, rfl, covers, least, ceilDiv_covers (speed * 500) pos⟩
  · have same := Deadline.setCauses_idle now idle
    refine ⟨(same _ _).trans ?_, (same _ _).trans ?_, (same _ _).trans ?_, (same _ _).trans ?_⟩ <;> rw [← idle]
  · have before : (d.halt || d.extStop) = false := by rw [halt, extStop]; rfl
    rw [Deadline.joinHalt, Deadline.joinExtStop, Deadline.setCauses_freeze now before rfl,
      Deadline.setCauses_freeze now before (Bool.or_true _), run, halt, extStop, Option.map_some, armed]
    exact ⟨rfl, rfl⟩
  · rw [Deadline.joinExtStop, Deadline.setCauses_same now (by rw [halt]; rfl)]
  · rw [Deadline.joinHalt, Deadline.setCauses_same now (by rw [extStop, Bool.or_true, Bool.or_true])]
  · rw [Deadline.leaveHalt, Deadline.leaveExtStop, Deadline.setCauses_same now (by rw [halt, extStop]; rfl),
      Deadline.setCauses_same now (by rw [halt]; rfl)]
    exact ⟨rfl, rfl⟩
  · rw [Deadline.leaveHalt, Deadline.setCauses_restore now (by rw [halt]; rfl) (by rw [extStop]; rfl), run, extStop,
      Option.map_some, frozen]
    rfl
  · rw [Deadline.leaveExtStop, Deadline.setCauses_restore now (by rw [extStop, Bool.or_true]) (by rw [halt]; rfl), run,
      halt, Option.map_some, frozen]
    rfl

end Sys2Proof.Machine

namespace Sys2Proof.Machine

/-! ### A halt (R125) -/

section
variable {s t u : State} {p : Slot} {q : Passage} {a : ApproachId}

theorem SameCore.grantedOn (h : SameCore s t) (a : ApproachId) : t.grantedOn a = s.grantedOn a := by
  have same : ∀ p, ((t.passage p).any fun q => q.state = .granted && t.approachOf q = a) =
      (s.passage p).any fun q => q.state = .granted && s.approachOf q = a := h.any fun q r core => by
    rw [h.approachOf core, (Passage.core_eq_iff.1 core).2.2.2.1]
  rw [State.grantedOn, State.grantedOn, State.slotsWhere, State.slotsWhere]
  simp only [same]

theorem State.SingleGrant.grantedOn (single : s.SingleGrant) (granted : s.GrantedAt p a) : s.grantedOn a = some p := by
  obtain ⟨x, found⟩ := State.grantedOn_of_some ⟨p, granted⟩
  rw [found, single a p x granted (State.grantedOn_some found)]

/-- The approach is externally stopped, which STOP at its latch ends (R106, R109). -/
def SignalRec.stopped (r : SignalRec) : Bool := r.latch = .go && r.extStop

theorem SignalRec.stopped_iff {r : SignalRec} : r.stopped = true ↔ r.latch = .go ∧ r.extStop = true := by
  simp [SignalRec.stopped]

theorem Latch.eq_stop {l : Latch} (h : l ≠ .go) : l = .stop := by
  cases l with
  | go => exact absurd rfl h
  | stop => rfl

/-- STOP at a latch takes EXT_STOP from the GRANTED passage of its approach, if that is externally stopped (R109). -/
theorem State.setLatch_stop_passage (s : State) (a : ApproachId) (p : Slot) : (s.setLatch a .stop).passage p =
    if (s.signal a).stopped = true ∧ s.grantedOn a = some p then
      (s.passage p).map fun q => { q with deadline := q.deadline.leaveExtStop s.timer.floor }
    else s.passage p := by
  have granted : ∀ r, (s.setSignal a r).grantedOn a = s.grantedOn a := fun r => (s.setSignal_sameCore a r).grantedOn a
  unfold State.setLatch
  dsimp only
  rw [granted]
  by_cases latch : (s.signal a).latch = .stop
  · rw [if_pos latch, if_neg]
    simp [SignalRec.stopped, latch]
  · have go : (s.signal a).latch = .go := Decidable.byContradiction fun h => latch (Latch.eq_stop h)
    rw [if_neg latch]
    cases stopped : (s.signal a).extStop with
    | false => simp [SignalRec.stopped, stopped]; rfl
    | true =>
      cases found : s.grantedOn a with
      | none => simp; rfl
      | some x =>
        simp only [SignalRec.stopped, go, stopped, if_true, State.passage_modDeadline]
        by_cases e : x = p
        · subst e
          simp
          rfl
        · simp [e]
          rfl

/-- What STOP at the latch of an approach reads and writes: the record of the approach, and a passage of it. -/
def State.stopView (s : State) (p : Slot) (own a : ApproachId) : SignalRec × Option Passage :=
  (s.signal a, if a = own then s.passage p else none)

/-- What STOP at the latch of approach `a` makes of that. -/
def State.stopWrites (s : State) (p : Slot) (a : ApproachId) (x : SignalRec × Option Passage) :
    SignalRec × Option Passage :=
  (x.1.latched .stop, if x.1.stopped = true ∧ s.grantedOn a = some p then
    x.2.map fun q => { q with deadline := q.deadline.leaveExtStop s.timer.floor } else x.2)

/-- A passage after every latch has gone to STOP: the latch of its own approach decides (R106, R109). -/
theorem State.stopLatches_passage (hq : s.passage p = some q) : s.stopLatches.passage p =
    if (s.signal (s.approachOf q)).stopped = true ∧ s.grantedOn (s.approachOf q) = some p then
      some { q with deadline := q.deadline.leaveExtStop s.timer.floor }
    else some q := by
  have each := foldl_observed (f := fun u b => u.setLatch b .stop) (obs := fun u => u.stopView p (s.approachOf q))
    (g := s.stopWrites p) (inv := fun u => SameCore s u ∧ u.timer = s.timer)
    (fun u b ⟨core, timer⟩ => ⟨core.trans (u.setLatch_sameCore b .stop), (u.setLatch_keeps b .stop).timer.trans timer⟩)
    (fun u b ⟨core, timer⟩ => ?_) (fun u b c ⟨core, timer⟩ other => ?_) (List.nodup_finRange 8) ⟨.rfl, rfl⟩
    (s.approachOf q)
  · rw [if_pos (List.mem_finRange _)] at each
    have passage := congrArg Prod.snd each
    simp only [State.stopView, State.stopWrites, if_true, hq, Option.map_some] at passage
    exact passage
  · simp only [State.stopView, State.stopWrites]
    rw [State.setLatch_signal, if_pos rfl, State.setLatch_stop_passage, core.grantedOn, timer]
    split
    · rfl
    · split <;> rfl
  · simp only [State.stopView]
    rw [State.setLatch_signal, if_neg other, State.setLatch_stop_passage]
    split
    · rename_i own
      rw [if_neg]
      rintro ⟨-, at_p⟩
      obtain ⟨r, hr, -, approach⟩ := State.grantedOn_some at_p
      obtain ⟨x, hx, same⟩ := core.passage_some hr
      rw [hq] at hx
      cases hx
      rw [core.approachOf same, ← own] at approach
      exact other approach
    · rfl

end

end Sys2Proof.Machine

namespace Sys2Proof.Machine

section
variable {s t u : State} {p : Slot} {q : Passage} {prior : PriorMode} {causes : HaltCauses}

/-- HALT has joined the set of every live passage, and the latches still stand (R125, steps 1 and 2). -/
def State.haltJoined (s : State) (prior : PriorMode) (causes : HaltCauses) : State :=
  (s.setControl { s.control with mode := .halted, prior := prior, causes := causes }).modLiveDeadlines fun d =>
    d.joinHalt s.timer.floor

theorem State.halt_eq : s.halt prior causes = (s.haltJoined prior causes).stopLatches := rfl

theorem State.haltJoined_sameCore : SameCore s (s.haltJoined prior causes) :=
  (s.setControl_sameCore _).trans (State.modLiveDeadlines_sameCore _ _)

theorem State.haltJoined_signal (a : ApproachId) : (s.haltJoined prior causes).signal a = s.signal a :=
  State.signal_congr (by simp [State.haltJoined]) a

theorem State.haltJoined_passage (hq : s.passage p = some q) : (s.haltJoined prior causes).passage p =
    some (if q.live then { q with deadline := q.deadline.joinHalt s.timer.floor } else q) := by
  rw [State.haltJoined, State.passage_modLiveDeadlines]
  exact congrArg (Option.map _) hq

theorem State.heldExternally_iff (hq : s.passage p = some q) :
    s.HeldExternally q ↔ s.GrantedAt p (s.approachOf q) ∧ (s.signal (s.approachOf q)).stopped = true := by
  rw [State.HeldExternally, SignalRec.stopped_iff]
  refine and_congr_left fun _ => ⟨fun granted => ⟨q, hq, granted, rfl⟩, fun ⟨r, hr, granted, _⟩ => ?_⟩
  rw [hq] at hr
  cases hr
  exact granted

/-- The deadline record that a halt leaves (R91, R92, R125): HALT joins, and where the halt ends the external stop of the
passage's approach EXT_STOP leaves. -/
theorem State.halt_passage (hq : s.passage p = some q) (live : q.live = true) : (s.halt prior causes).passage p =
    some { q with
      deadline :=
        if (s.signal (s.approachOf q)).stopped = true ∧ s.grantedOn (s.approachOf q) = some p then
          { q.deadline.joinHalt s.timer.floor with extStop := false }
        else q.deadline.joinHalt s.timer.floor } := by
  have joined := State.haltJoined_passage (prior := prior) (causes := causes) hq
  rw [if_pos live] at joined
  have approach : (s.haltJoined prior causes).approachOf { q with deadline := q.deadline.joinHalt s.timer.floor } =
      s.approachOf q := State.approachOf_congr State.haltJoined_sameCore.working rfl
  have after := State.stopLatches_passage joined
  rw [approach, State.haltJoined_signal, State.haltJoined_sameCore.grantedOn,
    Deadline.leaveExtStop_of_halted _ (d := q.deadline.joinHalt s.timer.floor) rfl] at after
  rw [State.halt_eq, after]
  split <;> rfl

theorem State.halt_passage_queued (hq : s.passage p = some q) (queued : q.live = false) :
    (s.halt prior causes).passage p = some q := by
  have joined := State.haltJoined_passage (prior := prior) (causes := causes) hq
  rw [queued, if_neg Bool.false_ne_true] at joined
  rw [State.halt_eq, State.stopLatches_passage joined, if_neg]
  rintro ⟨-, at_p⟩
  obtain ⟨r, hr, granted, -⟩ := State.grantedOn_some at_p
  rw [joined] at hr
  cases hr
  rw [Passage.live_eq_false_iff, granted] at queued
  cases queued

/-- A halt leaves what R125 says. -/
theorem State.halt_halted (s : State) (prior : PriorMode) (causes : HaltCauses) :
    Halted s (s.halt prior causes) s.control prior causes := by
  obtain ⟨⟨-, -, cells⟩, -, core, marks, -⟩ := s.halt_settles prior causes
  refine ⟨s.halt_control prior causes, fun a => ?_, marks, cells, core.arrivals, core.queues,
    fun p => core.passage_none, fun p q hq => ?_⟩
  · rw [State.halt_eq, State.stopLatches_signal, State.haltJoined_signal]
  · cases live : q.live with
    | false => exact ⟨q.deadline, State.halt_passage_queued hq live, fun _ => rfl, nofun⟩
    | true =>
      obtain ⟨halt, idle, runs⟩ := q.deadline.joinHalt_haltJoined s.timer.floor
      have after := State.halt_passage (prior := prior) (causes := causes) hq live
      have held := State.heldExternally_iff hq
      split at after
      case isTrue frees =>
        obtain ⟨stopped, granted⟩ := frees
        refine ⟨_, after, nofun, fun _ => ⟨⟨halt, idle, runs⟩, fun free => ?_, fun _ _ => rfl⟩⟩
        exact absurd (held.2 ⟨State.grantedOn_some granted, stopped⟩) free
      case isFalse keeps =>
        refine ⟨_, after, nofun, fun _ => ⟨⟨halt, idle, runs⟩, fun _ => rfl, fun external single => ?_⟩⟩
        obtain ⟨granted, stopped⟩ := held.1 external
        exact absurd ⟨stopped, single.grantedOn granted⟩ keeps

theorem KeepsBook.halted {control : Control} (k : KeepsBook t u) (h : Halted s t control prior causes) :
    Halted s u control prior causes := by
  obtain ⟨keeps, book, marks, signals⟩ := k
  rw [Halted, keeps.control, marks, book]
  simp only [State.signal, State.passage, signals, book]
  exact h

end

end Sys2Proof.Machine

namespace Sys2Proof.Machine

/-! ### Postings under a change of the line -/

/-- A change of the LIU that leaves alone what a posting reads of it, and may come before or after what it writes. -/
structure SparesSending (f : Liu → Liu) : Prop where
  shifter : ∀ l, (f l).shifter = l.shifter
  staged : ∀ l, (f l).staged = l.staged
  fill : ∀ l x, f { l with shifter := x, attempt := none } = { f l with shifter := x, attempt := none }
  stage : ∀ l x, f { l with staged := x } = { f l with staged := x }

/-- The LIU is changed. -/
def State.onLiu (s : State) (f : Liu → Liu) : State := s.setLiu (f s.liu)

section
variable {f : Liu → Liu} (h : SparesSending f) (s : State) (k : MasterSlot) (n : Notice)
include h

theorem State.shifterSlot_onLiu : (s.onLiu f).shifterSlot = s.shifterSlot := by
  rw [State.shifterSlot, State.shifterSlot, ← h.shifter s.liu]
  rfl

theorem State.selected_onLiu : (s.onLiu f).selected = s.selected := by
  have same := s.shifterSlot_onLiu h
  rw [State.selected, State.selected]
  simp only [same]
  rfl

theorem State.select_onLiu : (s.onLiu f).select = s.select.onLiu f := by
  have shifter : (s.onLiu f).liu.shifter = s.liu.shifter := h.shifter s.liu
  have staged : (s.onLiu f).liu.staged = s.liu.staged := h.staged s.liu
  unfold State.select
  rw [s.selected_onLiu h, shifter, staged]
  split
  · rename_i frame _ _
    have filled := h.fill s.liu (some frame)
    simp only [State.onLiu, State.setLiu, filled]
  · rename_i frame _ _ _
    have filled := h.stage s.liu (some frame)
    simp only [State.onLiu, State.setLiu, filled]
  · rfl

theorem State.promote_onLiu : (s.onLiu f).promote = s.promote.onLiu f := by
  have shifter : (s.onLiu f).liu.shifter = s.liu.shifter := h.shifter s.liu
  have staged : (s.onLiu f).liu.staged = s.liu.staged := h.staged s.liu
  unfold State.promote
  rw [shifter, staged]
  split
  · rename_i frame _ _
    have moved := (h.fill { s.liu with staged := none } (some frame)).trans
      (congrArg (fun l : Liu => { l with shifter := some frame, attempt := none }) (h.stage s.liu none))
    dsimp only at moved
    simp only [State.onLiu, State.setLiu, moved]
  · rfl

theorem State.refill_onLiu : (s.onLiu f).refill = s.refill.onLiu f := by
  simp only [State.refill, State.promote_onLiu h, State.select_onLiu h]

theorem State.markLate_onLiu : (s.onLiu f).markLate k = (s.markLate k).onLiu f := by
  unfold State.markLate
  rw [s.shifterSlot_onLiu h]
  split <;> rfl

theorem State.unstage_onLiu : (s.onLiu f).unstage k = (s.unstage k).onLiu f := by
  have staged : (s.onLiu f).liu.staged = s.liu.staged := h.staged s.liu
  unfold State.unstage
  rw [s.shifterSlot_onLiu h, staged]
  split
  · exact congrArg s.setLiu (h.stage s.liu none).symm
  · rfl

theorem State.kept_onLiu : (s.onLiu f).kept k = s.kept k := by
  rw [State.kept, State.kept, s.shifterSlot_onLiu h]
  rfl

theorem State.enqueue_onLiu : (s.onLiu f).enqueue k n = (s.enqueue k n).onLiu f := by
  have same : ∀ (u : State) fifo, (u.onLiu f).setFifo k fifo = (u.setFifo k fifo).onLiu f := fun _ _ => rfl
  cases used : s.map.enrolment[k].inUse with
  | false => rw [State.enqueue_of_unused used, State.enqueue_of_unused (s := s.onLiu f) used]
  | true =>
    by_cases room : s.notices.fifos[k].queue.length < Config.fifoDepth
    · rw [State.enqueue_of_room used room, State.enqueue_of_room (s := s.onLiu f) used room, same,
        State.refill_onLiu h]
      rfl
    · cases option : s.map.enrolment[k].option with
      | keepOldest =>
        rw [State.enqueue_of_keepOldest used room option,
          State.enqueue_of_keepOldest (s := s.onLiu f) used room option, State.markLate_onLiu h, same]
        rfl
      | keepNewest =>
        rw [State.enqueue_of_keepNewest used room option,
          State.enqueue_of_keepNewest (s := s.onLiu f) used room option, State.markLate_onLiu h, same,
          State.unstage_onLiu h, State.refill_onLiu h, State.kept_onLiu h]

theorem State.enqueueAll_onLiu (l : List (MasterSlot × Notice)) :
    l.foldl (fun u x => u.enqueue x.1 x.2) (s.onLiu f) = (l.foldl (fun u x => u.enqueue x.1 x.2) s).onLiu f := by
  induction l generalizing s with
  | nil => rfl
  | cons x rest ih => rw [List.foldl_cons, List.foldl_cons, State.enqueue_onLiu h, ih]

end

section
variable {s t : State} {f : Liu → Liu} {l : List (MasterSlot × Notice)}

/-- What is posted behind a change of the line is posted as if the line had not changed. -/
theorem Posted.posts_onLiu (h : Posted (s.onLiu f) t l) (spares : SparesSending f)
    (attempt : ∀ l, (f l).attempt = l.attempt) : Posts s t l := by
  obtain ⟨liu, notices, -⟩ := h
  rw [State.enqueueAll_onLiu spares] at liu notices
  exact ⟨⟨notices, by rw [liu]; exact spares.shifter _, by rw [liu]; exact spares.staged _⟩,
    by rw [liu]; exact attempt _⟩

/-- The part's own frame is let go of. -/
def Liu.unsend (l : Liu) : Liu := { l with attempt := none }

theorem Liu.unsend_spares : SparesSending Liu.unsend := ⟨fun _ => rfl, fun _ => rfl, fun _ _ => rfl, fun _ _ => rfl⟩

/-- A posting begins no attempt. -/
theorem Posted.attempt_none (h : Posted s t l) (none : s.liu.attempt = none) : t.liu.attempt = .none := by
  have same : s.onLiu Liu.unsend = s := by
    rw [State.onLiu, Liu.unsend, ← none]
    rfl
  obtain ⟨liu, -, -⟩ := h
  rw [← same, State.enqueueAll_onLiu Liu.unsend_spares] at liu
  rw [liu]
  rfl

/-- What is posted before the part's own frame is let go of is posted as if after (R139, R140). -/
theorem Posted.posts_unsend {u : State} (h : Posted s t l) (notices : SameNotices t u) (attempt : u.liu.attempt = none) :
    Posts (s.onLiu Liu.unsend) u l := by
  obtain ⟨liu, fifos, -⟩ := h
  obtain ⟨notices, shifter, staged⟩ := notices
  rw [Posts, State.enqueueAll_onLiu Liu.unsend_spares]
  exact ⟨⟨notices.trans fifos, shifter.trans (by rw [liu]; rfl), staged.trans (by rw [liu]; rfl)⟩, attempt⟩

end

end Sys2Proof.Machine

namespace Sys2Proof.Machine

/-! ### Halt causes (R124) -/

/-- A halt cause has joined, the set it makes being `causes` (R116, R124, R125). -/
structure CauseJoins (s t : State) (causes : HaltCauses) : Prop where
  outer : KeepsOuter s t
  scanner : t.scanner = s.scanner
  closed : s.control.mode = .unmapped ∨ s.control.mode = .service → t = s
  halts : ∀ prior : PriorMode, prior ≠ .unmapped → s.control.mode = prior.toMode → Halted s t s.control prior causes
  halted : s.control.mode = .halted → t.control = { s.control with causes := causes } ∧ SameBook s t
  posted : Posted s t
    (if s.control.mode.operating = true ∧ ¬ (s.control.mode = .halted ∧ causes = s.control.causes) then
      toAll (modeNotice s t) else [])

/-- Halt causes have left, the set without them being `causes` (R117, R124). -/
structure CauseLeaves (s t : State) (causes : HaltCauses) : Prop where
  outer : KeepsOuter s t
  scanner : t.scanner = s.scanner
  book : SameBook s t
  control : t.control = if s.control.mode = .halted then { s.control with causes := causes } else s.control
  posted : Posted s t
    (if s.control.mode = .halted ∧ causes ≠ s.control.causes then toAll (modeNotice s t) else [])

section
variable {s : State}

/-- A MODE notice told of the state that a step has come to names the state that the notice leaves (R117). -/
theorem Posted.tellMode {t : State} {l : List (MasterSlot × Notice)} (h : Posted s t l) (floor : t.timer = s.timer) :
    Posted s t.postMode (l ++ toAll (modeNotice s t.postMode)) := by
  obtain ⟨keeps, book, -⟩ := t.postMode_keepsBook
  exact h.trans (State.postMode_posted (congrArg Timer.floor floor) keeps.control (congrArg Book.pool book))

theorem PriorMode.toMode_injective {x y : PriorMode} (h : x.toMode = y.toMode) : x = y := by
  cases x <;> cases y <;> cases h <;> rfl

theorem PriorMode.toMode_open {x : PriorMode} (h : x ≠ .unmapped) :
    x.toMode.operating = true ∧ x.toMode ≠ .halted ∧ x.toMode ≠ .unmapped ∧ x.toMode ≠ .service := by
  cases x with
  | unmapped => exact absurd rfl h
  | settling | running | draining => exact ⟨rfl, nofun, nofun, nofun⟩

/-- A junction in SETTLING, RUNNING or DRAINING halts with its MODE notice (R124). -/
theorem State.halt_joins {prior : PriorMode} {causes : HaltCauses} (known : prior ≠ .unmapped)
    (mode : s.control.mode = prior.toMode) : CauseJoins s (s.halt prior causes).postMode causes := by
  have halted := (State.postMode_keepsBook _).halted (s.halt_halted prior causes)
  have outer := s.halt_keepsOuter prior causes
  obtain ⟨tx, scanner, -⟩ := s.halt_keepsCells prior causes
  have posted := tx.posted.tellMode outer.timer
  have told := (s.halt prior causes).postMode_keepsBook.1
  obtain ⟨operating, other, mapped, closed⟩ := PriorMode.toMode_open known
  rw [← mode] at operating other mapped closed
  refine ⟨outer.trans told.weaken, told.scanner.trans scanner, fun either => ?_,
    fun x _ own => PriorMode.toMode_injective (mode.symm.trans own) ▸ halted, fun h => absurd h other, ?_⟩
  · rcases either with h | h
    · exact absurd h mapped
    · exact absurd h closed
  · rw [if_pos ⟨operating, fun ⟨h, _⟩ => other h⟩]
    exact posted

theorem State.notHalting {prior : PriorMode} (known : prior ≠ .unmapped) (own : s.control.mode = prior.toMode) :
    s.control.mode ≠ .halted ∧ s.control.mode ≠ .unmapped ∧ s.control.mode ≠ .service := by
  rw [own]
  exact (PriorMode.toMode_open known).2

/-- The modes that a cause does not halt, and those that it does (R124). -/
theorem Mode.halting_cases (m : Mode) : ((m = .unmapped ∨ m = .service) ∨ m = .halted) ∨
    ∃ prior : PriorMode, prior ≠ .unmapped ∧ m = prior.toMode := by
  cases m with
  | unmapped => exact .inl (.inl (.inl rfl))
  | service => exact .inl (.inl (.inr rfl))
  | halted => exact .inl (.inr rfl)
  | settling => exact .inr ⟨.settling, nofun, rfl⟩
  | running => exact .inr ⟨.running, nofun, rfl⟩
  | draining => exact .inr ⟨.draining, nofun, rfl⟩

theorem State.not_prior (quiet : (s.control.mode = .unmapped ∨ s.control.mode = .service) ∨ s.control.mode = .halted) :
    s.control.mode ≠ .settling ∧ s.control.mode ≠ .running ∧ s.control.mode ≠ .draining := by
  rcases quiet with (mode | mode) | mode <;> rw [mode] <;> exact ⟨nofun, nofun, nofun⟩

/-- A cause joins a closed junction's set not at all (R116). -/
theorem State.closed_joins {causes : HaltCauses} (closed : s.control.mode = .unmapped ∨ s.control.mode = .service) :
    CauseJoins s s causes := by
  have apart : s.control.mode.operating = false ∧ s.control.mode ≠ .halted := by
    rcases closed with h | h <;> rw [h] <;> exact ⟨rfl, nofun⟩
  obtain ⟨operating, other⟩ := apart
  refine ⟨.rfl, rfl, fun _ => rfl, fun x known own => ?_, fun h => absurd h other, ?_⟩
  · obtain ⟨-, mapped, open'⟩ := State.notHalting known own
    rcases closed with h | h
    · exact absurd h mapped
    · exact absurd h open'
  · rw [operating, if_neg fun ⟨h, _⟩ => Bool.false_ne_true h]
    exact .rfl

/-- A cause that joins in HALTED is added to the set, with a MODE notice if it was not there (R124; log entry 29). -/
theorem State.halted_joins {causes : HaltCauses} (mode : s.control.mode = .halted) : CauseJoins s
    (if causes = s.control.causes then s else (s.setControl { s.control with causes := causes }).postMode) causes := by
  have operating : s.control.mode.operating = true := by rw [mode]; rfl
  have closed : s.control.mode = .unmapped ∨ s.control.mode = .service → s = s := fun _ => rfl
  have other : ∀ prior : PriorMode, prior ≠ .unmapped → s.control.mode ≠ prior.toMode := fun prior known own =>
    (State.notHalting known own).1 mode
  split
  case isTrue same =>
    refine ⟨.rfl, rfl, fun _ => rfl, fun x known own => absurd own (other x known), fun _ => ⟨?_, rfl, rfl, rfl⟩, ?_⟩
    · rw [same]
    · rw [if_neg fun ⟨_, new⟩ => new ⟨mode, same⟩]
      exact .rfl
  case isFalse new =>
    obtain ⟨told, book, marks, signals⟩ := (s.setControl { s.control with causes := causes }).postMode_keepsBook
    refine ⟨(s.setControl_keepsOuter _).trans told.weaken, told.scanner, fun h => ?_,
      fun x known own => absurd own (other x known), fun _ => ⟨told.control, book, marks, signals⟩, ?_⟩
    · rw [mode] at h
      rcases h with h | h <;> cases h
    · rw [if_pos ⟨operating, fun ⟨_, same⟩ => new same⟩]
      exact (s.setControl_keepsCells _).1.posted.tellMode rfl

/-- What a cause that joins does, mode by mode (R116, R124). -/
theorem State.joinCause_joins (s : State) (add : HaltCauses → HaltCauses) :
    CauseJoins s (s.joinCause add) (add s.control.causes) := by
  unfold State.joinCause
  dsimp only
  split
  case h_1 mode => exact State.halt_joins nofun mode
  case h_2 mode => exact State.halt_joins nofun mode
  case h_3 mode => exact State.halt_joins nofun mode
  case h_4 mode => exact State.halted_joins mode
  case h_5 mode => exact State.closed_joins (.inl mode)
  case h_6 mode => exact State.closed_joins (.inr mode)

/-- What causes that leave do (R117, R124). -/
theorem State.leaveCause_leaves (s : State) (remove : HaltCauses → HaltCauses) :
    CauseLeaves s (s.leaveCause remove) (remove s.control.causes) := by
  unfold State.leaveCause
  dsimp only
  have condition : (decide (s.control.mode = .halted) && decide (remove s.control.causes ≠ s.control.causes)) = true ↔
      s.control.mode = .halted ∧ remove s.control.causes ≠ s.control.causes := by simp
  split
  case isTrue leaves =>
    have leaves := condition.1 leaves
    obtain ⟨told, book, marks, signals⟩ :=
      (s.setControl { s.control with causes := remove s.control.causes }).postMode_keepsBook
    refine ⟨(s.setControl_keepsOuter _).trans told.weaken, told.scanner, ⟨book, marks, signals⟩, ?_, ?_⟩
    · rw [told.control, if_pos leaves.1]
      rfl
    · rw [if_pos leaves]
      exact (s.setControl_keepsCells _).1.posted.tellMode rfl
  case isFalse stays =>
    have stays := mt condition.2 stays
    refine ⟨.rfl, rfl, ⟨rfl, rfl, rfl⟩, ?_, ?_⟩
    · split
      · rename_i mode
        rw [Decidable.byContradiction fun new => stays ⟨mode, new⟩]
      · rfl
    · rw [if_neg stays]
      exact .rfl

end

end Sys2Proof.Machine

namespace Sys2Proof.Machine

/-! ### Halt pulses and the stuck line (R139 to R141) -/

section
variable {s t : State} {c : HaltCauses}

theorem KeepsOuter.tail (h : KeepsOuter s t) : t.liu.tail = s.liu.tail := congrArg (fun o => OuterLiu.tail o.liu) h.1
theorem KeepsOuter.pulse (h : KeepsOuter s t) : t.liu.pulse = s.liu.pulse := congrArg (fun o => OuterLiu.pulse o.liu) h.1

/-! #### Which causes are new in the set, and which leave it -/

theorem HaltCauses.haltPulse_joins : { c with haltPulse := true } = c ↔ c.haltPulse = true := by
  cases c; simp [eq_comm]

theorem HaltCauses.estop_joins : { c with estop := true } = c ↔ c.estop = true := by
  cases c; simp [eq_comm]

theorem HaltCauses.lineStuck_joins : { c with lineStuck := true } = c ↔ c.lineStuck = true := by
  cases c; simp [eq_comm]

theorem HaltCauses.signalFault_joins : { c with signalFault := true } = c ↔ c.signalFault = true := by
  cases c; simp [eq_comm]

theorem HaltCauses.haltPulse_leaves : { c with haltPulse := false } ≠ c ↔ c.haltPulse = true := by
  cases c; simp [eq_comm]

theorem HaltCauses.estop_leaves : { c with estop := false } ≠ c ↔ c.estop = true := by
  cases c; simp [eq_comm]

theorem HaltCauses.signalFault_leaves : { c with signalFault := false } ≠ c ↔ c.signalFault = true := by
  cases c; simp [eq_comm]

theorem HaltCauses.lineCauses_leave :
    { c with lineStuck := false, haltPulse := false } ≠ c ↔ c.lineStuck = true ∨ c.haltPulse = true := by
  obtain ⟨haltPulse, -, lineStuck, -⟩ := c
  cases haltPulse <;> cases lineStuck <;> simp

/-- A joining cause is told of unless it was in the set of a HALTED junction (R117; log entry 29). -/
theorem CauseJoins.told {causes : HaltCauses} {present : Prop} [Decidable present] (h : CauseJoins s t causes)
    (iff : causes = s.control.causes ↔ present) : Posted s t
      (if s.control.mode.operating = true ∧ ¬ (s.control.mode = .halted ∧ present) then toAll (modeNotice s t)
        else []) :=
  h.posted.of_eq (if_congr (and_congr_right fun _ => not_congr (and_congr_right fun _ => iff)) (.refl _) (.refl _))

/-- A leaving cause is told of if it was in the set of a HALTED junction (R117). -/
theorem CauseLeaves.told {causes : HaltCauses} {present : Prop} [Decidable present] (h : CauseLeaves s t causes)
    (iff : causes ≠ s.control.causes ↔ present) :
    Posted s t (if s.control.mode = .halted ∧ present then toAll (modeNotice s t) else []) :=
  h.posted.of_eq (if_congr (and_congr_right fun _ => iff) (.refl _) (.refl _))

/-! #### The line -/

/-- A pulse of 24 bit times ends what other nodes send, and the tail (R139). -/
def Liu.pulsed (l : Liu) : Liu := { l.abort with line := .haltPulse, attempt := l.attempt }

theorem Liu.pulsed_spares : SparesSending Liu.pulsed := ⟨fun _ => rfl, fun _ => rfl, fun _ _ => rfl, fun _ _ => rfl⟩

/-- The line is in another state, with this in the error record (R139, R141, R142). -/
def Liu.turned (line : LineState) (error : ErrorRecord) (l : Liu) : Liu := { l with line := line, error := error }

theorem Liu.turned_spares (line : LineState) (error : ErrorRecord) : SparesSending (Liu.turned line error) :=
  ⟨fun _ => rfl, fun _ => rfl, fun _ _ => rfl, fun _ _ => rfl⟩

/-- The state in which HALT_PULSE joins (R139). -/
def State.pulsed (s : State) : State := (s.onLiu Liu.unsend).onLiu Liu.pulsed

/-- The line is idle again (R139, R141). -/
def State.lineFreed (s : State) : State := s.onLiu (Liu.turned .idle s.liu.error)

/-- The line is stuck, and recorded so (R141, R142). -/
def State.lineStuck (s : State) : State := s.onLiu (Liu.turned .stuck
  { kind := .stuck, stamp := s.timer.floor, overrun := decide (s.liu.error.kind ≠ .none) })

section
variable (running : s.power.phase = .running)
include running

theorem exec_haltPulseStart (line : s.liu.line = .idle ∨ s.liu.line = .busy) :
    exec .haltPulseStart s = .next (s.pulsed.joinCause fun c => { c with haltPulse := true }) := by
  rw [exec, execHaltPulseStart, whenRunning_running running, if_pos line]
  rfl

theorem exec_haltPulseEnd (line : s.liu.line = .haltPulse) (released : s.liu.pulse = none) :
    exec .haltPulseEnd s = .next (s.lineFreed.leaveCause fun c => { c with haltPulse := false }) := by
  rw [exec, execHaltPulseEnd, whenRunning_running running, if_pos ⟨line, released⟩]
  rfl

theorem exec_haltPulseRelease :
    exec .haltPulseRelease s = .next { s with liu := { s.liu with pulse := none } } := by
  rw [exec, execHaltPulseRelease, whenRunning_running running]
  rfl

theorem exec_lineStuck (line : s.liu.line = .haltPulse) :
    exec .lineStuck s = .next (s.lineStuck.joinCause fun c => { c with lineStuck := true }) := by
  rw [exec, execLineStuck, whenRunning_running running, if_pos line]
  rfl

theorem exec_lineStuckRecovery (line : s.liu.line = .stuck) (released : s.liu.pulse = none) :
    exec .lineStuckRecovery s =
      .next (s.lineFreed.leaveCause fun c => { c with lineStuck := false, haltPulse := false }) := by
  rw [exec, execLineStuckRecovery, whenRunning_running running, if_pos ⟨line, released⟩]
  rfl

end

theorem State.posts_lineFreed {l : List (MasterSlot × Notice)} (h : Posted s.lineFreed t l) : Posts s t l :=
  h.posts_onLiu (Liu.turned_spares _ _) fun _ => rfl

end

/-- Settles O37: the pulse is a change of the line and a cause that joins, its end a cause that leaves. -/
theorem haltPulse : Obligations.HaltPulse := by
  intro s running
  refine ⟨fun line => ?_, fun line released => ?_, exec_haltPulseRelease running⟩
  · have joins := s.pulsed.joinCause_joins fun c => { c with haltPulse := true }
    have posted := joins.told HaltCauses.haltPulse_joins
    refine ⟨_, exec_haltPulseStart running line, ?_⟩
    generalize s.pulsed.joinCause _ = t at *
    obtain ⟨outer, scanner, closed, halts, halted, -⟩ := joins
    refine ⟨outer.line.1, posted.attempt_none rfl, outer.line.2, fun tail sent => ?_, outer.error, outer.map, outer.timer,
      scanner, outer.decoder, fun mode => ?_, halts .settling nofun, halts .running nofun, halts .draining nofun, halted,
      posted.posts_onLiu Liu.pulsed_spares fun _ => rfl⟩
    · obtain ⟨-, -, rfl⟩ := Option.map_eq_some_iff.1 (outer.tail.symm.trans sent)
      rfl
    · rw [closed mode]
      exact ⟨rfl, ⟨rfl, rfl, rfl⟩, rfl, rfl, rfl⟩
  · have leaves := s.lineFreed.leaveCause_leaves fun c => { c with haltPulse := false }
    have posts := State.posts_lineFreed (leaves.told HaltCauses.haltPulse_leaves)
    refine ⟨_, exec_haltPulseEnd running line released, ?_⟩
    obtain ⟨outer, scanner, book, control, -⟩ := leaves
    exact ⟨outer.line.1, book, control, posts, outer.map, outer.timer, scanner, outer.error⟩

/-- Settles O38: the stuck line is a record and a cause that joins, its recovery two causes that leave together. -/
theorem stuckLine : Obligations.StuckLine := by
  intro s running
  refine ⟨fun line => ?_, fun line released => ?_⟩
  · have joins := s.lineStuck.joinCause_joins fun c => { c with lineStuck := true }
    have posted := joins.told HaltCauses.lineStuck_joins
    refine ⟨_, exec_lineStuck running line, ?_⟩
    generalize s.lineStuck.joinCause _ = t at *
    obtain ⟨outer, scanner, closed, halts, halted, -⟩ := joins
    refine ⟨outer.line.1, outer.error, outer.map, outer.timer, scanner, outer.decoder, fun mode => ?_,
      halts .settling nofun, halts .running nofun, halts .draining nofun, halted,
      posted.posts_onLiu (Liu.turned_spares _ _) fun _ => rfl⟩
    rw [closed mode]
    exact ⟨rfl, ⟨rfl, rfl, rfl⟩, rfl, rfl, rfl⟩
  · have leaves := s.lineFreed.leaveCause_leaves fun c => { c with lineStuck := false, haltPulse := false }
    have posts := State.posts_lineFreed (leaves.told HaltCauses.lineCauses_leave)
    refine ⟨_, exec_lineStuckRecovery running line released, ?_⟩
    obtain ⟨outer, scanner, book, control, -⟩ := leaves
    exact ⟨outer.line.1, book, control, posts, outer.map, outer.timer, scanner, outer.error⟩

end Sys2Proof.Machine

namespace Sys2Proof.Machine

/-! ### The emergency input (R113, R114) -/

section
variable {s t : State}

theorem State.settleEmergency_sameTx (b : Bool) : SameTx s (s.settleEmergency b) := (s.setControl_keepsCells _).1

theorem exec_emergencyAsserted (running : s.power.phase = .running) (due : s.control.emergency.due = true)
    (raw : s.control.emergency.rawAsserted = true) :
    exec .emergencyAsserted s = .next (s.settleEmergency true).emergencyStop := by
  rw [exec, execEmergencyAsserted, whenRunning_running running, if_pos ⟨due, raw⟩]

theorem exec_emergencyClear (running : s.power.phase = .running) (due : s.control.emergency.due = true)
    (raw : s.control.emergency.rawAsserted = false) : exec .emergencyClear s =
      .next ((s.settleEmergency false).leaveCause fun c => { c with estop := false }) := by
  rw [exec, execEmergencyClear, whenRunning_running running, if_pos ⟨due, by rw [raw]; rfl⟩]

theorem exec_emergency_quiet (running : s.power.phase = .running) (quiet : s.control.emergency.due = false) :
    exec .emergencyAsserted s = .next s ∧ exec .emergencyClear s = .next s := by
  have not_due : ∀ p : Prop, ¬ (s.control.emergency.due = true ∧ p) := fun p ⟨due, _⟩ =>
    Bool.false_ne_true (quiet.symm.trans due)
  refine ⟨?_, ?_⟩
  · rw [exec, execEmergencyAsserted, whenRunning_running running, if_neg (not_due _)]
  · rw [exec, execEmergencyClear, whenRunning_running running, if_neg (not_due _)]

/-- A halt by ESTOP sends a halt pulse (R113, R140). -/
theorem State.emergencyStop_halts {prior : PriorMode} (known : prior ≠ .unmapped) (mode : s.control.mode = prior.toMode) :
    s.emergencyStop = (s.joinCause fun c => { c with estop := true }).sendHaltPulse := by
  unfold State.emergencyStop
  rw [mode]
  cases prior with
  | unmapped => exact absurd rfl known
  | settling | running | draining => rfl

/-- No halt pulse is sent where ESTOP does not halt (R113). -/
theorem State.emergencyStop_quiet
    (mode : (s.control.mode = .unmapped ∨ s.control.mode = .service) ∨ s.control.mode = .halted) :
    s.emergencyStop = s.joinCause fun c => { c with estop := true } := by
  unfold State.emergencyStop
  rcases mode with (mode | mode) | mode <;> rw [mode]

end

/-- Settles O46: by mode, ESTOP joins nothing, a set, or a halt with its pulse; and it leaves as any cause does. -/
theorem emergencyInput : Obligations.EmergencyInput := by
  intro s running
  refine ⟨fun due raw => ?_, fun due raw => ?_, exec_emergency_quiet running⟩
  · have joins := (s.settleEmergency true).joinCause_joins fun c => { c with estop := true }
    have posted := joins.told HaltCauses.estop_joins
    have posted := (State.settleEmergency_sameTx true).andPosted posted
    rw [exec_emergencyAsserted running due raw]
    rcases Mode.halting_cases s.control.mode with quiet | ⟨prior, known, mode⟩
    · rw [State.emergencyStop_quiet (s := s.settleEmergency true) quiet]
      generalize (s.settleEmergency true).joinCause _ = t at *
      obtain ⟨outer, scanner, closed, -, halted, -⟩ := joins
      obtain ⟨settling, run, draining⟩ := State.not_prior quiet
      refine ⟨t, rfl, outer.map, outer.timer, scanner, outer.decoder, outer.error, outer.line.1, closed, fun mode => ?_,
        fun mode => absurd mode settling, fun mode => absurd mode run, fun mode => absurd mode draining, fun mode => ?_⟩
      · obtain ⟨control, book⟩ := halted mode
        have iff : s.control.mode.operating = true ∧ ¬ (s.control.mode = .halted ∧ s.control.causes.estop = true) ↔
            ¬ s.control.causes.estop = true := by simp [mode, Mode.operating]
        exact ⟨control, book, outer.pulse,
          (posted.of_eq ((if_congr iff rfl rfl).trans (ite_not ..))).posts_of_same⟩
      · rcases mode with mode | mode | mode
        · exact absurd mode settling
        · exact absurd mode run
        · exact absurd mode draining
    · rw [State.emergencyStop_halts (s := s.settleEmergency true) known mode]
      generalize (s.settleEmergency true).joinCause _ = j at *
      obtain ⟨outer, scanner, -, halts, -, -⟩ := joins
      obtain ⟨other, unmapped, service⟩ := State.notHalting known mode
      have operating : s.control.mode.operating = true := mode ▸ (PriorMode.toMode_open known).1
      refine ⟨_, rfl, outer.map, outer.timer, scanner, outer.decoder, outer.error, outer.line.1, fun closed => ?_,
        fun halted => absurd halted other, halts .settling nofun, halts .running nofun, halts .draining nofun,
        fun _ => ⟨rfl, rfl, fun tail sent => ?_, ?_⟩⟩
      · rcases closed with h | h
        · exact absurd h unmapped
        · exact absurd h service
      · obtain ⟨-, -, rfl⟩ := Option.map_eq_some_iff.1 sent
        rfl
      · exact (posted.of_eq (if_pos ⟨operating, fun ⟨h, _⟩ => other h⟩)).posts_unsend ⟨rfl, rfl, rfl⟩ rfl
  · have leaves := (s.settleEmergency false).leaveCause_leaves fun c => { c with estop := false }
    have posted := (State.settleEmergency_sameTx false).andPosted (leaves.told HaltCauses.estop_leaves)
    refine ⟨_, exec_emergencyClear running due raw, ?_⟩
    generalize (s.settleEmergency false).leaveCause _ = t at *
    obtain ⟨outer, scanner, book, control, -⟩ := leaves
    refine ⟨book, outer.map, outer.timer, scanner, outer.decoder, outer.error, outer.line.1, posted.posts_of_same,
      control.trans ?_⟩
    by_cases mode : s.control.mode = .halted
    · rw [if_pos mode]
      exact if_pos mode
    · rw [if_neg mode]
      exact if_neg mode

end Sys2Proof.Machine

namespace Sys2Proof.Machine

/-! ### Readback changes (R108 to R110) -/

section
variable {s t u : State} {a : ApproachId} {p : Slot} {q : Passage} {causes : HaltCauses}

/-- The outer part, the sensors, the cell records and the blind-route marks are as before. -/
structure SparesRecordsAndMarks (s t : State) : Prop where
  outer : KeepsOuter s t
  scanner : t.scanner = s.scanner
  marks : t.marks = s.marks
  cells : t.book.cells = s.book.cells

theorem SparesRecordsAndMarks.after_setSignal {r : SignalRec} (h : SparesRecordsAndMarks (s.setSignal a r) t) :
    SparesRecordsAndMarks s t := ⟨h.outer, h.scanner, h.marks, h.cells⟩

theorem CauseJoins.spares (h : CauseJoins s t causes) : SparesRecordsAndMarks s t := by
  rcases Mode.halting_cases s.control.mode with (closed | halted) | ⟨prior, known, mode⟩
  · rw [h.closed closed]
    exact ⟨.rfl, rfl, rfl, rfl⟩
  · obtain ⟨-, book, marks, -⟩ := h.halted halted
    exact ⟨h.outer, h.scanner, marks, congrArg Book.cells book⟩
  · obtain ⟨-, -, marks, cells, -⟩ := h.halts prior known mode
    exact ⟨h.outer, h.scanner, marks, cells⟩

theorem CauseLeaves.spares (h : CauseLeaves s t causes) : SparesRecordsAndMarks s t :=
  ⟨h.outer, h.scanner, h.book.2.1, congrArg Book.cells h.book.1⟩

/-! #### A change of one approach's GRANTED passage -/

theorem State.modGranted_pool (s : State) (a : ApproachId) (f : Deadline → Deadline) :
    ∃ pool, s.modGranted a f = { s with book := { s.book with pool := pool } } := by
  unfold State.modGranted
  split <;> exact ⟨_, rfl⟩

theorem State.modGranted_passage (s : State) (a : ApproachId) (f : Deadline → Deadline) (p : Slot) :
    (s.modGranted a f).passage p = if s.grantedOn a = some p then
      (s.passage p).map fun q => { q with deadline := f q.deadline } else s.passage p := by
  unfold State.modGranted
  cases found : s.grantedOn a with
  | none => simp
  | some x =>
    dsimp only
    rw [State.passage_modDeadline]
    by_cases e : x = p
    · subst e
      simp
    · simp [e]

/-! #### The judgement by latch and level -/

/-- The record of an approach whose filtered readback takes the level of the completing sample (R108). -/
def SignalRec.settled (r : SignalRec) : SignalRec := { r with filtered := r.raw, count := 0, due := false }

theorem exec_readbackChange (running : s.power.phase = .running) (due : (s.signal a).due = true) :
    exec (.readbackChange a) s = .next (s.judgeReadback a) := by
  rw [exec, execReadbackChange, whenRunning_running running, if_pos due]

theorem exec_readbackChange_quiet (running : s.power.phase = .running) (quiet : (s.signal a).due = false) :
    exec (.readbackChange a) s = .next s := by
  rw [exec, execReadbackChange, whenRunning_running running, if_neg (by rw [quiet]; exact Bool.false_ne_true)]

/-- Under GO the approach is externally stopped, or no longer, and so is its GRANTED passage (R109). -/
def State.extStopped (s : State) (a : ApproachId) (stopped : Bool) : State :=
  (s.setSignal a { (s.signal a).settled with extStop := stopped }).modGranted a fun d =>
    if stopped then d.joinExtStop s.timer.floor else d.leaveExtStop s.timer.floor

/-- The approach is at fault, or no longer (R110). -/
def State.faulted (s : State) (a : ApproachId) (fault : Bool) : State :=
  s.setSignal a { (s.signal a).settled with fault := fault }

theorem State.judgeReadback_go (latch : (s.signal a).latch = .go) :
    s.judgeReadback a = s.extStopped a (decide ((s.signal a).raw = .low)) := by
  unfold State.judgeReadback
  dsimp only
  rw [latch]
  cases raw : (s.signal a).raw with
  | low => rw [State.extStopped, SignalRec.settled, raw]; simp [latch]
  | high => rw [State.extStopped, SignalRec.settled, raw]; simp [latch]

theorem State.judgeReadback_fault (latch : (s.signal a).latch = .stop) (raw : (s.signal a).raw = .high) :
    s.judgeReadback a = (s.faulted a true).joinCause fun c => { c with signalFault := true } := by
  rw [State.faulted, SignalRec.settled]
  unfold State.judgeReadback
  dsimp only
  rw [latch, raw]

theorem State.judgeReadback_clear (latch : (s.signal a).latch = .stop) (raw : (s.signal a).raw = .low) :
    s.judgeReadback a = if (s.faulted a false).anyFault then s.faulted a false
      else (s.faulted a false).leaveCause fun c => { c with signalFault := false } := by
  rw [State.faulted, SignalRec.settled]
  unfold State.judgeReadback
  dsimp only
  rw [latch, raw]

theorem State.setSignal_spares (s : State) (a : ApproachId) (r : SignalRec) :
    SparesRecordsAndMarks s (s.setSignal a r) := ⟨⟨rfl, id⟩, rfl, rfl, rfl⟩

theorem State.extStopped_spares (s : State) (a : ApproachId) (stopped : Bool) :
    SparesRecordsAndMarks s (s.extStopped a stopped) := by
  obtain ⟨pool, eq⟩ := (s.setSignal a { (s.signal a).settled with extStop := stopped }).modGranted_pool a fun d =>
    if stopped then d.joinExtStop s.timer.floor else d.leaveExtStop s.timer.floor
  rw [State.extStopped, eq]
  exact ⟨⟨rfl, id⟩, rfl, rfl, rfl⟩

theorem State.judgeReadback_spares (s : State) (a : ApproachId) : SparesRecordsAndMarks s (s.judgeReadback a) := by
  cases latch : (s.signal a).latch with
  | go => rw [State.judgeReadback_go latch]; exact s.extStopped_spares a _
  | stop =>
    cases raw : (s.signal a).raw with
    | high => rw [State.judgeReadback_fault latch raw]; exact (State.joinCause_joins _ _).spares.after_setSignal
    | low =>
      rw [State.judgeReadback_clear latch raw]
      split
      · exact s.setSignal_spares a _
      · exact (State.leaveCause_leaves _ _).spares.after_setSignal

/-- An external stop begins or ends in the record of its approach and in the set of its GRANTED passage (R109). -/
theorem State.extStopped_does (s : State) (a : ApproachId) (stopped : Bool) :
    SameTx s (s.extStopped a stopped) ∧ (s.extStopped a stopped).control = s.control ∧
      (s.extStopped a stopped).signal a = { (s.signal a).settled with extStop := stopped } ∧
      ∀ b, b ≠ a → (s.extStopped a stopped).signal b = s.signal b := by
  obtain ⟨pool, eq⟩ := (s.setSignal a { (s.signal a).settled with extStop := stopped }).modGranted_pool a fun d =>
    if stopped then d.joinExtStop s.timer.floor else d.leaveExtStop s.timer.floor
  have signal := fun b => State.signal_setSignal s a b { (s.signal a).settled with extStop := stopped }
  rw [State.extStopped, eq]
  exact ⟨⟨rfl, rfl, rfl⟩, rfl, (signal a).trans (if_pos rfl), fun b other => (signal b).trans (if_neg (Ne.symm other))⟩

theorem State.extStopped_passage (s : State) (a : ApproachId) (stopped : Bool) (p : Slot) :
    (s.extStopped a stopped).passage p = if s.grantedOn a = some p then
      (s.passage p).map fun q => { q with
        deadline := if stopped then q.deadline.joinExtStop s.timer.floor else q.deadline.leaveExtStop s.timer.floor }
    else s.passage p := by
  rw [State.extStopped, State.modGranted_passage, (s.setSignal_sameCore a _).grantedOn]
  rfl

theorem State.faulted_signal (s : State) (a b : ApproachId) (fault : Bool) : (s.faulted a fault).signal b =
    if a = b then { (s.signal a).settled with fault := fault } else s.signal b := State.signal_setSignal ..

theorem State.faulted_sameTx (s : State) (a : ApproachId) (fault : Bool) : SameTx s (s.faulted a fault) := ⟨rfl, rfl, rfl⟩

/-- With the fault of one approach gone, one of the others is what leaves the junction at fault (R110). -/
theorem State.faulted_anyFault (s : State) (a : ApproachId) :
    (s.faulted a false).anyFault = true ↔ ∃ b, b ≠ a ∧ (s.signal b).fault = true := by
  rw [State.anyFault_iff]
  refine exists_congr fun b => ?_
  rw [State.faulted_signal]
  split
  · rename_i own
    exact ⟨fun h => absurd h Bool.false_ne_true, fun ⟨other, _⟩ => absurd own.symm other⟩
  · rename_i other
    exact ⟨fun h => ⟨Ne.symm other, h⟩, fun ⟨_, h⟩ => h⟩

end

/-- Settles O45: under GO the change is an external stop or its end, under STOP a fault that joins or one that clears. -/
theorem readbackIsJudged : Obligations.ReadbackIsJudged := by
  intro a s running
  refine ⟨exec_readbackChange_quiet running, fun due => ⟨_, exec_readbackChange running due, ?_⟩⟩
  obtain ⟨outer, scanner, marks, cells⟩ := s.judgeReadback_spares a
  have core := s.judgeReadback_sameCore a
  refine ⟨outer.power, outer.map, outer.timer, scanner, outer.decoder, marks, cells, core.arrivals, core.queues,
    outer.error, outer.line.1, fun go => ?_, fun stop high => ?_, fun stop low => ?_⟩
  · rw [State.judgeReadback_go go]
    obtain ⟨tx, control, own, others⟩ := s.extStopped_does a (decide ((s.signal a).raw = .low))
    have passage := s.extStopped_passage a (decide ((s.signal a).raw = .low))
    refine ⟨tx.posted.posts_of_same, control, own, others, fun x not => ?_, fun single p q granted hq => ?_⟩
    · rw [passage, if_neg fun found => not (State.grantedOn_some found)]
    · rw [passage, if_pos (single.grantedOn granted), hq]
      exact ⟨fun low => by simp [low], fun high => by simp [high]⟩
  · rw [State.judgeReadback_fault stop high]
    have joins := (s.faulted a true).joinCause_joins fun c => { c with signalFault := true }
    have posted := joins.told HaltCauses.signalFault_joins
    generalize (s.faulted a true).joinCause _ = t at *
    obtain ⟨-, -, closed, halts, halted, -⟩ := joins
    have at_a : (s.faulted a true).signal a = { (s.signal a).settled with fault := true } :=
      (s.faulted_signal a a true).trans (if_pos rfl)
    refine ⟨?_, fun mode => ?_, halts .settling nofun, halts .running nofun, halts .draining nofun, fun mode => ?_,
      fun mode => ?_, ((s.faulted_sameTx a true).andPosted posted).posts_of_same⟩
    · rcases Mode.halting_cases s.control.mode with (mode | mode) | ⟨prior, known, mode⟩
      · rw [closed mode]
        exact at_a
      · obtain ⟨-, -, -, signals⟩ := halted mode
        exact (State.signal_congr signals a).trans at_a
      · obtain ⟨-, signal, -⟩ := halts prior known mode
        rw [signal, at_a]
        exact SignalRec.latched_of_latch stop
    · rw [closed mode]
      exact ⟨rfl, rfl⟩
    · obtain ⟨control, book, -⟩ := halted mode
      exact ⟨control, book⟩
    · rcases mode with mode | mode | mode
      · rw [closed (.inl mode)]
        rfl
      · rw [closed (.inr mode)]
        rfl
      · obtain ⟨-, -, -, signals⟩ := halted mode
        exact signals
  · rw [State.judgeReadback_clear stop low]
    have signal := fun b => s.faulted_signal a b false
    have tx := s.faulted_sameTx a false
    split
    case isTrue any =>
      refine ⟨(signal a).trans (if_pos rfl), rfl, fun b other => (signal b).trans (if_neg (Ne.symm other)),
        fun _ => ⟨rfl, tx.posted.posts_of_same⟩, fun clean _ => ?_⟩
      obtain ⟨b, other, fault⟩ := s.faulted_anyFault a |>.1 any
      exact absurd ((clean b other).symm.trans fault) Bool.false_ne_true
    case isFalse none =>
      have leaves := (s.faulted a false).leaveCause_leaves fun c => { c with signalFault := false }
      have posted := tx.andPosted (leaves.told HaltCauses.signalFault_leaves)
      generalize (s.faulted a false).leaveCause _ = t at *
      obtain ⟨-, -, ⟨book, -, signals⟩, control, -⟩ := leaves
      have same := State.signal_congr signals
      refine ⟨(same a).trans ((signal a).trans (if_pos rfl)), book,
        fun b other => (same b).trans ((signal b).trans (if_neg (Ne.symm other))), fun stays => ?_, fun _ halted => ?_⟩
      · have mode := stays.resolve_left fun fault => none ((s.faulted_anyFault a).2 fault)
        exact ⟨control.trans (if_neg mode), (posted.of_eq (if_neg fun ⟨h, _⟩ => mode h)).posts_of_same⟩
      · exact ⟨control.trans (if_pos halted),
          (posted.of_eq (if_congr (and_iff_right halted) rfl rfl)).posts_of_same⟩

end Sys2Proof.Machine

namespace Sys2Proof.Machine

/-! ### Ticks and DWELL expiries (R78, R89) -/

section
variable {s : State} {p : Slot} {q : Passage}

theorem State.dwellExpiry_keeps (s : State) (p : Slot) : Keeps s (s.dwellExpiry p) := by
  unfold State.dwellExpiry
  split
  · exact .rfl
  · dsimp only
    split
    · exact (s.setPassage_keeps p _).trans (State.postOwnerAndSafety_keepsBook _ _ _ _).1
    · exact .rfl

theorem State.expiry_keeps (s : State) (p : Slot) (kind : ArmedKind) (o : Outcome) :
    Keeps s (if s.expiryDue p kind then s.afterEvent (s.remove p o) true else s) := by
  split
  · exact s.afterRemoval_keeps p o
  · exact .rfl

theorem State.expire_keeps (s : State) (p : Slot) : Keeps s (s.expire p) :=
  ((s.expiry_keeps p .arrival .lapsed).trans (State.dwellExpiry_keeps _ p)).trans
    (State.expiry_keeps _ p .blindClear .cleared)

/-- With no deadline reached an expiry changes nothing (R87). -/
theorem State.expire_of_not_due
    (h : ∀ q r, s.passage p = some q → q.deadline.run = some r → r.clock ≠ .armed s.timer.floor) : s.expire p = s := by
  have arrival : s.arrivalExpiry p = s := if_neg (by rw [State.not_expiryDue h]; exact Bool.false_ne_true)
  have blind : s.blindClearExpiry p = s := if_neg (by rw [State.not_expiryDue h]; exact Bool.false_ne_true)
  rw [State.expire, arrival, State.dwellExpiry_of_not_due h, blind]

theorem exec_tick (running : s.power.phase = .running) :
    exec .tick s = .next ((List.finRange 24).foldl State.expire s).increment := by
  rw [exec, execTick, whenRunning_running running]

/-! #### A DWELL expiry -/

theorem Overdue.raised_eq (level : Overdue) : level.raised = if level = .normal then .overdue else .stalled := by
  cases level <;> rfl

/-- The first expiry arms the same window again, the second leaves no deadline (R85, R89). -/
theorem Deadline.afterDwell_eq {d : Deadline} {r : Running} (run : d.run = some r) (kind : r.kind = .dwell)
    (halt : d.halt = false) (extStop : d.extStop = false) (level : Overdue) (now : Time) :
    d.afterDwell level now =
      { run := if level = .normal then some { r with clock := .armed (now + r.window) } else none
        halt := false, extStop := false } := by
  cases level <;> simp [Deadline.afterDwell, Deadline.arm, run, kind, halt, extStop]

/-- The notice of a DWELL expiry, which never carries WAS_OVERDUE (R89, R159). -/
theorem State.note_dwellExpiry (s : State) (level : Overdue) (p : Slot) (q : Passage) :
    s.note level.body (some (p, q)) =
      { body := if level = .normal then .overdue else .stalled, passage := some (p, q.carrier), stamp := s.timer.floor
        clamped := q.clamped, wasOverdue := false } := by
  cases level <;> rfl

/-- The owner and the safety master are told once each of a DWELL expiry (R89, R159). -/
theorem State.postOwnerAndSafety_posted (s : State) (body : NoticeBody) (p : Slot) (q : Passage) :
    Posted s (s.postOwnerAndSafety body p q) (((List.finRange 6).filter fun k =>
      decide (k = q.master) || decide (s.safetySlot = some k)).map fun k => (k, s.note body (some (p, q)))) := by
  have receivers : ((List.finRange 6).filter fun k => decide (k = q.master) || decide (s.safetySlot = some k)) =
      (List.finRange 6).filter fun k => decide (k = q.master) || decide (some k = s.safetySlot) := by
    simp only [eq_comm]
  rw [receivers]
  exact s.postTo_posted _ _

theorem exec_dwellExpiry_due {r : Running} (running : s.power.phase = .running) (hq : s.passage p = some q)
    (run : q.deadline.run = some r) (kind : r.kind = .dwell) (due : r.clock = .armed s.timer.floor) :
    exec (.dwellExpiry p) s = .next ((s.setPassage p (some (q.afterDwell s.timer.floor))).postOwnerAndSafety
      q.overdue.body p (q.afterDwell s.timer.floor)) := by
  rw [exec_dwellExpiry running, State.dwellExpiry, hq]
  dsimp only
  rw [if_pos (Deadline.dueAs_iff.2 ⟨r, run, kind, due⟩)]

end

/-- Settles O48: expiries still due are work on the book and the notices, and the increment writes the timer alone. -/
theorem tickAdvancesFloorTime : Obligations.TickAdvancesFloorTime := by
  intro s running
  refine ⟨⟨_, exec_tick running, ?_⟩, fun notDue => ?_⟩
  · have keeps := keeps_foldl State.expire_keeps (List.finRange 24) s
    generalize (List.finRange 24).foldl State.expire s = u at *
    refine ⟨?_, keeps.control, keeps.map, keeps.scanner, keeps.decoder, keeps.weaken.error⟩
    rw [State.increment, keeps.timer, keeps.map]
  · rw [exec_tick running, List.foldl_fixed' fun p => State.expire_of_not_due (notDue p)]
    rfl

/-- Settles O50: a DWELL expiry writes one passage record and tells its receivers. -/
theorem dwellExpiry : Obligations.DwellExpiry := by
  intro p q r s running hq run kind due halt extStop notStalled
  refine ⟨_, exec_dwellExpiry_due running hq run kind due, ?_⟩
  have tx : SameTx s (s.setPassage p (some (q.afterDwell s.timer.floor))) := ⟨rfl, rfl, rfl⟩
  have posted := tx.andPosted (State.postOwnerAndSafety_posted _ q.overdue.body p (q.afterDwell s.timer.floor))
  rw [State.note_dwellExpiry] at posted
  obtain ⟨keeps, book, marks, signals⟩ :=
    (s.setPassage p (some (q.afterDwell s.timer.floor))).postOwnerAndSafety_keepsBook q.overdue.body p
      (q.afterDwell s.timer.floor)
  have passage := State.passage_congr (congrArg Book.pool book)
  refine ⟨((s.setPassage_keeps p _).trans keeps).sameOutside, ?_, fun x other => ?_, (congrArg Book.cells book).trans rfl,
    (congrArg Book.arrivals book).trans rfl, (congrArg Book.queues book).trans rfl, marks, signals,
    posted.posts_of_same⟩
  · rw [passage, State.passage_setPassage, if_pos rfl, Passage.afterDwell, Overdue.raised_eq,
      Deadline.afterDwell_eq run kind halt extStop]
  · rw [passage, State.passage_setPassage, if_neg (Ne.symm other)]

end Sys2Proof.Machine

namespace Sys2Proof.Machine

/-! ### Steps -/

/-- Settles O1: a waiting command is executed on the rest of the queue, and a cycle of the crystal advances counters by
the phase of reset. -/
theorem stepRunsFrontCommand : Obligations.StepRunsFrontCommand := by
  refine ⟨fun s c rest waiting => ?_, fun s none => ?_⟩
  · rw [step, waiting]
  · have cycle : step s = .next s.crystalCycle := by rw [step, none]
    rw [cycle, State.crystalCycle]
    refine ⟨fun phase => ?_, fun phase => ?_, fun phase => ⟨s.scanner.cycle, ?_, fun within => ?_, fun ended more => ?_,
      fun ended last => ?_⟩⟩
    · rw [phase]
    · rw [phase]
      rfl
    · rw [phase]
      rfl
    · exact if_pos within
    · exact (if_neg (Nat.not_lt.2 ended)).trans (if_pos more)
    · exact (if_neg (Nat.not_lt.2 ended)).trans (if_neg (Nat.not_lt.2 last))

end Sys2Proof.Machine

namespace Sys2Proof.Machine

/-! ### The records that queries report, and the bytes of the verdict tails (R145, R147, R148, R153, R154) -/

/-! #### The records -/

section
variable {s : State} {hd : FrameHead} {b : Byte} {p : Slot} {q : Passage} {c : CellId}

theorem exec_queryPassage : exec (.queryPassage hd b) s =
    onFrame (.queryPassage hd b) s fun u => (u, u.passageVerdict b) := rfl

theorem exec_queryCell : exec (.queryCell hd b) s =
    onFrame (.queryCell hd b) s fun u => (u, u.cellVerdict b) := rfl

theorem State.passageVerdict_unknown (unknown : 23 < b.toNat ∨ ∃ p : Slot, b.toNat = p.val ∧ s.passage p = none) :
    s.passageVerdict b = .unknownPassage := by
  have none : (slotOf b).bind s.passage = none := by
    rcases unknown with high | ⟨p, same, free⟩
    · rw [slotOf, indexOf_eq_none high]
      rfl
    · rw [slotOf, indexOf_val same]
      exact free
  rw [State.passageVerdict, none]

theorem State.passageVerdict_known (same : b.toNat = p.val) (hq : s.passage p = some q) :
    s.passageVerdict b = .done (q.report s.timer.floor) := by
  have found : (slotOf b).bind s.passage = some q := by
    rw [slotOf, indexOf_val same]
    exact hq
  rw [State.passageVerdict, found]

theorem State.cellVerdict_unknown (high : 31 < b.toNat) : s.cellVerdict b = .badValue 1 none := by
  rw [State.cellVerdict, cellOf, indexOf_eq_none high]
  rfl

theorem State.cellVerdict_known (same : b.toNat = c.val) : s.cellVerdict b =
    .done (.cell (s.cell c).holder (s.cell c).reservation s.map.working.cells[c].inUse (s.cell c).lock
      (s.cell c).intruded (s.cell c).occupancy (s.cell c).stamp) := by
  rw [State.cellVerdict, cellOf_val same]
  rfl

/-- The frozen bit is clear in kind NONE (R154). -/
theorem Deadline.frozenBit_eq (d : Deadline) : d.frozenBit = (decide (d.run ≠ none) && (d.halt || d.extStop)) := by
  rw [Deadline.frozenBit, Bool.and_comm]
  cases d.run <;> rfl

/-- Kind and remainder of a deadline that runs, and of one that does not (R80, R147). -/
theorem Deadline.reported (d : Deadline) (now : Time) :
    (d.run = none → d.kind = .none ∧ d.remainder now = 0) ∧
      ∀ r, d.run = some r →
        (r.kind = .arrival → d.kind = .arrival) ∧ (r.kind = .dwell → d.kind = .dwell) ∧
        (r.kind = .blindClear → d.kind = .blindClear) ∧ (∀ x, r.clock = .armed x → d.remainder now = x - now) ∧
        ∀ x, r.clock = .frozen x → d.remainder now = x := by
  refine ⟨fun idle => ?_, fun r run => ?_⟩
  · rw [Deadline.kind, Deadline.remainder, idle]
    exact ⟨rfl, rfl⟩
  · rw [Deadline.kind, Deadline.remainder, run]
    dsimp only
    refine ⟨fun kind => ?_, fun kind => ?_, fun kind => ?_, fun x clock => ?_, fun x clock => ?_⟩
    · rw [kind]
    · rw [kind]
    · rw [kind]
    · rw [clock]
    · rw [clock]

/-! #### The bytes -/

/-- The verdict byte holds the number of data bytes in its top three bits and the code below (R145). -/
theorem Verdict.bytes_eq {v : Verdict} {code : Nat} {data : List Byte} (hd : v.data = data) (hc : v.code.toNat = code) :
    v.bytes = BitVec.ofNat 8 (32 * data.length + code) :: data := by
  have low := v.code.isLt
  have byte : BitVec.ofNat 3 data.length ++ v.code = BitVec.ofNat 8 (32 * data.length + code) := by
    apply BitVec.eq_of_toNat_eq
    rw [BitVec.toNat_append, BitVec.toNat_ofNat, BitVec.toNat_ofNat, ← Nat.shiftLeft_add_eq_or_of_lt low,
      Nat.shiftLeft_eq, hc]
    omega
  rw [Verdict.bytes, hd, byte]

/-- The four cause bits in one byte (R157). -/
theorem causesByte_eq (c : HaltCauses) : (0 : BitVec 4) ++ c.code =
    (0 : BitVec 4) ++ BitVec.ofBool c.signalFault ++ BitVec.ofBool c.lineStuck ++ BitVec.ofBool c.estop ++
      BitVec.ofBool c.haltPulse := by
  rw [HaltCauses.code]
  generalize BitVec.ofBool c.signalFault = w
  generalize BitVec.ofBool c.lineStuck = x
  generalize BitVec.ofBool c.estop = y
  generalize BitVec.ofBool c.haltPulse = z
  revert w x y z
  decide

theorem Mode.byte_of_mem : ∀ x ∈ [(Mode.unmapped, (0 : Byte)), (.service, 1), (.settling, 2), (.running, 3),
    (.draining, 4), (.halted, 5)], x.1.byte = x.2 := by decide

theorem MapReason.code_of_mem : ∀ x ∈ [(MapReason.cellCount, (0 : Byte)), (.approachUnused, 1), (.cellUnused, 2),
    (.cellRepeated, 3), (.noRoute, 4), (.safetyCount, 5), (.nodeReserved, 6), (.nodeOwn, 7), (.nodeDuplicate, 8)],
    x.1.code = x.2 := by decide

theorem PassageState.code_of_mem : ∀ x ∈ [(PassageState.queued, (0 : BitVec 2)), (.granted, 1), (.entered, 2)],
    x.1.code = x.2 := by decide

theorem Overdue.code_of_mem : ∀ x ∈ [(Overdue.normal, (0 : BitVec 2)), (.overdue, 1), (.stalled, 2)],
    x.1.code = x.2 := by decide

theorem DeadlineKind.code_of_mem : ∀ x ∈ [(DeadlineKind.none, (0 : BitVec 2)), (.arrival, 1), (.dwell, 2),
    (.blindClear, 3)], x.1.code = x.2 := by decide

theorem Occupancy.code_of_mem : ∀ x ∈ [(Occupancy.free, (0 : BitVec 2)), (.occupied, 1), (.blind, 2)],
    x.1.code = x.2 := by decide

theorem SensorMode.code_of_mem : ∀ x ∈ [(SensorMode.active, (0 : Byte)), (.standby, 1)], x.1.code = x.2 := by decide

theorem Lock.code_of_mem : ∀ x ∈ [(Lock.none, (0 : BitVec 2)), (.pending, 1), (.locked, 2)], x.1.code = x.2 := by decide

end

open Verdict (bytes_eq) in
/-- Settles O20: a query reads one record and answers it, and every tail is its verdict's code and data laid out. -/
theorem queriesReportRecords : Obligations.QueriesReportRecords := by
  refine ⟨fun hd b s => ⟨fun taken => ⟨fun unknown => ?_, fun p q same hq => ?_⟩, fun taken => ⟨fun high => ?_,
    fun c same => ?_⟩⟩, ?_⟩
  · exact taken.answers exec_queryPassage fun f => congrArg (Prod.mk _)
      (State.passageVerdict_unknown (s := s.readFrame f) unknown)
  · obtain ⟨t, done, answers, rest⟩ := taken.answers (v := .done (q.report s.timer.floor)) exec_queryPassage fun f =>
      congrArg (Prod.mk _) (State.passageVerdict_known (s := s.readFrame f) same hq)
    rw [Passage.report, Deadline.frozenBit_eq] at answers
    exact ⟨t, _, _, done, rest, answers, q.deadline.reported s.timer.floor⟩
  · exact taken.answers exec_queryCell fun f => congrArg (Prod.mk _)
      (State.cellVerdict_unknown (s := s.readFrame f) high)
  · obtain ⟨t, done, answers, rest⟩ := taken.answers (v := s.cellVerdict b) exec_queryCell fun f => rfl
    rw [State.cellVerdict_known same] at answers
    exact ⟨t, done, rest, answers⟩
  · intro byte word orNone tail done
    have number : ∀ n, numberByte n = orNone n := fun n => by cases n <;> rfl
    have slot : ∀ p, slotByte p = orNone (p.map Fin.val) := fun p => by cases p <;> rfl
    have cell : ∀ c, cellByte c = orNone (c.map Fin.val) := fun c => by cases c <;> rfl
    refine ⟨⟨bytes_eq rfl rfl, bytes_eq rfl rfl, bytes_eq rfl rfl, bytes_eq rfl rfl, bytes_eq rfl rfl, bytes_eq rfl rfl,
        bytes_eq rfl rfl, bytes_eq rfl rfl⟩,
      fun p n m x flag c => ⟨bytes_eq rfl rfl, bytes_eq rfl rfl, bytes_eq ?_ rfl, bytes_eq rfl rfl, bytes_eq rfl rfl,
        bytes_eq rfl rfl, bytes_eq rfl rfl, bytes_eq rfl rfl⟩,
      fun tag crc => bytes_eq rfl rfl, fun causes => bytes_eq ?_ rfl, fun x mem n => ?_,
      fun x mem item sub => bytes_eq ?_ rfl,
      fun state mem => ⟨fun p n => ?_, fun level hl kind hk carrier remainder frozen clamped position first =>
        bytes_eq ?_ rfl⟩,
      fun occupancy mem => ⟨fun mode hm => bytes_eq ?_ rfl, fun lock hl holder reservation inUse intruded stamp =>
        bytes_eq ?_ rfl⟩⟩
    · rw [← cell]
      rfl
    · rw [← causesByte_eq]
      rfl
    · rw [← Mode.byte_of_mem x mem]
      exact ⟨bytes_eq rfl rfl, bytes_eq rfl rfl, bytes_eq rfl rfl⟩
    · rw [← number, ← number, ← MapReason.code_of_mem x mem]
      rfl
    · rw [← PassageState.code_of_mem state mem]
      exact ⟨bytes_eq rfl rfl, bytes_eq rfl rfl, bytes_eq rfl rfl⟩
    · rw [← number, ← PassageState.code_of_mem state mem, ← Overdue.code_of_mem level hl,
        ← DeadlineKind.code_of_mem kind hk]
      rfl
    · rw [← SensorMode.code_of_mem mode hm, ← Occupancy.code_of_mem occupancy mem]
      rfl
    · rw [← slot, ← slot, ← Lock.code_of_mem lock hl, ← Occupancy.code_of_mem occupancy mem]
      rfl

end Sys2Proof.Machine

namespace Sys2Proof.Machine

/-! ### Settling (R102, R121) -/

section
variable {s : State} {n : Nat}

theorem exec_settleCountRise (running : s.power.phase = .running) (due : s.control.risesDue = n + 1) :
    exec .settleCountRise s =
      .next (s.setControl { s.control with risesDue := n }).riseSettleCount := by
  have positive : 0 < s.control.risesDue := by omega
  rw [exec, execSettleCountRise, whenRunning_running running, if_pos positive, due, Nat.add_sub_cancel]

theorem exec_settleCountRise_quiet (running : s.power.phase = .running) (quiet : s.control.risesDue = 0) :
    exec .settleCountRise s = .next s := by
  rw [exec, execSettleCountRise, whenRunning_running running, if_neg (by omega)]

theorem State.riseSettleCount_elsewhere (mode : s.control.mode ≠ .settling) : s.riseSettleCount = s := if_neg mode

theorem State.riseSettleCount_below (mode : s.control.mode = .settling)
    (below : s.control.settleCount + 1 < 2 * s.map.working.options.depth) :
    s.riseSettleCount = s.setControl { s.control with settleCount := s.control.settleCount + 1 } :=
  (if_pos mode).trans (if_neg (Nat.not_le.2 below))

/-- The state in RUNNING that the completing rise leaves, with `n` rises still due, before its notice and its pass. -/
def State.settledWith (s : State) (n : Nat) : State :=
  s.setControl { s.control with mode := .running, risesDue := n, settleCount := s.control.settleCount + 1 }

/-- The completing rise is the change of mode, then the MODE notice, then one pass (R40, R117, R121). -/
theorem State.riseSettleCount_completes (mode : s.control.mode = .settling)
    (reached : 2 * s.map.working.options.depth ≤ s.control.settleCount + 1) :
    (s.setControl { s.control with risesDue := n }).riseSettleCount = (s.settledWith n).postMode.grantPass none :=
  (if_pos mode).trans (if_pos reached)

end

/-- Settles O47: outside SETTLING and below the limit a rise writes the Mode Controller alone; at the limit the MODE
notice names the mode just entered, and the pass comes last. -/
theorem settlingCompletes : Obligations.SettlingCompletes := by
  intro n s running
  refine ⟨exec_settleCountRise_quiet running, fun due => ?_⟩
  rw [exec_settleCountRise running due]
  refine ⟨fun mode => congrArg _ (State.riseSettleCount_elsewhere mode),
    fun mode below => congrArg _ (State.riseSettleCount_below mode below), fun mode reached => ?_⟩
  obtain ⟨keeps, same⟩ := (s.settledWith n).postMode_keepsBook
  have sent : SameTx s (s.settledWith n) := ⟨rfl, rfl, rfl⟩
  have notice := State.postMode_posted (s := s.settledWith n) (w := s) rfl keeps.control (congrArg Book.pool same.1)
  have pass := (s.settledWith n).postMode.grantPass_keeps none
  have all := keeps.trans pass
  obtain ⟨power, map, timer, scanner, -, rest⟩ := keeps.sameOutside
  exact ⟨(s.settledWith n).postMode, _, congrArg Host.Outcome.next (State.riseSettleCount_completes mode reached), rfl,
    same, keeps.control, ⟨power, map, timer, scanner, rfl, rest⟩, keeps.sameLine,
    (sent.andPosted notice).posts_of_same, pass.control, all.map, all.timer, all.scanner, all.decoder, all.weaken.error⟩

end Sys2Proof.Machine

namespace Sys2Proof.Machine

/-! ### SCAN (R96, R97, R102, R108, R112) -/

section
variable {s : State} {levels : BitVec 32} {lines : BitVec 8} {emergency : Bool}

theorem exec_scan (running : s.power.phase = .running) :
    exec (.scan levels lines emergency) s = .next (s.scan levels lines emergency) := by
  rw [exec, execScan, whenRunning_running running]

theorem State.scan_cell (c : CellId) : (s.scan levels lines emergency).cell c = (s.scannedCell levels c).2 := by
  simp [State.scan, State.cell]

theorem State.scan_sensor (c : CellId) : (s.scan levels lines emergency).sensor c = (s.scannedCell levels c).1 := by
  simp [State.scan, State.sensor]

theorem State.scan_signal (a : ApproachId) : (s.scan levels lines emergency).signal a =
    (s.signal a).sampled s.depth (levelOf (lines.getLsbD a.val)) := by
  simp [State.scan, State.signal]

/-- A scan writes no record of a passage and neither list (R96). -/
theorem State.scan_book : (s.scan levels lines emergency).book.pool = s.book.pool ∧
    (s.scan levels lines emergency).book.arrivals = s.book.arrivals ∧
    (s.scan levels lines emergency).book.queues = s.book.queues := by
  rw [State.scan]
  exact ⟨rfl, rfl, rfl⟩

/-- A scan writes nothing beside the book, the Scanner, the approach records and the Mode Controller (R96). -/
theorem State.scan_outside : (s.scan levels lines emergency).map = s.map ∧
    (s.scan levels lines emergency).timer = s.timer ∧ (s.scan levels lines emergency).liu = s.liu ∧
    (s.scan levels lines emergency).decoder = s.decoder ∧ (s.scan levels lines emergency).notices = s.notices ∧
    (s.scan levels lines emergency).marks = s.marks ∧ (s.scan levels lines emergency).power = s.power := by
  rw [State.scan]
  exact ⟨rfl, rfl, rfl, rfl, rfl, rfl, rfl⟩

theorem State.scan_risesDue : (s.scan levels lines emergency).control.risesDue =
    s.control.risesDue + if s.control.mode = .settling then 1 else 0 :=
  (apply_ite (s.control.risesDue + ·) _ 1 0).symm

theorem State.samples_iff {c : CellId} : s.samples c = true ↔ s.control.mode.operating = true ∧
    s.map.working.cells[c].inUse = true ∧ (s.sensor c).mode = .active := by
  simp [State.samples, State.cellInUse, and_assoc]

theorem State.scannedCell_unsampled {c : CellId} (skipped : ¬ s.samples c = true) :
    s.scannedCell levels c = (s.sensor c, s.cell c) := if_neg skipped

theorem State.scannedCell_sampled {c : CellId} (sampled : s.samples c = true) : s.scannedCell levels c =
    filterCell s.map.working.options.depth s.timer.floor (sampleOf (levels.getLsbD c.val)) (s.sensor c) (s.cell c) :=
  if_pos sampled

theorem sampleOf_occupancy (high : Bool) : (sampleOf high).occupancy = if high then .free else .occupied := by
  cases high <;> rfl

end

/-! #### The filters, case by case -/

section
variable {depth : Nat} {now : Time} {sample : RawSample} {n : SensorRec} {r : CellRec}

theorem filterCell_agreeing (same : sample.occupancy = r.occupancy) :
    filterCell depth now sample n r = ({ n with raw := sample, count := 0 }, r) := if_pos same

theorem filterCell_counting (differs : sample.occupancy ≠ r.occupancy) (few : n.count + 1 < depth) :
    filterCell depth now sample n r = ({ n with raw := sample, count := n.count + 1 }, r) :=
  (if_neg differs).trans (if_pos few)

theorem filterCell_believed (differs : sample.occupancy ≠ r.occupancy) (enough : depth ≤ n.count + 1) :
    filterCell depth now sample n r =
      ({ n with raw := sample, count := 0 }, { r with occupancy := sample.occupancy, stamp := now }) :=
  (if_neg differs).trans (if_neg (Nat.not_lt.2 enough))

theorem SignalRec.sampled_cases (r : SignalRec) (depth : Nat) (level : Level) :
    (level = r.filtered → r.sampled depth level = { r with raw := level, count := 0, due := false }) ∧
      (level ≠ r.filtered → r.count + 1 < depth →
        r.sampled depth level = { r with raw := level, count := r.count + 1, due := false }) ∧
      (level ≠ r.filtered → depth ≤ r.count + 1 → r.sampled depth level = { r with raw := level, due := true }) :=
  ⟨fun same => if_pos same, fun differs few => (if_neg differs).trans (if_pos few),
    fun differs enough => (if_neg differs).trans (if_neg (Nat.not_lt.2 enough))⟩

theorem EmergencyRec.sampled_cases (e : EmergencyRec) (depth : Nat) (asserted : Bool) :
    (asserted = e.asserted → e.sampled depth asserted = { e with rawAsserted := asserted, count := 0, due := false }) ∧
      (asserted ≠ e.asserted → e.count + 1 < depth →
        e.sampled depth asserted = { e with rawAsserted := asserted, count := e.count + 1, due := false }) ∧
      (asserted ≠ e.asserted → depth ≤ e.count + 1 →
        e.sampled depth asserted = { e with rawAsserted := asserted, due := true }) :=
  ⟨fun same => if_pos same, fun differs few => (if_neg differs).trans (if_pos few),
    fun differs enough => (if_neg differs).trans (if_neg (Nat.not_lt.2 enough))⟩

end

/-- Settles O40: a cell is left alone or goes through its filter (R96), and the filters of the lines and of the emergency
input have the same three cases in every mode. -/
theorem scanFiltersInputs : Obligations.ScanFiltersInputs := by
  intro levels lines emergency s running
  obtain ⟨pool, arrivals, queues⟩ := s.scan_book
  obtain ⟨map, timer, liu, decoder, notices, marks, power⟩ := s.scan_outside
  refine ⟨s.scan levels lines emergency, exec_scan running, fun c => ?_, pool, arrivals, queues, rfl, rfl, rfl,
    State.scan_risesDue, rfl, rfl, rfl, map, timer, liu, decoder, notices, marks, power, fun a => ?_,
    s.control.emergency.sampled_cases s.depth (!emergency)⟩
  · rw [State.scan_sensor, State.scan_cell, ← State.samples_iff, ← sampleOf_occupancy]
    refine ⟨fun skipped => ?_, fun sampled same => ?_, fun sampled differs few => ?_, fun sampled differs enough => ?_⟩
    · rw [State.scannedCell_unsampled skipped]
      exact ⟨rfl, rfl⟩
    · rw [State.scannedCell_sampled sampled, filterCell_agreeing same]
      exact ⟨rfl, rfl⟩
    · rw [State.scannedCell_sampled sampled, filterCell_counting differs few]
      exact ⟨rfl, rfl⟩
    · rw [State.scannedCell_sampled sampled, filterCell_believed differs enough]
      exact ⟨rfl, rfl⟩
  · rw [State.scan_signal]
    exact (s.signal a).sampled_cases s.depth _

end Sys2Proof.Machine

namespace Sys2Proof.Machine

/-! ## The latches and the GRANTED passages behind them (R106)

### Work that lights no latch -/

/-- From `s` to `t` no latch has gone to GO, and where one is still at GO the GRANTED passages of its approach are still
there. -/
def LightsNone (s t : State) : Prop :=
  ∀ a, (t.signal a).latch = .go → (s.signal a).latch = .go ∧ ∀ p, s.GrantedAt p a → t.GrantedAt p a

/-- Every latch is at STOP. -/
def State.Dark (s : State) : Prop := ∀ a, (s.signal a).latch = .stop

section
variable {s t u : State} {p : Slot} {q : Passage}

theorem State.dark_iff : s.Dark ↔ ∀ a, (s.signal a).latch ≠ .go := by
  refine forall_congr' fun a => ?_
  cases (s.signal a).latch <;> simp

/-- With every latch at STOP the law asks for nothing. -/
theorem State.Dark.latchLaw (dark : s.Dark) : s.LatchLaw := fun a go => absurd go (State.dark_iff.1 dark a)

theorem State.LatchLaw.dark_of_mode (law : s.LatchLaw) (running : s.control.mode ≠ .running)
    (draining : s.control.mode ≠ .draining) : s.Dark :=
  State.dark_iff.2 fun a go => (law a go).1.elim running draining

theorem State.LatchLaw.dark_of_ungranted (law : s.LatchLaw) (none : ∀ p a, ¬ s.GrantedAt p a) : s.Dark :=
  State.dark_iff.2 fun a go => (law a go).2.elim fun p granted => none p a granted

theorem State.Dark.of_signals (dark : s.Dark) (signals : t.signals = s.signals) : t.Dark := fun a => by
  rw [State.signal_congr signals]
  exact dark a

theorem LightsNone.rfl {s : State} : LightsNone s s := fun _ go => ⟨go, fun _ => id⟩

theorem LightsNone.trans (h : LightsNone s t) (k : LightsNone t u) : LightsNone s u := fun a go => by
  obtain ⟨before, stay⟩ := k a go
  obtain ⟨first, stay'⟩ := h a before
  exact ⟨first, fun p granted => stay p (stay' p granted)⟩

theorem lightsNone_foldl {α : Type} {f : State → α → State} (h : ∀ s x, LightsNone s (f s x)) (l : List α) (s : State) :
    LightsNone s (l.foldl f s) := by
  induction l generalizing s with
  | nil => exact .rfl
  | cons x rest ih => exact (h s x).trans (ih _)

theorem LightsNone.dark (h : LightsNone s t) (dark : s.Dark) : t.Dark :=
  State.dark_iff.2 fun a go => State.dark_iff.1 dark a (h a go).1

/-- Work that lights no latch keeps the law if the mode still allows what was lit. -/
theorem LightsNone.latchLaw (h : LightsNone s t) (law : s.LatchLaw)
    (mode : s.control.mode = .running ∨ s.control.mode = .draining →
      t.control.mode = .running ∨ t.control.mode = .draining) : t.LatchLaw := fun a go => by
  obtain ⟨before, stay⟩ := h a go
  obtain ⟨open', p, granted⟩ := law a before
  exact ⟨mode open', p, stay p granted⟩

/-- Passages that stay what the laws of the book read of them, and no latch that goes to GO. -/
theorem SameCore.lightsNone (core : SameCore s t)
    (stays : ∀ a, (t.signal a).latch = .go → (s.signal a).latch = .go) : LightsNone s t :=
  fun a go => ⟨stays a go, fun _ => core.symm.grantedAt⟩

theorem SameCore.lightsNone_of_signals (core : SameCore s t) (signals : t.signals = s.signals) : LightsNone s t :=
  core.lightsNone fun a go => by rwa [State.signal_congr signals] at go

theorem LightsNone.of_passages (working : t.map.working = s.map.working) (passage : ∀ p, t.passage p = s.passage p)
    (signals : t.signals = s.signals) : LightsNone s t := fun a go => by
  rw [State.signal_congr signals] at go
  exact ⟨go, fun p ⟨q, hq, granted, at_a⟩ =>
    ⟨q, (passage p).trans hq, granted, (State.approachOf_congr working (.refl _)).trans at_a⟩⟩

theorem KeepsBook.lightsNone (h : KeepsBook s t) : LightsNone s t := by
  obtain ⟨-, -, -, signals⟩ := id h
  exact h.sameCore.lightsNone_of_signals signals

/-- The passage in one slot is replaced, while the latch of its approach is at STOP if it was GRANTED. -/
theorem LightsNone.replace {x : Option Passage} (h : LightsNone s u) (core : SameCore (u.setPassage p x) t)
    (stays : ∀ a, (t.signal a).latch = .go → (u.signal a).latch = .go)
    (stops : ∀ a, s.GrantedAt p a → (t.signal a).latch = .stop) : LightsNone s t := fun a go => by
  obtain ⟨first, stay⟩ := h a (stays a go)
  refine ⟨first, fun y granted => core.symm.grantedAt ?_⟩
  have other : p ≠ y := by
    rintro rfl
    exact absurd ((stops a granted).symm.trans go) nofun
  obtain ⟨r, hr, was, at_a⟩ := stay y granted
  exact ⟨r, (State.passage_setPassage ..).trans ((if_neg other).trans hr), was, at_a⟩

/-- A passage that is not GRANTED is replaced. -/
theorem LightsNone.replace_ungranted (h : LightsNone s u) (hq : s.passage p = some q) (ungranted : q.state ≠ .granted)
    (x : Option Passage) : LightsNone s (u.setPassage p x) := by
  refine h.replace .rfl (fun _ => id) fun a ⟨r, hr, granted, _⟩ => ?_
  cases hq.symm.trans hr
  exact absurd granted ungranted

variable (s)

/-! #### Latches that stop, releases, removals -/

theorem State.setLatch_stop_lightsNone (a : ApproachId) : LightsNone s (s.setLatch a .stop) := by
  refine (s.setLatch_sameCore a .stop).lightsNone fun b go => ?_
  rw [State.setLatch_signal] at go
  split at go
  · rw [SignalRec.latched_latch] at go
    cases go
  · exact go

theorem State.setControl_lightsNone (c : Control) : LightsNone s (s.setControl c) := .of_passages rfl (fun _ => rfl) rfl

theorem State.setLiu_lightsNone (l : Liu) : LightsNone s (s.setLiu l) := .of_passages rfl (fun _ => rfl) rfl

theorem State.postMode_lightsNone : LightsNone s s.postMode := s.postMode_keepsBook.lightsNone

theorem State.updateCells_lightsNone (f : CellRec → CellRec) (l : List CellId) : LightsNone s (s.updateCells f l) :=
  .of_passages (by simp) (fun p => by simp) (by simp)

theorem State.released_lightsNone (p : Slot) (q : Passage) : LightsNone s (s.released p q) :=
  ((s.updateCells_lightsNone _ _).trans (s.releaseRun_keepsBook p q).lightsNone).trans
    ((State.modDeadline_sameCore _ p _).lightsNone_of_signals rfl)

/-- A removal puts the latch of a GRANTED passage to STOP (R24, R106). -/
theorem State.vacated_lightsNone {p : Slot} {q : Passage} (hq : s.passage p = some q) :
    LightsNone s (s.vacated p q) := by
  have released := s.released_lightsNone p q
  unfold State.vacated
  split
  · split
    · refine (released.trans (State.setLatch_stop_lightsNone _ _)).replace .rfl (fun _ => id) fun a granted => ?_
      obtain ⟨r, hr, -, rfl⟩ := granted
      cases hq.symm.trans hr
      change (((s.released p q).setLatch ((s.released p q).approachOf q) .stop).signal (s.approachOf q)).latch = .stop
      rw [State.released_approachOf, State.setLatch_signal, if_pos rfl, SignalRec.latched_latch]
    · rename_i ungranted
      exact released.replace_ungranted hq ungranted none
  · rename_i queued
    have queued : q.state = .queued := Passage.live_eq_false_iff.1 (by simpa using queued)
    have unlisted : LightsNone s (s.unlisted p q) :=
      .of_passages (by rw [State.unlisted_map]) (fun x => State.unlisted_passage x) State.signals_unlisted
    exact unlisted.replace_ungranted hq (by rw [queued]; exact nofun) none

theorem State.remove_lightsNone (p : Slot) (o : Outcome) : LightsNone s (s.remove p o) := by
  cases hq : s.passage p with
  | none => rw [State.remove_of_none hq]; exact .rfl
  | some q =>
    obtain ⟨told, -⟩ := State.remove_vacated hq o
    exact (s.vacated_lightsNone hq).trans told.lightsNone

theorem State.flush_lightsNone (which : Passage → Bool) : LightsNone s (s.flush which) :=
  lightsNone_foldl (fun s p => s.remove_lightsNone p .flushed) _ s

/-! #### The Tracker -/

/-- An examination lights no latch: the passage whose cells it gives back is ENTERED (R67). -/
theorem State.examination_lightsNone (p : Slot) (toBlind : Bool) : LightsNone s (s.examination p toBlind).1 := by
  unfold State.examination
  split
  · exact .rfl
  · rename_i q hq
    split
    · rename_i entered
      obtain ⟨-, book⟩ := State.releaseFront_eq (q.position.getD 0) (s.heldRun q) q.firstHeld s q hq rfl
      have released := ((s.updateCells_lightsNone CellRec.freed _).replace_ungranted hq (by rw [entered]; exact nofun)
        _).trans book.lightsNone
      dsimp only
      split
      · split
        · exact released.trans (State.remove_lightsNone _ p .cleared)
        · exact released
      · split
        · exact released.trans ((State.armBlindClear_sameCore _ p).lightsNone_of_signals rfl)
        · exact released
    · exact .rfl

/-- Entry puts the latch of the passage's approach to STOP (R63, step 2). -/
theorem State.enter_lightsNone {p : Slot} {q : Passage} (hq : s.passage p = some q) (k : Nat) (c : CellId) :
    LightsNone s (s.enter p q k c) := by
  have signal := (s.setPassage p (some (q.asEntered k))).setLatch_signal (s.approachOf q) .stop
  have latched : LightsNone s ((s.setPassage p (some (q.asEntered k))).setLatch (s.approachOf q) .stop) := by
    refine LightsNone.rfl.replace (State.setLatch_sameCore _ _ _) (fun a go => ?_) fun a granted => ?_
    · obtain ⟨before, -⟩ := State.setLatch_stop_lightsNone _ _ a go
      exact before
    · obtain ⟨r, hr, -, rfl⟩ := granted
      cases hq.symm.trans hr
      rw [signal, if_pos rfl, SignalRec.latched_latch]
  exact (latched.trans ((State.armDwell_sameCore _ p c).lightsNone_of_signals rfl)).trans
    (State.examination_lightsNone _ p false)

theorem State.intrude_lightsNone (c : CellId) (reason : IntrusionReason) (who : Option (Slot × Passage))
    (stamp : Time) : LightsNone s (s.intrude c reason who stamp) :=
  (LightsNone.of_passages (s := s) rfl (fun _ => rfl) rfl).trans (State.postSafety_keepsBook _ _).lightsNone

theorem State.occupiedAhead_lightsNone (p : Slot) (q : Passage) (c : CellId) (stamp : Time) :
    LightsNone s (s.occupiedAhead p q c stamp) := by
  unfold State.occupiedAhead
  dsimp only
  split
  · exact .rfl
  · split
    · exact (s.advance_sameCore p _ c).lightsNone_of_signals rfl
    · exact s.intrude_lightsNone c _ _ stamp

/-- A change report lights no latch: entry alone writes one, to STOP (R59, R63). -/
theorem State.takeChange_lightsNone (c : CellId) (occ : Occupancy) (stamp : Time) :
    LightsNone s (s.takeChange c occ stamp).1 := by
  have told : LightsNone s (s.told c occ) := .of_passages rfl (fun _ => rfl) rfl
  refine told.trans ?_
  unfold State.takeChange
  dsimp only
  rw [← State.told]
  generalize s.told c occ = u
  split
  · split
    · exact .rfl
    · exact u.intrude_lightsNone _ _ _ _
  · rename_i p q found
    have hq : u.passage p = some q := by
      obtain ⟨x, -, hx⟩ := Option.bind_eq_some_iff.1 found
      obtain ⟨r, hr, e⟩ := Option.map_eq_some_iff.1 hx
      cases e
      exact hr
    split
    · exact .rfl
    · split
      · exact .rfl
      · split
        · split
          · exact u.enter_lightsNone hq _ _
          · exact u.intrude_lightsNone _ _ _ _
        · exact u.intrude_lightsNone _ _ _ _
    · refine LightsNone.trans ?_ (State.examination_lightsNone _ _ _)
      split
      · exact .rfl
      · exact u.occupiedAhead_lightsNone _ _ _ _

/-! #### Sensors, halts and SETTLING -/

theorem State.toStandby_lightsNone (c : CellId) : LightsNone s (s.toStandby c).1 :=
  (LightsNone.of_passages (s := s) rfl (fun _ => rfl) rfl).trans (State.takeChange_lightsNone _ _ _ _)

theorem State.restartFilter_lightsNone (c : CellId) : LightsNone s (s.restartFilter c).1 := by
  unfold State.restartFilter
  dsimp only
  split
  · exact .of_passages rfl (fun _ => rfl) rfl
  · exact (LightsNone.of_passages (s := s) rfl (fun _ => rfl) rfl).trans (State.takeChange_lightsNone _ _ _ _)

theorem State.toActive_lightsNone (c : CellId) : LightsNone s (s.toActive c).1 :=
  (LightsNone.of_passages (s := s) rfl (fun _ => rfl) rfl).trans (State.restartFilter_lightsNone _ c)

theorem State.changeSensor_lightsNone (c : CellId) (m : SensorMode) : LightsNone s (s.changeSensor c m).1 := by
  cases m with
  | active => exact s.toActive_lightsNone c
  | standby => exact s.toStandby_lightsNone c

theorem State.restartFilters_lightsNone : LightsNone s s.restartFilters :=
  lightsNone_foldl (fun s c => by split; exacts [s.restartFilter_lightsNone c, .rfl]) _ s

theorem State.returnSensor_lightsNone (c : CellId) : LightsNone s (s.returnSensor c) := by
  unfold State.returnSensor
  split
  · exact .rfl
  · split
    · exact s.restartFilter_lightsNone c
    · exact .rfl
    · exact s.toStandby_lightsNone c
    · exact s.toActive_lightsNone c

/-- A halt puts every latch to STOP (R125, step 4). -/
theorem State.halt_dark (prior : PriorMode) (causes : HaltCauses) : (s.halt prior causes).Dark := fun a => by
  rw [State.halt_eq, State.stopLatches_signal, SignalRec.latched_latch]

theorem State.Dark.lightsNone {s t : State} (dark : t.Dark) : LightsNone s t :=
  fun a go => absurd go (State.dark_iff.1 dark a)

theorem State.enterSettling_lightsNone : LightsNone s s.enterSettling := by
  unfold State.enterSettling
  dsimp only
  refine (s.restartFilters_lightsNone.trans ?_).trans (State.postMode_lightsNone _)
  split
  · exact State.setControl_lightsNone _ _
  · exact (State.halt_dark _ _ _).lightsNone

end

end Sys2Proof.Machine

namespace Sys2Proof.Machine

/-! ### Work that keeps the law -/

/-- The law of the latches passes from `s` to `t` (R106). -/
def KeepsLatchLaw (s t : State) : Prop := s.LatchLaw → t.LatchLaw

section
variable {s t u : State} {p : Slot} {q : Passage}

theorem KeepsLatchLaw.rfl {s : State} : KeepsLatchLaw s s := id

theorem KeepsLatchLaw.trans (h : KeepsLatchLaw s t) (k : KeepsLatchLaw t u) : KeepsLatchLaw s u := fun law => k (h law)

theorem keepsLatchLaw_foldl {α : Type} {f : State → α → State} (h : ∀ s x, KeepsLatchLaw s (f s x)) (l : List α)
    (s : State) : KeepsLatchLaw s (l.foldl f s) := by
  induction l generalizing s with
  | nil => exact .rfl
  | cons x rest ih => exact (h s x).trans (ih _)

theorem LightsNone.keepsLatchLaw (h : LightsNone s t) (control : t.control = s.control) : KeepsLatchLaw s t :=
  fun law => h.latchLaw law fun mode => by rwa [control]

/-- Work that leads to RUNNING or to DRAINING and lights no latch. -/
theorem LightsNone.keepsLatchLaw_of_open (h : LightsNone s t)
    (mode : t.control.mode = .running ∨ t.control.mode = .draining) : KeepsLatchLaw s t :=
  fun law => h.latchLaw law fun _ => mode

theorem KeepsBook.keepsLatchLaw (h : KeepsBook s t) : KeepsLatchLaw s t := h.lightsNone.keepsLatchLaw h.1.control

/-- What leaves the map, the book, the signals and the Mode Controller alone keeps the law. -/
theorem KeepsLatchLaw.of_book (working : t.map.working = s.map.working) (book : t.book = s.book)
    (signals : t.signals = s.signals) (control : t.control = s.control) : KeepsLatchLaw s t :=
  ((SameCore.of_book working book).lightsNone_of_signals signals).keepsLatchLaw control

variable (s)

theorem State.setLiu_keepsLatchLaw (l : Liu) : KeepsLatchLaw s (s.setLiu l) := .of_book rfl rfl rfl rfl

theorem State.recordError_keepsLatchLaw (k : LineError) : KeepsLatchLaw s (s.recordError k) := .of_book rfl rfl rfl rfl

theorem State.postMode_keepsLatchLaw : KeepsLatchLaw s s.postMode := s.postMode_keepsBook.keepsLatchLaw

/-- A change of the Mode Controller that leaves the mode alone. -/
theorem State.setControl_keepsLatchLaw {c : Control} (mode : c.mode = s.control.mode) :
    KeepsLatchLaw s (s.setControl c) := fun law =>
  (s.setControl_lightsNone c).latchLaw law fun open' => by rwa [State.setControl_control, mode]

/-! #### The grant pass -/

variable {s}

/-- A grant lights the latch of its passage's approach, in RUNNING (R47, R106). -/
theorem State.LatchLaw.grant (law : u.LatchLaw) (running : u.control.mode = .running)
    (name : ∃ r, u.passage p = some r ∧ r.SameName q) (quiet : Option Slot) : (u.grant quiet p q).LatchLaw := by
  obtain ⟨r, hr, -, -, route⟩ := name
  obtain ⟨-, -, -, signals⟩ := State.grantQuietly_keepsBook (s := u) (p := p) (q := q) quiet
  have core := (u.grant_sameCore quiet p q).symm
  have working : (u.grantedCore p q).map.working = u.map.working := by rw [State.grantedCore_map]
  intro a go
  refine ⟨.inl (by rw [(State.grant_keeps _ _ _ _).control, running]), ?_⟩
  rw [State.signal_congr signals, State.grantQuietly_signal] at go
  split at go
  · rename_i own
    refine ⟨p, core.grantedAt ⟨q.asGranted, ?_, rfl, (State.approachOf_congr working rfl).trans own.symm⟩⟩
    rw [State.grantedCore_passage, if_pos rfl]
  · rename_i other
    obtain ⟨-, y, x, hx, granted, at_a⟩ := law a go
    have apart : p ≠ y := by
      rintro rfl
      cases hr.symm.trans hx
      exact other (at_a.symm.trans (State.approachOf_congr rfl route.symm))
    refine ⟨y, core.grantedAt ⟨x, ?_, granted, (State.approachOf_congr working rfl).trans at_a⟩⟩
    rw [State.grantedCore_passage, if_neg apart, hx]

/-- Stage 3 keeps the law if its candidates name what stands in their slots (R42). -/
theorem State.LatchLaw.examine {lawful : Prop} (law : u.LatchLaw) (running : u.control.mode = .running)
    (quiet : Option Slot) {l : List Entrant} (ready : u.Ready lawful l) : (u.examine quiet l).1.LatchLaw := by
  have each : ∀ (l : List Entrant) (sg : State × List Entrant), sg.1.LatchLaw → sg.1.control.mode = .running →
      sg.1.Ready lawful l → (l.foldl (State.examineOne quiet) sg).1.LatchLaw := by
    intro l
    induction l with
    | nil => exact fun _ law _ _ => law
    | cons x rest ih =>
      intro sg law running ready
      rw [List.foldl_cons, State.examineOne]
      split
      · obtain ⟨names, -⟩ := id ready
        exact ih _ (law.grant running (names x (List.mem_cons_self ..)) quiet)
          ((congrArg Control.mode (State.grant_keeps _ quiet _ _).control).trans running) (ready.grant quiet)
      · exact ih _ law running ready.tail
  exact each l (u, []) law running ready

/-- A record whose state and route stay may change in other fields. -/
theorem State.modPassage_lightsNone (s : State) (p : Slot) {f : Passage → Passage}
    (hf : ∀ q, (f q).state = q.state ∧ (f q).route = q.route) : LightsNone s (s.modPassage p f) := fun a go => by
  refine ⟨go, fun y ⟨r, hr, granted, at_a⟩ => ?_⟩
  by_cases own : p = y
  · subst own
    obtain ⟨state, route⟩ := hf r
    refine ⟨f r, ?_, state.trans granted, (State.approachOf_congr rfl route).trans at_a⟩
    rw [State.passage_modPassage, if_pos rfl, hr, Option.map_some]
  · refine ⟨r, ?_, granted, at_a⟩
    rw [State.passage_modPassage, if_neg own, hr]

theorem State.considerHead_signals (a : ApproachId) (sc : State × List Entrant) :
    (State.considerHead a sc).1.signals = sc.1.signals := by
  unfold State.considerHead
  dsimp only
  split
  · rfl
  · split
    · split
      · rfl
      · split
        · rfl
        · rw [State.setMark_signals]
          split
          · rfl
          · obtain ⟨-, -, -, signals⟩ := State.postSafety_keepsBook sc.1 _
            exact signals
    · rfl

/-- Stage 1 writes no signal (R42). -/
theorem State.candidates_signals (s : State) : s.candidates.1.signals = s.signals := by
  have each : ∀ (l : List ApproachId) (sc : State × List Entrant),
      (l.foldl (fun sc a => State.considerHead a sc) sc).1.signals = sc.1.signals := by
    intro l
    induction l with
    | nil => exact fun _ => rfl
    | cons a rest ih => exact fun sc => (ih _).trans (State.considerHead_signals a sc)
  unfold State.candidates
  exact each (List.finRange 8) (s, [])

theorem State.accountOne_lightsNone (s : State) (order : List Slot) (granted : List Entrant) (h : Entrant) :
    LightsNone s (s.accountOne order granted h) := by
  unfold State.accountOne
  split
  · refine s.modPassage_lightsNone h.1 fun q => ?_
    obtain ⟨n, b, skip, -⟩ := q.gainSkip_eq s.map.working.options.skipLimit
    rw [skip]
    exact ⟨rfl, rfl⟩
  · exact .rfl

theorem State.account_lightsNone (s : State) (order : List Slot) (ordered granted : List Entrant) :
    LightsNone s (s.account order ordered granted) := by
  induction ordered generalizing s with
  | nil => exact .rfl
  | cons h rest ih => exact (s.accountOne_lightsNone order granted h).trans (ih _)

theorem State.reserveFor_lightsNone (s : State) (p : Slot) : LightsNone s (s.reserveFor p) := by
  unfold State.reserveFor
  split
  · exact .rfl
  · dsimp only
    split
    · exact s.updateCells_lightsNone (CellRec.reservedFor p) _
    · exact .rfl

theorem State.sweep_lightsNone (s : State) : LightsNone s s.sweep :=
  lightsNone_foldl State.reserveFor_lightsNone _ s

/-- A grant pass keeps the law: its grants are its only writes of a latch (R42, R106). -/
theorem State.grantPass_keepsLatchLaw (s : State) (quiet : Option Slot) : KeepsLatchLaw s (s.grantPass quiet) := by
  unfold State.grantPass
  split
  · rename_i running
    intro law
    obtain ⟨book, -⟩ := s.candidates_heads
    have control := s.candidates_keeps.control
    have formed : s.candidates.1.LatchLaw :=
      KeepsLatchLaw.of_book (congrArg MapStore.working s.candidates_keeps.map) book s.candidates_signals control law
    have examined := formed.examine ((congrArg Control.mode control).trans running) quiet
      (s.candidates_ready s.book.arrivals)
    refine (State.sweep_lightsNone _).keepsLatchLaw (State.sweep_keeps _).control ?_
    exact (State.account_lightsNone _ _ _ _).keepsLatchLaw (State.account_keeps _ _ _ _).control examined
  · exact .rfl

theorem State.afterEvent_keepsLatchLaw (before s : State) (starts : Bool) :
    KeepsLatchLaw s (State.afterEvent before s starts) := by
  have drained := (State.drainedPost_keepsBook before s).keepsLatchLaw
  rw [State.afterEvent_eq]
  split
  · exact drained.trans (State.grantPass_keepsLatchLaw _ none)
  · exact drained

/-! #### Halt causes -/

variable {causes : HaltCauses}

theorem CauseJoins.keepsLatchLaw (h : CauseJoins s t causes) : KeepsLatchLaw s t := by
  rcases Mode.halting_cases s.control.mode with (closed | halted) | ⟨prior, known, mode⟩
  · rw [h.closed closed]
    exact .rfl
  · obtain ⟨control, book, -, signals⟩ := h.halted halted
    have same := (SameCore.of_book (congrArg MapStore.working h.outer.map) book).lightsNone_of_signals signals
    exact fun law => same.latchLaw law fun open' => by rwa [control]
  · obtain ⟨-, signal, -⟩ := h.halts prior known mode
    exact fun _ => State.Dark.latchLaw fun a => by rw [signal, SignalRec.latched_latch]

theorem CauseLeaves.keepsLatchLaw (h : CauseLeaves s t causes) : KeepsLatchLaw s t := by
  obtain ⟨book, -, signals⟩ := h.book
  have same := (SameCore.of_book (congrArg MapStore.working h.outer.map) book).lightsNone_of_signals signals
  refine fun law => same.latchLaw law fun open' => ?_
  rw [h.control]
  split <;> exact open'

variable (s)

theorem State.joinCause_keepsLatchLaw (add : HaltCauses → HaltCauses) : KeepsLatchLaw s (s.joinCause add) :=
  (s.joinCause_joins add).keepsLatchLaw

theorem State.leaveCause_keepsLatchLaw (remove : HaltCauses → HaltCauses) : KeepsLatchLaw s (s.leaveCause remove) :=
  (s.leaveCause_leaves remove).keepsLatchLaw

theorem State.emergencyStop_keepsLatchLaw : KeepsLatchLaw s s.emergencyStop := by
  have joined := s.joinCause_keepsLatchLaw fun c => { c with estop := true }
  unfold State.emergencyStop
  dsimp only
  split
  case h_1 | h_2 | h_3 => exact joined.trans (State.setLiu_keepsLatchLaw _ _)
  case h_4 | h_5 | h_6 => exact joined

theorem State.faulted_keepsLatchLaw (a : ApproachId) (fault : Bool) : KeepsLatchLaw s (s.faulted a fault) := by
  refine ((s.setSignal_sameCore a _).lightsNone fun b go => ?_).keepsLatchLaw rfl
  rw [State.signal_setSignal] at go
  split at go
  · rename_i own
    exact own ▸ go
  · exact go

/-- A readback change is judged against the latch, and leaves it (R108 to R110). -/
theorem State.judgeReadback_keepsLatchLaw (a : ApproachId) : KeepsLatchLaw s (s.judgeReadback a) := by
  cases latch : (s.signal a).latch with
  | go =>
    have core := s.judgeReadback_sameCore a
    rw [State.judgeReadback_go latch] at core ⊢
    obtain ⟨-, control, -, others⟩ := s.extStopped_does a (decide ((s.signal a).raw = .low))
    refine (core.lightsNone fun b go => ?_).keepsLatchLaw control
    by_cases own : b = a
    · rw [own, latch]
    · rwa [others b own] at go
  | stop =>
    cases raw : (s.signal a).raw with
    | high =>
      rw [State.judgeReadback_fault latch raw]
      exact (s.faulted_keepsLatchLaw a true).trans (State.joinCause_keepsLatchLaw _ _)
    | low =>
      rw [State.judgeReadback_clear latch raw]
      split
      · exact s.faulted_keepsLatchLaw a false
      · exact (s.faulted_keepsLatchLaw a false).trans (State.leaveCause_keepsLatchLaw _ _)

/-! #### Removals, reports and expiries -/

theorem State.afterRemoval_keepsLatchLaw (p : Slot) (o : Outcome) :
    KeepsLatchLaw s (s.afterEvent (s.remove p o) true) :=
  ((s.remove_lightsNone p o).keepsLatchLaw (s.remove_keeps p o).control).trans (State.afterEvent_keepsLatchLaw _ _ _)

theorem State.expiry_keepsLatchLaw (p : Slot) (k : ArmedKind) (o : Outcome) :
    KeepsLatchLaw s (if s.expiryDue p k then s.afterEvent (s.remove p o) true else s) := by
  split
  · exact s.afterRemoval_keepsLatchLaw p o
  · exact .rfl

theorem State.dwellExpiry_keepsLatchLaw (p : Slot) : KeepsLatchLaw s (s.dwellExpiry p) := by
  unfold State.dwellExpiry
  split
  · exact .rfl
  · rename_i q hq
    dsimp only
    split
    · have expired := s.modPassage_lightsNone p (f := fun q => q.afterDwell s.timer.floor) fun _ => ⟨rfl, rfl⟩
      rw [State.modPassage, hq] at expired
      exact (expired.keepsLatchLaw rfl).trans (State.postOwnerAndSafety_keepsBook _ _ _ _).keepsLatchLaw
    · exact .rfl

theorem State.expire_keepsLatchLaw (p : Slot) : KeepsLatchLaw s (s.expire p) :=
  ((s.expiry_keepsLatchLaw p .arrival .lapsed).trans (State.dwellExpiry_keepsLatchLaw _ p)).trans
    (State.expiry_keepsLatchLaw _ p .blindClear .cleared)

theorem State.tick_keepsLatchLaw (l : List Slot) : KeepsLatchLaw s (l.foldl State.expire s).increment :=
  (keepsLatchLaw_foldl State.expire_keepsLatchLaw l s).trans (.of_book rfl rfl rfl rfl)

theorem State.occupancyChange_keepsLatchLaw (c : CellId) : KeepsLatchLaw s (s.occupancyChange c) := by
  unfold State.occupancyChange
  split
  · exact ((s.takeChange_lightsNone c _ _).keepsLatchLaw (s.takeChange_keeps c _ _).control).trans
      (State.afterEvent_keepsLatchLaw _ _ _)
  · exact .rfl

theorem SignalRec.sampled_latch (r : SignalRec) (depth : Nat) (level : Level) :
    (r.sampled depth level).latch = r.latch := by
  unfold SignalRec.sampled
  split
  · rfl
  · split <;> rfl

/-- A scan writes the readback filters, and no latch (R96, R108). -/
theorem State.scan_keepsLatchLaw (cells : BitVec 32) (signals : BitVec 8) (emergency : Bool) :
    KeepsLatchLaw s (s.scan cells signals emergency) := by
  have lit : LightsNone s (s.scan cells signals emergency) :=
    (s.scan_sameCore cells signals emergency).lightsNone fun a go => by
      rwa [State.scan_signal, SignalRec.sampled_latch] at go
  exact fun law => lit.latchLaw law id

/-- SETTLING ends in RUNNING, with a grant pass (R121). -/
theorem State.riseSettleCount_keepsLatchLaw : KeepsLatchLaw s s.riseSettleCount := by
  unfold State.riseSettleCount
  split
  · dsimp only
    have counted := s.setControl_keepsLatchLaw (c := { s.control with settleCount := s.control.settleCount + 1 }) rfl
    split
    · exact ((counted.trans ((State.setControl_lightsNone _ _).keepsLatchLaw_of_open (.inl rfl))).trans
        (State.postMode_keepsLatchLaw _)).trans (State.grantPass_keepsLatchLaw _ none)
    · exact counted
  · exact .rfl

/-! #### Commands of the book -/

theorem State.request_keepsLatchLaw (m : MasterSlot) (carrier : CarrierId) (route cls speed : Byte)
    (length : BitVec 16) : KeepsLatchLaw s (s.request m carrier route cls speed length).1 := by
  unfold State.request
  split
  · exact .rfl
  · rename_i r p passed
    obtain ⟨-, free, -⟩ := State.checkRequest_passed passed
    have admitted : LightsNone s (s.admission p (s.newPassage m carrier r cls speed length)) := by
      refine LightsNone.trans (LightsNone.rfl.replace (x := some (s.newPassage m carrier r cls speed length))
        (p := p) .rfl (fun _ => id) fun a ⟨q, hq, _⟩ => ?_) (.of_passages rfl (fun _ => rfl) rfl)
      rw [free] at hq
      cases hq
    exact (admitted.keepsLatchLaw rfl).trans (State.grantPass_keepsLatchLaw _ (some p))

theorem State.withdraw_keepsLatchLaw (src : Node) (slot : Byte) (carrier : CarrierId) :
    KeepsLatchLaw s (s.withdraw src slot carrier).1 := by
  unfold State.withdraw
  split
  · exact .rfl
  · split
    · exact .rfl
    · split
      · exact .rfl
      · exact s.afterRemoval_keepsLatchLaw _ _

theorem State.forceRelease_keepsLatchLaw (slot : Byte) (carrier : CarrierId) :
    KeepsLatchLaw s (s.forceRelease slot carrier).1 := by
  unfold State.forceRelease
  split
  · exact .rfl
  · exact s.afterRemoval_keepsLatchLaw _ _

theorem State.updateCells_keepsLatchLaw (f : CellRec → CellRec) (l : List CellId) :
    KeepsLatchLaw s (s.updateCells f l) :=
  (s.updateCells_lightsNone f l).keepsLatchLaw (s.updateCells_keeps f l).control

theorem State.lockCells_keepsLatchLaw (set : BitVec 32) : KeepsLatchLaw s (s.lockCells set).1 := by
  unfold State.lockCells
  split
  · exact .rfl
  · exact (s.updateCells_keepsLatchLaw _ _).trans (s.lockAll_keepsBook set).keepsLatchLaw

theorem State.unlockCells_keepsLatchLaw (set : BitVec 32) : KeepsLatchLaw s (s.unlockCells set).1 := by
  unfold State.unlockCells
  split
  · exact .rfl
  · have unlocked := s.updateCells_keepsLatchLaw CellRec.unlocked (cellsIn set)
    rw [← State.unlockAll_eq] at unlocked
    dsimp only
    split
    · exact unlocked.trans (State.grantPass_keepsLatchLaw _ none)
    · exact unlocked

theorem State.setSensorMode_keepsLatchLaw (cell mode : Byte) : KeepsLatchLaw s (s.setSensorMode cell mode).1 := by
  unfold State.setSensorMode
  split
  · exact .rfl
  · dsimp only
    split
    · exact .rfl
    · obtain ⟨-, control⟩ := s.changeSensor_keepsMode _ _
      exact ((s.changeSensor_lightsNone _ _).keepsLatchLaw control).trans (State.afterEvent_keepsLatchLaw _ _ _)

/-! #### Commands of the modes -/

theorem State.drain_keepsLatchLaw : KeepsLatchLaw s s.drain.1 := by
  unfold State.drain
  dsimp only
  split
  · exact ((s.setControl_lightsNone _).keepsLatchLaw_of_open (.inr rfl)).trans (State.postMode_keepsLatchLaw _)
  · exact .rfl

/-- The latches that a RESUME lights have their GRANTED passages (R106, R127 step 3). -/
theorem State.unhalted_keepsLatchLaw {m : Mode} (open' : m = .running ∨ m = .draining) :
    KeepsLatchLaw s (s.unhalted m) := fun law a go => by
  have mode : (s.unhalted m).control.mode = m := congrArg Control.mode State.unhalted_keeps.control
  obtain ⟨-, unlit⟩ := s.unhalted_signal (mode := m) a
  have granted : ∃ p, s.GrantedAt p a := by
    by_contra none
    rw [unlit (not_exists.1 none)] at go
    exact none (law a go).2
  exact ⟨by rwa [mode], granted.imp fun p => State.unhalted_sameCore.symm.grantedAt⟩

theorem State.leaveHalted_keepsLatchLaw {m : Mode} (open' : m = .running ∨ m = .draining) :
    KeepsLatchLaw s (s.leaveHalted m) := by
  rw [State.leaveHalted_eq]
  exact ((s.unhalted_keepsLatchLaw open').trans (State.postMode_keepsLatchLaw _)).trans
    (State.grantPass_keepsLatchLaw _ none)

theorem State.resume_keepsLatchLaw : KeepsLatchLaw s s.resume.1 := by
  unfold State.resume
  split
  · rename_i halted
    split
    · exact .rfl
    · dsimp only
      split
      · exact s.leaveHalted_keepsLatchLaw (.inl rfl)
      · exact s.leaveHalted_keepsLatchLaw (.inr rfl)
      all_goals
        intro law
        have dark := law.dark_of_mode (by rw [halted]; exact nofun) (by rw [halted]; exact nofun)
        exact (s.enterSettling_lightsNone.dark dark).latchLaw
  · dsimp only
    exact (((s.setControl_lightsNone _).keepsLatchLaw_of_open (.inl rfl)).trans (State.postMode_keepsLatchLaw _)).trans
      (State.grantPass_keepsLatchLaw _ none)
  all_goals exact .rfl

/-- RESTART flushes every passage, and with the last GRANTED one of an approach goes its GO (R25, R128). -/
theorem State.restart_keepsLatchLaw : KeepsLatchLaw s s.restart.1 := fun law => by
  have lit := (s.flush_lightsNone fun _ => true).trans
    (lightsNone_foldl State.returnSensor_lightsNone (List.finRange 32) _)
  have tends := tends_foldl State.returnSensor_tends (List.finRange 32) (s.flush fun _ => true)
  have empty : ∀ p, (s.flush fun _ => true).passage p = none := fun p => State.flush_passage_none fun _ _ => rfl
  obtain ⟨-, control⟩ := (s.flush_keeps fun _ => true).mode.trans
    (keepsMode_foldl State.returnSensor_keepsMode (List.finRange 32) _)
  have dark := (lit.keepsLatchLaw control law).dark_of_ungranted fun p a ⟨q, hq, _⟩ => by
    rw [tends.passage_none (empty p)] at hq
    cases hq
  unfold State.restart
  dsimp only
  split
  · exact (((State.setControl_lightsNone _ _).trans (State.postMode_lightsNone _)).dark dark).latchLaw
  · exact ((State.enterSettling_lightsNone _).dark dark).latchLaw

theorem State.enterService_lightsNone (n : Node) : LightsNone s (s.enterService n) := by
  obtain ⟨-, -, -, signals, -⟩ := (s.enterService_enters n).outside
  exact (s.enterService_sameCore n).lightsNone_of_signals signals

/-- SERVICE is entered with every latch at STOP: no mode but RUNNING and DRAINING has one at GO, and in DRAINING no
passage is live (R106, R119). -/
theorem State.openService_keepsLatchLaw (src : Node) : KeepsLatchLaw s (s.openService src).1 := fun law => by
  unfold State.openService
  split
  case h_1 unmapped =>
    have dark := law.dark_of_mode (by rw [unmapped]; exact nofun) (by rw [unmapped]; exact nofun)
    dsimp only
    exact ((s.enterService_lightsNone src).dark dark).latchLaw
  case h_2 => exact KeepsLatchLaw.of_book (s := s) rfl rfl rfl rfl law
  case h_3 | h_4 =>
    split
    · exact law
    · rename_i idle
      have dark := law.dark_of_ungranted fun p a ⟨q, hq, granted, _⟩ =>
        absurd ((State.live_of_liveCount idle hq).symm.trans granted) nofun
      dsimp only
      exact (((s.flush_lightsNone _).trans (State.enterService_lightsNone _ src)).dark dark).latchLaw
  all_goals exact law

/-! #### Commands of the Map Store -/

/-- A map may change under latches that are all at STOP (R7, R106). -/
theorem State.load_keepsLatchLaw (map : Except Verdict WorkingMap) (service : s.control.mode = .service) :
    KeepsLatchLaw s (s.load map).1 := fun law => by
  have dark := law.dark_of_mode (by rw [service]; exact nofun) (by rw [service]; exact nofun)
  unfold State.load
  split
  · exact law
  · rename_i m
    have same : (s.setWorking m).signals = s.signals := rfl
    exact (dark.of_signals same).latchLaw

theorem State.commitMap_keepsLatchLaw (service : s.control.mode = .service) : KeepsLatchLaw s s.commitMap.1 :=
  fun law => by
    have dark := law.dark_of_mode (by rw [service]; exact nofun) (by rw [service]; exact nofun)
    unfold State.commitMap
    split
    · exact law
    · dsimp only
      rw [State.commit_eq_enterSettling]
      exact ((State.enterSettling_lightsNone _).dark (dark.of_signals s.committed_signals)).latchLaw

/-! #### Questions -/

theorem State.junctionPart1_keepsLatchLaw (src : Node) : KeepsLatchLaw s (s.junctionPart1 src).1 := by
  unfold State.junctionPart1 State.storeSnapshot
  dsimp only
  split <;> exact .of_book rfl rfl rfl rfl

theorem State.junctionPart2_keepsLatchLaw (src : Node) : KeepsLatchLaw s (s.junctionPart2 src).1 := by
  unfold State.junctionPart2
  split <;> exact .rfl

theorem State.junctionPart_keepsLatchLaw (src : Node) (part : Byte) : KeepsLatchLaw s (s.junctionPart src part).1 := by
  unfold State.junctionPart
  split
  · exact s.junctionPart1_keepsLatchLaw src
  · split
    · exact s.junctionPart2_keepsLatchLaw src
    · exact .rfl

end

end Sys2Proof.Machine

namespace Sys2Proof.Machine

/-! ### Every step keeps the law -/

section
variable {s t : State}

/-- A frame command keeps the law if its owner does wherever the Decoder hands a frame on to it (R135, R143). -/
theorem onFrame_keepsLatchLaw {c : Instr} {owner : State → State × Verdict}
    (ho : ∀ f u, frameOf c = some f → u.judge f.kind f.head.src = .take → KeepsLatchLaw u (owner u).1)
    (h : onFrame c s owner = .next t) : KeepsLatchLaw s t := by
  have read : ∀ f, KeepsLatchLaw s (s.readFrame f) := fun f => .of_book rfl rfl rfl rfl
  have tail : ∀ (u : State) v, KeepsLatchLaw u (u.giveTail v) := fun u v => .of_book rfl rfl rfl rfl
  rcases onFrame_cases h with rfl | ⟨f, hf, -, ⟨-, rfl⟩ | ⟨v, -, rfl⟩ | ⟨hj, rfl⟩⟩
  · exact .rfl
  · exact read f
  · exact (read f).trans (tail _ v)
  · exact ((read f).trans (ho f _ hf hj)).trans (tail _ _)

/-- A frame whose owner keeps the law in every mode. -/
theorem onFrame_keepsLatchLaw_always {c : Instr} {owner : State → State × Verdict}
    (ho : ∀ u, KeepsLatchLaw u (owner u).1) (h : onFrame c s owner = .next t) : KeepsLatchLaw s t :=
  onFrame_keepsLatchLaw (fun _ u _ _ => ho u) h

/-- The Decoder hands a frame to the Map Store in SERVICE alone (R129). -/
theorem State.service_of_judge_take {k : Kind} {n : Node} (known : k ∈ Kind.mapStore) (taken : s.judge k n = .take) :
    s.control.mode = .service := by
  have taken := State.judge_take taken
  simp only [Kind.mapStore, List.mem_cons, List.not_mem_nil, or_false] at known
  rcases known with rfl | rfl | rfl | rfl | rfl | rfl | rfl <;> simpa [Kind.takenIn, Kind.anyNode] using taken

/-- A frame of the Map Store, whose owner keeps the law in SERVICE. -/
theorem onServiceFrame_keepsLatchLaw {c : Instr} {n : Node} {owner : State → State × Verdict}
    (kind : ∀ f, frameOf c = some f → f.kind ∈ Kind.mapStore)
    (ho : ∀ u : State, u.control.mode = .service → KeepsLatchLaw u (owner u).1)
    (h : onServiceFrame c n s owner = .next t) : KeepsLatchLaw s t := by
  refine onFrame_keepsLatchLaw (fun f u hf hj => ?_) h
  split
  · exact ho u (State.service_of_judge_take (kind f hf) hj)
  · exact .rfl

theorem Loads.keepsLatchLaw {c : Instr} {src : Node} {map : WorkingMap → Except Verdict WorkingMap}
    (loads : Loads c src map) (h : exec c s = .next t) : KeepsLatchLaw s t := by
  obtain ⟨exec_eq, f, hf, kind⟩ := loads
  rw [exec_eq] at h
  refine onServiceFrame_keepsLatchLaw (fun g hg => ?_) (fun u service => u.load_keepsLatchLaw _ service) h
  cases hf.symm.trans hg
  exact kind

theorem execCommitMap_keepsLatchLaw {hd : FrameHead} (h : execCommitMap hd s = .next t) : KeepsLatchLaw s t := by
  refine onServiceFrame_keepsLatchLaw (fun f hf => ?_) (fun u service => u.commitMap_keepsLatchLaw service) h
  cases hf
  simp [Kind.mapStore]

/-- An event keeps the law if its work does. -/
theorem whenRunning_keepsLatchLaw {f : State → State} (hf : ∀ u, KeepsLatchLaw u (f u))
    (h : s.whenRunning f = .next t) : KeepsLatchLaw s t := by
  rcases whenRunning_eq h with rfl | ⟨-, rfl⟩
  · exact .rfl
  · exact hf s

/-- An event with one condition. -/
theorem whenRunning_ite_keepsLatchLaw {p : State → Prop} [DecidablePred p] {f : State → State}
    (hf : ∀ u, KeepsLatchLaw u (f u)) (h : (s.whenRunning fun u => if p u then f u else u) = .next t) :
    KeepsLatchLaw s t := by
  refine whenRunning_keepsLatchLaw (fun u => ?_) h
  split
  · exact hf u
  · exact .rfl

/-! #### The line and the pins -/

theorem State.retireNotice_keepsLatchLaw (s : State) (k : MasterSlot) (lost : Bool) (rx : Option Receive) :
    KeepsLatchLaw s (s.retireNotice k lost rx) := by
  refine KeepsLatchLaw.trans ?_ (State.refill_keepsBook _).keepsLatchLaw
  exact .of_book rfl rfl rfl rfl

theorem execFrameError_keepsLatchLaw {raw : RawFrame} (h : execFrameError raw s = .next t) : KeepsLatchLaw s t := by
  refine whenRunning_keepsLatchLaw (fun u => ?_) h
  split
  · exact .rfl
  · split
    · exact (u.setLiu_keepsLatchLaw _).trans (State.recordError_keepsLatchLaw _ _)
    · exact u.setLiu_keepsLatchLaw _
    · exact .rfl

theorem execTailBitError_keepsLatchLaw (h : execTailBitError s = .next t) : KeepsLatchLaw s t := by
  refine whenRunning_keepsLatchLaw (fun u => ?_) h
  split
  · exact .rfl
  · split
    · exact (u.setLiu_keepsLatchLaw _).trans (State.recordError_keepsLatchLaw _ _)
    · exact .rfl

theorem execNoticeFrameStart_keepsLatchLaw (h : execNoticeFrameStart s = .next t) : KeepsLatchLaw s t := by
  refine whenRunning_keepsLatchLaw (fun u => ?_) h
  split
  · exact .rfl
  · split
    · exact .of_book rfl rfl rfl rfl
    · exact .rfl

theorem execArbitrationLost_keepsLatchLaw {loss : Loss} (h : execArbitrationLost loss s = .next t) :
    KeepsLatchLaw s t := by
  refine whenRunning_keepsLatchLaw (fun u => ?_) h
  split
  · exact .rfl
  · exact u.setLiu_keepsLatchLaw _
  · split
    · exact u.setLiu_keepsLatchLaw _
    · exact .rfl

theorem execNoticeSentClean_keepsLatchLaw (h : execNoticeSentClean s = .next t) : KeepsLatchLaw s t := by
  refine whenRunning_keepsLatchLaw (fun u => ?_) h
  split
  · exact u.retireNotice_keepsLatchLaw _ _ _
  · exact .rfl

theorem execNoticeBitError_keepsLatchLaw (h : execNoticeBitError s = .next t) : KeepsLatchLaw s t := by
  refine whenRunning_keepsLatchLaw (fun u => ?_) h
  split
  · dsimp only
    split
    · exact .of_book rfl rfl rfl rfl
    · exact ((u.recordError_keepsLatchLaw _).trans (State.recordError_keepsLatchLaw _ _)).trans
        (State.retireNotice_keepsLatchLaw _ _ _ _)
  · exact .rfl

theorem execHardwareReset_keepsLatchLaw {cause : ResetCause} (h : execHardwareReset cause s = .next t) :
    KeepsLatchLaw s t := by
  cases h
  split
  · exact .of_book rfl rfl rfl rfl
  · exact .rfl

theorem execResetRelease_keepsLatchLaw (h : execResetRelease s = .next t) : KeepsLatchLaw s t := by
  cases h
  split
  · exact .of_book rfl rfl rfl rfl
  · exact .rfl

/-- Hardware reset ends with every latch at STOP (R105, R166). -/
theorem execOscillatorReady_keepsLatchLaw {straps : BitVec 4} (h : execOscillatorReady straps s = .next t) :
    KeepsLatchLaw s t := by
  cases h
  split
  · refine fun _ => State.Dark.latchLaw fun a => ?_
    simp [State.signal, State.afterReset, SignalRec.reset]
  · exact .rfl

theorem State.crystalCycle_keepsLatchLaw (s : State) : KeepsLatchLaw s s.crystalCycle := by
  unfold State.crystalCycle
  split
  case h_1 => exact .rfl
  case h_2 | h_3 => exact .of_book rfl rfl rfl rfl

/-! #### Commands and steps -/

theorem execRequestPassage_keepsLatchLaw {hd : FrameHead} {carrier : CarrierId} {route cls speed : Byte}
    {length : BitVec 16} (h : execRequestPassage hd carrier route cls speed length s = .next t) :
    KeepsLatchLaw s t := by
  refine onFrame_keepsLatchLaw_always (fun u => ?_) h
  split
  · exact .rfl
  · exact u.request_keepsLatchLaw _ _ _ _ _ _

/-- Every command keeps the law of the latches. -/
theorem exec_keepsLatchLaw {c : Instr} (h : exec c s = .next t) : KeepsLatchLaw s t := by
  cases c
  all_goals simp only [exec] at h
  case identify | linePattern | queryPassage | queryCell => exact onFrame_keepsLatchLaw_always (fun _ => .rfl) h
  case queryJunctionPart1 => exact onFrame_keepsLatchLaw_always (fun u => u.junctionPart_keepsLatchLaw _ _) h
  case queryJunctionPart2 => exact onFrame_keepsLatchLaw_always (fun u => u.junctionPart2_keepsLatchLaw _) h
  case queryLine => exact onFrame_keepsLatchLaw_always (fun u => u.setLiu_keepsLatchLaw _) h
  case requestPassage => exact execRequestPassage_keepsLatchLaw h
  case withdraw => exact onFrame_keepsLatchLaw_always (fun u => u.withdraw_keepsLatchLaw _ _ _) h
  case forceRelease => exact onFrame_keepsLatchLaw_always (fun u => u.forceRelease_keepsLatchLaw _ _) h
  case lockCells => exact onFrame_keepsLatchLaw_always (fun u => u.lockCells_keepsLatchLaw _) h
  case unlockCells => exact onFrame_keepsLatchLaw_always (fun u => u.unlockCells_keepsLatchLaw _) h
  case setSensor => exact onFrame_keepsLatchLaw_always (fun u => u.setSensorMode_keepsLatchLaw _ _) h
  case drain => exact onFrame_keepsLatchLaw_always State.drain_keepsLatchLaw h
  case resume => exact onFrame_keepsLatchLaw_always State.resume_keepsLatchLaw h
  case restart => exact onFrame_keepsLatchLaw_always State.restart_keepsLatchLaw h
  case openService => exact onFrame_keepsLatchLaw_always (fun u => u.openService_keepsLatchLaw _) h
  case loadOptions => exact (loads_loadOptions ..).keepsLatchLaw h
  case loadCell => exact (loads_loadCell ..).keepsLatchLaw h
  case loadApproach => exact (loads_loadApproach ..).keepsLatchLaw h
  case loadRoute => exact (loads_loadRoute ..).keepsLatchLaw h
  case loadRouteCells => exact (loads_loadRouteCells ..).keepsLatchLaw h
  case loadMaster => exact (loads_loadMaster ..).keepsLatchLaw h
  case commitMap => exact execCommitMap_keepsLatchLaw h
  case frameError => exact execFrameError_keepsLatchLaw h
  case tailBitError => exact execTailBitError_keepsLatchLaw h
  case noiseRun => exact whenRunning_ite_keepsLatchLaw (fun u => u.recordError_keepsLatchLaw _) h
  case lineIdle | lineBusy => exact whenRunning_ite_keepsLatchLaw (fun u => u.setLiu_keepsLatchLaw _) h
  case noticeFrameStart => exact execNoticeFrameStart_keepsLatchLaw h
  case arbitrationLost => exact execArbitrationLost_keepsLatchLaw h
  case noticeSentClean => exact execNoticeSentClean_keepsLatchLaw h
  case noticeBitError => exact execNoticeBitError_keepsLatchLaw h
  case haltPulseStart =>
    exact whenRunning_ite_keepsLatchLaw
      (fun u => (u.setLiu_keepsLatchLaw _).trans (State.joinCause_keepsLatchLaw _ _)) h
  case haltPulseEnd | lineStuckRecovery =>
    exact whenRunning_ite_keepsLatchLaw
      (fun u => (u.setLiu_keepsLatchLaw _).trans (State.leaveCause_keepsLatchLaw _ _)) h
  case lineStuck =>
    exact whenRunning_ite_keepsLatchLaw (fun u => ((u.setLiu_keepsLatchLaw _).trans
      (State.recordError_keepsLatchLaw _ _)).trans (State.joinCause_keepsLatchLaw _ _)) h
  case haltPulseRelease => exact whenRunning_keepsLatchLaw (fun u => u.setLiu_keepsLatchLaw _) h
  case scan => exact whenRunning_keepsLatchLaw (fun u => u.scan_keepsLatchLaw _ _ _) h
  case occupancyChange => exact whenRunning_keepsLatchLaw (fun u => u.occupancyChange_keepsLatchLaw _) h
  case readbackChange => exact whenRunning_ite_keepsLatchLaw (fun u => u.judgeReadback_keepsLatchLaw _) h
  case emergencyAsserted =>
    exact whenRunning_ite_keepsLatchLaw
      (fun u => (u.setControl_keepsLatchLaw (by rfl)).trans (State.emergencyStop_keepsLatchLaw _)) h
  case emergencyClear =>
    exact whenRunning_ite_keepsLatchLaw
      (fun u => (u.setControl_keepsLatchLaw (by rfl)).trans (State.leaveCause_keepsLatchLaw _ _)) h
  case settleCountRise =>
    exact whenRunning_ite_keepsLatchLaw
      (fun u => (u.setControl_keepsLatchLaw (by rfl)).trans (State.riseSettleCount_keepsLatchLaw _)) h
  case tick => exact whenRunning_keepsLatchLaw (fun u => u.tick_keepsLatchLaw _) h
  case arrivalExpiry => exact whenRunning_keepsLatchLaw (fun u => u.expiry_keepsLatchLaw _ _ _) h
  case dwellExpiry => exact whenRunning_keepsLatchLaw (fun u => u.dwellExpiry_keepsLatchLaw _) h
  case blindClearExpiry => exact whenRunning_keepsLatchLaw (fun u => u.expiry_keepsLatchLaw _ _ _) h
  case hardwareReset => exact execHardwareReset_keepsLatchLaw h
  case oscillatorReady => exact execOscillatorReady_keepsLatchLaw h
  case resetRelease => exact execResetRelease_keepsLatchLaw h

theorem step_keepsLatchLaw (h : step s = .next t) : KeepsLatchLaw s t := by
  unfold step at h
  split at h
  · cases h
    exact s.crystalCycle_keepsLatchLaw
  · rename_i rest _
    have popped : KeepsLatchLaw s { s with pending := rest } := .of_book rfl rfl rfl rfl
    exact popped.trans (exec_keepsLatchLaw h)

end

/-- Settles O7: a grant and a RESUME alone light a latch, each behind a GRANTED passage; a passage leaves GRANTED as its
latch stops; and RUNNING and DRAINING are left by a halt, by a flush of the live passages or with none live. -/
theorem latchLawKept : Obligations.LatchLawKept := fun _ _ law h => step_keepsLatchLaw h law

end Sys2Proof.Machine

namespace Sys2Proof.Machine

/-! ## Junction modes (R116 to R129)

### The acceptance table (R129) -/

section
variable {s : State} {k : Kind} {mode : Mode} {prior : PriorMode} {src : Node} {m : MasterSlot}

/-- In UNMAPPED and SERVICE the mode alone decides, whatever the source (R129). -/
theorem State.judge_closed (closed : s.control.mode.operating = false) :
    s.judge k src = if Kind.takenIn k s.control.mode s.control.prior = true then .take
      else .refuse (.refusedMode s.control.mode) := by
  simp [State.judge, closed]

theorem State.judge_stranger (operating : s.control.mode.operating = true) (stranger : s.enrolledSlot src = none) :
    s.judge k src = if Kind.anyNode k = true then .take else .noTail := by
  simp [State.judge, operating, stranger]

/-- In the operating modes an enrolled master's frame is judged by the mode first and then by the role (R143). -/
theorem State.judge_enrolled (operating : s.control.mode.operating = true) (enrolled : s.enrolledSlot src = some m) :
    s.judge k src =
      if ¬ Kind.takenIn k s.control.mode s.control.prior = true then .refuse (.refusedMode s.control.mode)
      else if Kind.safetyOnly k = true ∧ s.map.enrolment[m].role ≠ .safety then .refuse .refusedRole
      else .take := by
  simp [State.judge, operating, enrolled, State.isSafety]

theorem Kind.takenIn_unmapped_iff : Kind.takenIn k .unmapped prior = true ↔
    k ∈ [Kind.identify, .linePattern, .queryJunction, .openService] := by
  cases k <;> simp [Kind.takenIn, Mode.operating]

theorem Kind.takenIn_service_iff : Kind.takenIn k .service prior = true ↔
    k ∈ [Kind.identify, .linePattern, .queryJunction, .openService] ++
      [Kind.loadOptions, .loadCell, .loadApproach, .loadRoute, .loadRouteCells, .loadMaster, .commitMap] := by
  cases k <;> simp [Kind.takenIn, Mode.operating]

theorem Kind.anyNode_iff : Kind.anyNode k = true ↔ k ∈ [Kind.identify, .linePattern] := by
  cases k <;> simp [Kind.anyNode]

theorem Kind.safetyOnly_iff : Kind.safetyOnly k = true ↔
    k ∈ [Kind.openService, .lockCells, .unlockCells, .setSensor, .forceRelease, .drain, .resume, .restart] := by
  cases k <;> simp [Kind.safetyOnly]

/-- The operating columns: the kinds of every one of them, and the four kinds that the columns tell apart (R129). -/
theorem Kind.takenIn_operating_iff (operating : mode.operating = true) : Kind.takenIn k mode prior = true ↔
    k ∈ [Kind.identify, .linePattern, .queryJunction, .queryPassage, .queryCell, .queryLine, .withdraw, .lockCells,
        .unlockCells, .setSensor, .forceRelease, .restart] ∨
      (k = .requestPassage ∧ (mode = .settling ∨ mode = .running ∨ mode = .halted ∧ prior ≠ .draining)) ∨
      (k = .drain ∧ (mode = .running ∨ mode = .draining)) ∨
      (k = .resume ∧ (mode = .running ∨ mode = .draining ∨ mode = .halted)) ∨
      (k = .openService ∧ (mode = .draining ∨ mode = .halted)) := by
  obtain ⟨mapped, served⟩ := Mode.operating_iff.1 operating
  cases k <;> simp [Kind.takenIn, operating, mapped, served, or_assoc]

end

/-- Settles O16: the columns UNMAPPED and SERVICE, the sources without a slot, and the enrolled masters by mode and
role. -/
theorem acceptanceTable : Obligations.AcceptanceTable := by
  intro k src s anyMode service everyOperating safety mode inMode
  refine ⟨fun unmapped => ?_, fun served => ?_, fun mapped served stranger => ?_, fun mapped served m enrolled => ?_⟩
  · have closed : s.control.mode = .unmapped := unmapped
    rw [State.judge_closed (by rw [closed]; rfl), closed]
    exact if_congr Kind.takenIn_unmapped_iff rfl rfl
  · have closed : s.control.mode = .service := served
    rw [State.judge_closed (by rw [closed]; rfl), closed]
    exact if_congr Kind.takenIn_service_iff rfl rfl
  · rw [State.judge_stranger (Mode.operating_iff.2 ⟨mapped, served⟩) stranger]
    exact if_congr Kind.anyNode_iff rfl rfl
  · have operating : s.control.mode.operating = true := Mode.operating_iff.2 ⟨mapped, served⟩
    have taken : Kind.takenIn k s.control.mode s.control.prior = true ↔ inMode := Kind.takenIn_operating_iff operating
    have role : Kind.safetyOnly k = true ↔ k ∈ safety := Kind.safetyOnly_iff
    rw [State.judge_enrolled operating enrolled]
    refine ⟨fun row only other => ?_, fun row master => ?_, fun row => if_pos (mt taken.1 row)⟩
    · rw [if_neg (not_not.2 (taken.2 row)), if_pos ⟨role.2 only, other⟩]
    · rw [if_neg (not_not.2 (taken.2 row)), if_neg fun ⟨only, other⟩ => other (master (role.1 only))]

end Sys2Proof.Machine

namespace Sys2Proof.Machine

/-! ### The changes of mode and of the halt-cause set (8.1, R116) -/

/-- The events at which a halt cause joins (R124). -/
def BringsCause (c : Instr) : Prop :=
  c = .haltPulseStart ∨ c = .lineStuck ∨ c = .emergencyAsserted ∨ ∃ a, c = .readbackChange a

/-- What an entry into SETTLING leads to: SETTLING with no cause in the set, or HALTED where the entry check finds one
(R120). -/
def SettlingEntry (mode : Mode) (causes : HaltCauses) : Prop :=
  mode = .settling ∧ causes = .empty ∨ mode = .halted

/-- The table of the changes of mode (8.1): a command with the mode and the halt-cause set before and after it. -/
inductive ModeMove : Instr → Mode → HaltCauses → Mode → HaltCauses → Prop
  | stays {c m x} : ModeMove c m x m x
  | staysHalted {c x y} : ModeMove c .halted x .halted y
  | halts {c m x y} (cause : BringsCause c) (operating : m.operating = true) (running : m ≠ .halted) :
      ModeMove c m x .halted y
  | commits {hd x m y} (entry : SettlingEntry m y) : ModeMove (.commitMap hd) .service x m y
  | restarts {hd m x n y} (operating : m.operating = true) (running : m ≠ .halted) (entry : SettlingEntry n y) :
      ModeMove (.restart hd) m x n y
  | resettles {hd x m y} (entry : SettlingEntry m y) : ModeMove (.resume hd) .halted x m y
  | resumes {hd m} (prior : m = .running ∨ m = .draining) : ModeMove (.resume hd) .halted .empty m .empty
  | undrains {hd x} : ModeMove (.resume hd) .draining x .running x
  | drains {hd x} : ModeMove (.drain hd) .running x .draining x
  | settles {x} : ModeMove .settleCountRise .settling x .running x
  | opens {hd m x} (idle : m = .unmapped ∨ m = .draining ∨ m = .halted) :
      ModeMove (.openService hd) m x .service .empty
  | resets {straps m x} : ModeMove (.oscillatorReady straps) m x .unmapped .empty

section
variable {c : Instr} {m n : Mode} {x y : HaltCauses}

/-- A cause comes into the set in HALTED alone, and HALTED is left with the set empty (R116). -/
theorem ModeMove.causes_empty (h : ModeMove c m x n y) (law : m ≠ .halted → x = .empty) (running : n ≠ .halted) :
    y = .empty := by
  cases h with
  | stays => exact law running
  | staysHalted | halts => exact absurd rfl running
  | commits entry | restarts _ _ entry | resettles entry =>
    rcases entry with ⟨-, empty⟩ | halted
    · exact empty
    · exact absurd halted running
  | undrains | drains | settles => exact law nofun
  | resumes | opens | resets => rfl

/-- The commands by which a mode is entered (R118 to R128, R166). -/
theorem ModeMove.entered (h : ModeMove c m x n y) (changed : n ≠ m) :
    (n = .settling → ∃ hd, c = .commitMap hd ∨ c = .restart hd ∨ c = .resume hd) ∧
    (n = .running → c = .settleCountRise ∨ ∃ hd, c = .resume hd) ∧
    (n = .halted → BringsCause c ∨ ∃ hd, c = .commitMap hd ∨ c = .restart hd ∨ c = .resume hd) ∧
    (n = .service → ∃ hd, c = .openService hd) ∧
    (n = .draining → (∃ hd, c = .drain hd) ∨ ∃ hd, c = .resume hd) ∧
    (n = .unmapped → ∃ straps, c = .oscillatorReady straps) := by
  cases h with
  | stays | staysHalted => exact absurd rfl changed
  | halts cause => simp [cause]
  | commits entry | restarts _ _ entry | resettles entry =>
    rcases entry with ⟨rfl, -⟩ | rfl <;> simp
  | resumes prior => rcases prior with rfl | rfl <;> simp
  | undrains | drains | settles | opens | resets => simp

/-- The commands by which UNMAPPED, SERVICE and HALTED are left (R118, R119, R124, R127, R166). -/
theorem ModeMove.left (h : ModeMove c m x n y) (changed : n ≠ m) :
    (m = .unmapped → ∃ hd, c = .openService hd) ∧
    (m = .service → (∃ hd, c = .commitMap hd) ∨ ∃ straps, c = .oscillatorReady straps) ∧
    (m = .halted →
      (∃ hd, c = .resume hd) ∨ (∃ hd, c = .openService hd) ∨ ∃ straps, c = .oscillatorReady straps) := by
  cases h with
  | stays | staysHalted => exact absurd rfl changed
  | halts _ operating running | restarts operating running =>
    obtain ⟨mapped, served⟩ := Mode.operating_iff.1 operating
    simp [mapped, served, running]
  | commits | resettles | resumes | undrains | drains | settles => simp
  | opens idle => rcases idle with rfl | rfl | rfl <;> simp
  | resets => simp [changed.symm]

end

/-- What a command has done to the mode and the halt-cause set is a row of the table. -/
def Moves (c : Instr) (s t : State) : Prop :=
  ModeMove c s.control.mode s.control.causes t.control.mode t.control.causes

section
variable {c : Instr} {s t u : State}

theorem Moves.of_same (mode : t.control.mode = s.control.mode) (causes : t.control.causes = s.control.causes) :
    Moves c s t := by
  rw [Moves, mode, causes]
  exact .stays

theorem Moves.of_control (h : t.control = s.control) : Moves c s t :=
  .of_same (congrArg Control.mode h) (congrArg Control.causes h)

/-- Work that leaves the Mode Controller alone may go before. -/
theorem Moves.after (h : Moves c t u) (same : t.control = s.control) : Moves c s u := by
  rwa [Moves, ← same]

/-- A write of the Mode Controller that leaves mode and causes alone may go before. -/
theorem Moves.after_setControl {k : Control} (h : Moves c (s.setControl k) t) (mode : k.mode = s.control.mode)
    (causes : k.causes = s.control.causes) : Moves c s t := by
  rwa [Moves, State.setControl_control, mode, causes] at h

/-- Work that leaves the Mode Controller alone may follow. -/
theorem Moves.before (h : Moves c s t) (same : u.control = t.control) : Moves c s u := by
  rwa [Moves, same]

variable (s)

/-! #### Causes that join and leave -/

/-- A cause that joins halts an operating junction and is added to the set of a halted one (R124). -/
theorem State.joinCause_moves (cause : BringsCause c) (add : HaltCauses → HaltCauses) :
    Moves c s (s.joinCause add) := by
  have joins := s.joinCause_joins add
  rcases s.control.mode.halting_cases with (closed | mode) | ⟨prior, known, mode⟩
  · exact .of_control (congrArg State.control (joins.closed closed))
  · have control := (joins.halted mode).1
    rw [Moves, control, mode]
    exact .staysHalted
  · obtain ⟨control, -⟩ := joins.halts prior known mode
    rw [Moves, control]
    obtain ⟨operating, running, -⟩ := PriorMode.toMode_open known
    exact .halts cause (mode ▸ operating) (mode ▸ running)

theorem State.leaveCause_moves (remove : HaltCauses → HaltCauses) : Moves c s (s.leaveCause remove) := by
  have control := (s.leaveCause_leaves remove).control
  split at control
  · rename_i mode
    rw [Moves, control, mode]
    exact .staysHalted
  · exact .of_control control

theorem State.modGranted_keeps (a : ApproachId) (f : Deadline → Deadline) : Keeps s (s.modGranted a f) := by
  unfold State.modGranted
  split
  · exact .rfl
  · exact s.modDeadline_keeps _ f

/-- A readback that rises at a STOP latch brings a fault, one that falls may end it, and at a GO latch it is an external
stop (R109, R110). -/
theorem State.judgeReadback_moves (a : ApproachId) : Moves (.readbackChange a) s (s.judgeReadback a) := by
  unfold State.judgeReadback
  dsimp only
  split
  case h_1 | h_2 => exact .of_control (State.modGranted_keeps _ _ _).control
  case h_3 => exact (State.joinCause_moves _ (.inr (.inr (.inr ⟨a, rfl⟩))) _).after (s.setSignal_control a _)
  case h_4 =>
    split
    · exact .of_control (s.setSignal_control a _)
    · exact (State.leaveCause_moves _ _).after (s.setSignal_control a _)

theorem State.emergencyStop_moves : Moves .emergencyAsserted s s.emergencyStop := by
  have joined := s.joinCause_moves (c := .emergencyAsserted) (.inr (.inr (.inl rfl))) fun c => { c with estop := true }
  unfold State.emergencyStop
  dsimp only
  split
  case h_1 | h_2 | h_3 => exact joined.before (State.sendHaltPulse_control _)
  case h_4 | h_5 | h_6 => exact joined

/-! #### The commands of the modes -/

theorem State.enterSettling_entry : SettlingEntry s.enterSettling.control.mode s.enterSettling.control.causes :=
  s.enterSettling_mode.imp_right And.left

theorem State.commitMap_moves {hd : FrameHead} (service : s.control.mode = .service) :
    Moves (.commitMap hd) s s.commitMap.1 := by
  unfold State.commitMap
  split
  · exact .stays
  · dsimp only
    rw [s.commit_eq_enterSettling, Moves, service]
    exact .commits s.committed.enterSettling_entry

/-- RESTART settles again, and in HALTED it leaves mode and causes as they are (R128). -/
theorem State.restart_moves {hd : FrameHead} (operating : s.control.mode.operating = true) :
    Moves (.restart hd) s s.restart.1 := by
  have same : ((List.finRange 32).foldl State.returnSensor (s.flush fun _ => true)).control = s.control :=
    (keepsMode_foldl State.returnSensor_keepsMode _ _).2.trans (s.flush_keeps _).control
  unfold State.restart
  dsimp only
  generalize (List.finRange 32).foldl State.returnSensor (s.flush fun _ => true) = u at same
  split
  · have kept : Moves (.restart hd) u
        (u.setControl { u.control with prior := .settling, settleCount := 0, risesDue := 0 }) := .stays
    exact (kept.before (State.postMode_keepsBook _).1.control).after same
  · rename_i running
    rw [same] at running
    exact .restarts operating running u.enterSettling_entry

theorem State.leaveHalted_control (mode : Mode) : (s.leaveHalted mode).control = { s.control with mode := mode } := by
  rw [State.leaveHalted_eq]
  exact (((State.unhalted_keeps (s := s)).trans (State.postMode_keepsBook _).1).trans
    (State.grantPass_keeps _ _)).control

/-- RESUME leaves HALTED with no cause in the set, to SETTLING or to the prior mode, and DRAINING for RUNNING (R127). -/
theorem State.resume_moves {hd : FrameHead} : Moves (.resume hd) s s.resume.1 := by
  have leaves : ∀ m : Mode, m = .running ∨ m = .draining → s.control.mode = .halted →
      s.control.causes = .empty → Moves (.resume hd) s (s.leaveHalted m) := fun m prior mode causes => by
    rw [Moves, s.leaveHalted_control, mode, causes]
    exact .resumes prior
  have settles : s.control.mode = .halted → Moves (.resume hd) s s.enterSettling := fun mode => by
    rw [Moves, mode]
    exact .resettles s.enterSettling_entry
  unfold State.resume
  split
  · rename_i mode
    split
    · exact .stays
    · rename_i causes
      have causes : s.control.causes = .empty := by simpa [HaltCauses.isEmpty] using causes
      dsimp only
      split
      · exact leaves _ (.inl rfl) mode causes
      · exact leaves _ (.inr rfl) mode causes
      · exact settles mode
      · exact settles mode
  · rename_i mode
    have control : ((s.setMode .running).postMode.grantPass none).control = { s.control with mode := .running } :=
      ((State.postMode_keepsBook _).1.trans (State.grantPass_keeps _ _)).control
    dsimp only
    rw [Moves, control, mode]
    exact .undrains
  all_goals exact .stays

theorem State.drain_moves {hd : FrameHead} : Moves (.drain hd) s s.drain.1 := by
  unfold State.drain
  dsimp only
  split
  · rename_i mode
    rw [Moves, (State.postMode_keepsBook _).1.control, mode]
    exact .drains
  · exact .stays

theorem State.enterService_moves {hd : FrameHead} (n : Node)
    (idle : s.control.mode = .unmapped ∨ s.control.mode = .draining ∨ s.control.mode = .halted) :
    Moves (.openService hd) s (s.enterService n) := by
  rw [Moves, (s.enterService_enters n).control]
  exact .opens idle

/-- OPEN_SERVICE enters SERVICE from UNMAPPED, and from DRAINING and HALTED behind a flush (R119). -/
theorem State.openService_moves {hd : FrameHead} (src : Node) : Moves (.openService hd) s (s.openService src).1 := by
  have flushed : ∀ which, s.control.mode = .draining ∨ s.control.mode = .halted →
      Moves (.openService hd) s ((s.flush which).enterService src) := fun which idle => by
    have same := (s.flush_keeps which).control
    exact ((s.flush which).enterService_moves src (.inr (same ▸ idle))).after same
  unfold State.openService
  split
  case h_1 mode => dsimp only; exact s.enterService_moves src (.inl mode)
  case h_3 mode =>
    split
    · exact .stays
    · dsimp only; exact flushed _ (.inl mode)
  case h_4 mode =>
    split
    · exact .stays
    · dsimp only; exact flushed _ (.inr mode)
  all_goals exact .stays

/-- The rise that completes the settle count leads from SETTLING to RUNNING (R121). -/
theorem State.riseSettleCount_moves : Moves .settleCountRise s s.riseSettleCount := by
  unfold State.riseSettleCount
  dsimp only
  split
  · rename_i mode
    split
    · rw [Moves, ((State.postMode_keepsBook _).1.trans (State.grantPass_keeps _ _)).control, mode]
      exact .settles
    · exact .stays
  · exact .stays

end

end Sys2Proof.Machine

namespace Sys2Proof.Machine

/-! ### Every command is a row of the table -/

section
variable {c : Instr} {s t : State}

/-- A frame command is a row if its owner's work is one wherever the Decoder hands a frame on to it (R135, R143). -/
theorem onFrame_moves {owner : State → State × Verdict}
    (ho : ∀ f u, frameOf c = some f → u.judge f.kind f.head.src = .take → Moves c u (owner u).1)
    (h : onFrame c s owner = .next t) : Moves c s t := by
  rcases onFrame_cases h with rfl | ⟨f, hf, -, ⟨-, rfl⟩ | ⟨v, -, rfl⟩ | ⟨taken, rfl⟩⟩
  · exact .stays
  · exact .stays
  · exact .stays
  · exact ((ho f _ hf taken).after (s.readFrame_control f)).before (State.giveTail_control _ _)

/-- A frame whose owner's work is a row in every mode. -/
theorem onFrame_moves_always {owner : State → State × Verdict} (ho : ∀ u, Moves c u (owner u).1)
    (h : onFrame c s owner = .next t) : Moves c s t :=
  onFrame_moves (fun _ u _ _ => ho u) h

/-- A frame whose owner leaves the Mode Controller alone. -/
theorem onFrame_keepsControl {owner : State → State × Verdict} (ho : ∀ u, (owner u).1.control = u.control)
    (h : onFrame c s owner = .next t) : Moves c s t :=
  onFrame_moves_always (fun u => .of_control (ho u)) h

/-- An event is a row if its work is one. -/
theorem whenRunning_moves {f : State → State} (hf : ∀ u, Moves c u (f u)) (h : s.whenRunning f = .next t) :
    Moves c s t := by
  rcases whenRunning_eq h with rfl | ⟨-, rfl⟩
  · exact .stays
  · exact hf s

/-- An event with one condition. -/
theorem whenRunning_ite_moves {p : State → Prop} [DecidablePred p] {f : State → State} (hf : ∀ u, Moves c u (f u))
    (h : (s.whenRunning fun u => if p u then f u else u) = .next t) : Moves c s t := by
  refine whenRunning_moves (fun u => ?_) h
  split
  · exact hf u
  · exact .stays

/-- An event that leaves the Mode Controller alone. -/
theorem whenRunning_keepsControl {f : State → State} (hf : ∀ u, (f u).control = u.control)
    (h : s.whenRunning f = .next t) : Moves c s t :=
  whenRunning_moves (fun u => .of_control (hf u)) h

/-! #### Frames -/

theorem State.setSensorMode_control (s : State) (cell mode : Byte) :
    (s.setSensorMode cell mode).1.control = s.control := by
  unfold State.setSensorMode
  split
  · rfl
  · dsimp only
    split
    · rfl
    · exact ((s.changeSensor_keepsMode _ _).trans (State.afterEvent_keeps _ _ _).mode).2

theorem State.load_control (s : State) (map : Except Verdict WorkingMap) : (s.load map).1.control = s.control := by
  unfold State.load
  split <;> rfl

theorem execRequestPassage_moves {hd : FrameHead} {carrier : CarrierId} {route cls speed : Byte} {length : BitVec 16}
    (h : execRequestPassage hd carrier route cls speed length s = .next t) : Moves c s t := by
  rcases onFrame_cases h with rfl | ⟨f, -, -, ⟨-, rfl⟩ | ⟨v, -, rfl⟩ | ⟨-, rfl⟩⟩
  · exact .stays
  · exact .stays
  · exact .stays
  · refine .of_control ?_
    dsimp only [State.giveTail_control]
    split
    · rfl
    · exact (State.request_keeps _ _ _ _ _ _ _).control

theorem execRestart_moves {hd : FrameHead} (h : execRestart hd s = .next t) : Moves (.restart hd) s t := by
  refine onFrame_moves (fun f u hf taken => ?_) h
  have taken := State.judge_take taken
  cases hf
  exact u.restart_moves (by simpa [Kind.takenIn, Kind.anyNode] using taken)

/-- A frame of the Map Store, whose owner's work is a row in SERVICE (R7, R129). -/
theorem onServiceFrame_moves {n : Node} {owner : State → State × Verdict}
    (kind : ∀ f, frameOf c = some f → f.kind ∈ Kind.mapStore)
    (ho : ∀ u : State, u.control.mode = .service → Moves c u (owner u).1)
    (h : onServiceFrame c n s owner = .next t) : Moves c s t := by
  refine onFrame_moves (fun f u hf taken => ?_) h
  split
  · exact ho u (State.service_of_judge_take (kind f hf) taken)
  · exact .stays

theorem Loads.moves {src : Node} {map : WorkingMap → Except Verdict WorkingMap} (loads : Loads c src map)
    (h : exec c s = .next t) : Moves c s t := by
  obtain ⟨exec_eq, f, hf, kind⟩ := loads
  rw [exec_eq] at h
  refine onServiceFrame_moves (fun g hg => ?_) (fun u _ => .of_control (u.load_control _)) h
  cases hf.symm.trans hg
  exact kind

theorem execCommitMap_moves {hd : FrameHead} (h : execCommitMap hd s = .next t) : Moves (.commitMap hd) s t := by
  refine onServiceFrame_moves (fun f hf => ?_) (fun u service => u.commitMap_moves service) h
  cases hf
  simp [Kind.mapStore]

/-! #### The line, the pins and the timer -/

theorem execFrameError_moves {raw : RawFrame} (h : execFrameError raw s = .next t) : Moves c s t := by
  refine whenRunning_keepsControl (fun u => ?_) h
  split
  · rfl
  · split <;> rfl

theorem execTailBitError_moves (h : execTailBitError s = .next t) : Moves c s t := by
  refine whenRunning_keepsControl (fun u => ?_) h
  split
  · rfl
  · split <;> rfl

theorem execNoticeFrameStart_moves (h : execNoticeFrameStart s = .next t) : Moves c s t := by
  refine whenRunning_keepsControl (fun u => ?_) h
  split
  · rfl
  · split <;> rfl

theorem execArbitrationLost_moves {loss : Loss} (h : execArbitrationLost loss s = .next t) : Moves c s t := by
  refine whenRunning_keepsControl (fun u => ?_) h
  split
  · rfl
  · rfl
  · split <;> rfl

theorem State.retireNotice_control (s : State) (k : MasterSlot) (lost : Bool) (rx : Option Receive) :
    (s.retireNotice k lost rx).control = s.control := (State.refill_keepsBook _).1.control

theorem execNoticeSentClean_moves (h : execNoticeSentClean s = .next t) : Moves c s t := by
  refine whenRunning_keepsControl (fun u => ?_) h
  split
  · exact u.retireNotice_control _ _ _
  · rfl

theorem execNoticeBitError_moves (h : execNoticeBitError s = .next t) : Moves c s t := by
  refine whenRunning_keepsControl (fun u => ?_) h
  split
  · dsimp only
    split
    · rfl
    · exact State.retireNotice_control _ _ _ _
  · rfl

theorem State.occupancyChange_control (s : State) (cell : CellId) : (s.occupancyChange cell).control = s.control := by
  unfold State.occupancyChange
  split
  · exact ((s.takeChange_keeps cell _ _).trans (State.afterEvent_keeps _ _ _)).control
  · rfl

theorem execEmergencyAsserted_moves (h : execEmergencyAsserted s = .next t) : Moves .emergencyAsserted s t := by
  refine whenRunning_ite_moves (fun u => ?_) h
  exact (State.emergencyStop_moves _).after_setControl rfl rfl

theorem execEmergencyClear_moves (h : execEmergencyClear s = .next t) : Moves c s t := by
  refine whenRunning_ite_moves (fun u => ?_) h
  exact (State.leaveCause_moves _ _).after_setControl rfl rfl

theorem execSettleCountRise_moves (h : execSettleCountRise s = .next t) : Moves .settleCountRise s t := by
  refine whenRunning_ite_moves (fun u => ?_) h
  exact (State.riseSettleCount_moves _).after_setControl rfl rfl

theorem State.tick_control (s : State) (l : List Slot) : (l.foldl State.expire s).increment.control = s.control :=
  (keeps_foldl State.expire_keeps l s).control

theorem execHardwareReset_moves {cause : ResetCause} (h : execHardwareReset cause s = .next t) : Moves c s t := by
  cases h
  split <;> exact .stays

theorem execResetRelease_moves (h : execResetRelease s = .next t) : Moves c s t := by
  cases h
  split <;> exact .stays

/-- Hardware reset ends in UNMAPPED with no cause (R116, R166). -/
theorem execOscillatorReady_moves {straps : BitVec 4} (h : execOscillatorReady straps s = .next t) :
    Moves (.oscillatorReady straps) s t := by
  cases h
  split
  · exact .resets
  · exact .stays

/-- A scan samples the emergency input and makes a rise due, and leaves mode and causes alone (R96, R102). -/
theorem State.scan_moves (s : State) (cells : BitVec 32) (signals : BitVec 8) (emergency : Bool) :
    Moves c s (s.scan cells signals emergency) := .of_same rfl rfl

/-! #### Commands and steps -/

/-- What a command does to the mode and the halt-cause set is a row of the table (8.1, R116). -/
theorem exec_moves (h : exec c s = .next t) : Moves c s t := by
  cases c
  all_goals simp only [exec] at h
  case identify | linePattern | queryPassage | queryCell | queryLine => exact onFrame_keepsControl (fun _ => rfl) h
  case queryJunctionPart1 => exact onFrame_keepsControl (fun u => (u.junctionPart_sparesSafety _ _).control) h
  case queryJunctionPart2 => exact onFrame_keepsControl (fun u => (u.junctionPart2_sparesSafety _).control) h
  case requestPassage => exact execRequestPassage_moves h
  case withdraw => exact onFrame_keepsControl (fun u => (u.withdraw_keeps _ _ _).control) h
  case forceRelease => exact onFrame_keepsControl (fun u => (u.forceRelease_keeps _ _).control) h
  case lockCells => exact onFrame_keepsControl (fun u => (u.lockCells_keeps _).control) h
  case unlockCells => exact onFrame_keepsControl (fun u => (u.unlockCells_keeps _).control) h
  case setSensor => exact onFrame_keepsControl (fun u => u.setSensorMode_control _ _) h
  case drain => exact onFrame_moves_always (fun u => u.drain_moves) h
  case resume => exact onFrame_moves_always (fun u => u.resume_moves) h
  case restart => exact execRestart_moves h
  case openService => exact onFrame_moves_always (fun u => u.openService_moves _) h
  case loadOptions => exact (loads_loadOptions ..).moves h
  case loadCell => exact (loads_loadCell ..).moves h
  case loadApproach => exact (loads_loadApproach ..).moves h
  case loadRoute => exact (loads_loadRoute ..).moves h
  case loadRouteCells => exact (loads_loadRouteCells ..).moves h
  case loadMaster => exact (loads_loadMaster ..).moves h
  case commitMap => exact execCommitMap_moves h
  case frameError => exact execFrameError_moves h
  case tailBitError => exact execTailBitError_moves h
  case noiseRun => exact whenRunning_ite_moves (fun u => .of_control (u.recordError_control _)) h
  case lineIdle | lineBusy => exact whenRunning_ite_moves (fun u => .of_control (u.setLiu_control _)) h
  case noticeFrameStart => exact execNoticeFrameStart_moves h
  case arbitrationLost => exact execArbitrationLost_moves h
  case noticeSentClean => exact execNoticeSentClean_moves h
  case noticeBitError => exact execNoticeBitError_moves h
  case haltPulseStart =>
    exact whenRunning_ite_moves (fun _ => (State.joinCause_moves _ (.inl rfl) _).after (State.setLiu_control _ _)) h
  case lineStuck =>
    exact whenRunning_ite_moves (fun _ => (State.joinCause_moves _ (.inr (.inl rfl)) _).after
      ((State.recordError_control _ _).trans (State.setLiu_control _ _))) h
  case haltPulseEnd | lineStuckRecovery =>
    exact whenRunning_ite_moves (fun _ => (State.leaveCause_moves _ _).after (State.setLiu_control _ _)) h
  case haltPulseRelease => exact whenRunning_keepsControl (fun u => u.setLiu_control _) h
  case scan => exact whenRunning_moves (fun u => u.scan_moves _ _ _) h
  case occupancyChange => exact whenRunning_keepsControl (fun u => u.occupancyChange_control _) h
  case readbackChange => exact whenRunning_ite_moves (fun u => u.judgeReadback_moves _) h
  case emergencyAsserted => exact execEmergencyAsserted_moves h
  case emergencyClear => exact execEmergencyClear_moves h
  case settleCountRise => exact execSettleCountRise_moves h
  case tick => exact whenRunning_keepsControl (fun u => u.tick_control _) h
  case arrivalExpiry => exact whenRunning_keepsControl (fun u => (u.expiry_keeps _ _ _).control) h
  case dwellExpiry => exact whenRunning_keepsControl (fun u => (u.dwellExpiry_keeps _).control) h
  case blindClearExpiry => exact whenRunning_keepsControl (fun u => (u.expiry_keeps _ _ _).control) h
  case hardwareReset => exact execHardwareReset_moves h
  case oscillatorReady => exact execOscillatorReady_moves h
  case resetRelease => exact execResetRelease_moves h

theorem State.crystalCycle_control (s : State) : s.crystalCycle.control = s.control := by
  unfold State.crystalCycle
  split <;> rfl

/-- A row of the table keeps the halt-cause set empty outside HALTED (R116). -/
theorem Moves.causesLaw (h : Moves c s t) (law : s.CausesLaw) : t.CausesLaw := ModeMove.causes_empty h law

end

/-- Settles O5: a cycle of the crystal leaves the Mode Controller alone, and no row of the table of mode changes leaves
a cause in the set outside HALTED. -/
theorem causesOnlyInHaltedKept : Obligations.CausesOnlyInHaltedKept := by
  intro s t law h
  unfold step at h
  split at h
  · cases h
    rw [State.CausesLaw, s.crystalCycle_control]
    exact law
  · exact (exec_moves h).causesLaw law

/-- Settles O14: the table of mode changes, read by the mode entered and by the mode left. -/
theorem modeChangesByNamedCommands : Obligations.ModeChangesByNamedCommands := by
  intro c s t h changed
  have row : ModeMove c s.control.mode s.control.causes t.control.mode t.control.causes := exec_moves h
  obtain ⟨settling, running, halted, service, draining, unmapped⟩ := row.entered changed
  obtain ⟨leftUnmapped, leftService, leftHalted⟩ := row.left changed
  refine ⟨settling, running, fun mode => ?_, service, leftUnmapped, leftService, leftHalted, draining, unmapped⟩
  simpa [BringsCause, or_assoc] using halted mode

end Sys2Proof.Machine

namespace Sys2Proof

/-! ### Frames on the floor line -/

/-! #### What a reading holds, byte for byte -/

/-- Past its end the line reads recessive: FFh with a recessive stop bit (R135). -/
def recessive : Byte × Bool := (0xFF, true)

/-- Reading a list on past its end is padding it. -/
theorem map_getD_range {α : Type} (l : List α) (n : Nat) (d : α) :
    (List.range n).map (l.getD · d) = (l.rightpad n d).take n := by
  refine List.ext_getElem (by simp; omega) fun i hi _ => ?_
  have short : i < n := by simpa using hi
  simp only [List.getElem_map, List.getElem_range, List.getElem_take, List.rightpad]
  by_cases inside : i < l.length
  · rw [List.getD_eq_getElem _ _ inside, List.getElem_append_left inside]
  · rw [List.getD_eq_default _ _ (by omega), List.getElem_append_right (by omega), List.getElem_replicate]

section
variable (r : RawFrame)

theorem RawFrame.byteAt_two_add {header address : Byte × Bool} {rest : List (Byte × Bool)}
    (h : r.bytes = header :: address :: rest) (i : Nat) : r.byteAt (2 + i) = rest.getD i recessive := by
  rw [RawFrame.byteAt, h, Nat.add_comm]
  rfl

theorem RawFrame.firstBytes_eq (n : Nat) : r.firstBytes n = ((r.bytes.rightpad n recessive).take n).map Prod.fst := by
  rw [← map_getD_range, List.map_map]
  rfl

/-- A reading that is long enough holds its first bytes. -/
theorem RawFrame.firstBytes_of_le {n : Nat} (h : n ≤ r.bytes.length) :
    r.firstBytes n = (r.bytes.take n).map Prod.fst := by
  rw [r.firstBytes_eq, List.rightpad, Nat.sub_eq_zero_of_le h, List.replicate_zero, List.append_nil]

/-- A reading that ends early reads on as bytes of FFh (R135). -/
theorem RawFrame.firstBytes_of_ge {n : Nat} (h : r.bytes.length ≤ n) :
    r.firstBytes n = (r.bytes.rightpad n recessive).map Prod.fst := by
  rw [r.firstBytes_eq, List.take_of_length_le (by rw [List.length_rightpad, Nat.max_eq_left h])]

theorem RawFrame.firstBytes_succ (n : Nat) : r.firstBytes (n + 1) = r.firstBytes n ++ [(r.byteAt n).1] := by
  simp only [RawFrame.firstBytes, List.range_succ, List.map_append, List.map_cons, List.map_nil]

/-- Header and address come first. -/
theorem RawFrame.firstBytes_two_add (n : Nat) :
    r.firstBytes (2 + n) = [(r.byteAt 0).1, (r.byteAt 1).1] ++ (r.firstBytes (2 + n)).drop 2 := by
  have front : (r.firstBytes (2 + n)).take 2 = [(r.byteAt 0).1, (r.byteAt 1).1] := by
    simp [RawFrame.firstBytes, ← List.map_take, List.take_range, List.range_succ]
  rw [← front, List.take_append_drop]

theorem RawFrame.firstBytes_length (n : Nat) : (r.firstBytes n).length = n := by
  simp [RawFrame.firstBytes]

end

/-! #### The kinds and the fields of the first two bytes -/

theorem Kind.ofCode_eq_none_iff {code : BitVec 5} : Kind.ofCode code = none ↔ 23 ≤ code.toNat :=
  List.getElem?_eq_none_iff

/-- The numbers of R152 name their kinds. -/
theorem Kind.ofCode_eq_some_iff {code : BitVec 5} {k : Kind} : Kind.ofCode code = some k ↔ code = k.code := by
  have table : ∀ i : Fin 32, (Kind.ofCode (.ofFin i)).all fun k => k.code = .ofFin i := by decide
  constructor
  · intro named
    have := table code.toFin
    rw [named] at this
    exact (of_decide_eq_true this).symm
  · rintro rfl
    cases k <;> rfl

/-- The opening mark is whole, and header and address end in recessive stop bits (R133). -/
structure RawFrame.Opens (r : RawFrame) : Prop where
  mark : r.mark = 1
  header : (r.byteAt 0).2 = true
  address : (r.byteAt 1).2 = true

/-- The destination in the address byte (R152). -/
def RawFrame.dest (r : RawFrame) : Node := nodeOfBits ((r.byteAt 1).1.extractLsb' 4 4)

/-- The kind number in the header (R152). -/
def RawFrame.code (r : RawFrame) : BitVec 5 := (r.byteAt 0).1.extractLsb' 0 5

/-- The payload and the CRC byte of a frame of this kind end in recessive stop bits (R133). -/
def RawFrame.Stops (r : RawFrame) (k : Kind) : Prop := ∀ i < k.payloadLength + 1, (r.byteAt (2 + i)).2 = true

/-- The CRC byte is the CRC-8 of the bytes before it (R134). -/
def RawFrame.Checks (r : RawFrame) (k : Kind) : Prop :=
  crc8 (r.firstBytes (2 + k.payloadLength)) = (r.byteAt (2 + k.payloadLength)).1

/-- A reading, taken for a frame of this kind (R152). -/
def RawFrame.frameOfKind (r : RawFrame) (k : Kind) : Frame :=
  { head := { prio := (r.byteAt 0).1.extractLsb' 5 3, src := nodeOfBits ((r.byteAt 1).1.extractLsb' 0 4) }
    kind := k
    payload := (r.firstBytes (2 + k.payloadLength)).drop 2 }

/-! #### The checks of a reading, in their order -/

/-- The checks that come after the kind is known: the stop bits, the CRC, gap bits 1 and 2 (R133, R135). -/
def RawFrame.readPayload (r : RawFrame) (k : Kind) : Reading :=
  if (List.range (k.payloadLength + 1)).any fun i => !(r.byteAt (2 + i)).2 then .error .byte
  else if crc8 (r.firstBytes (2 + k.payloadLength)) ≠ (r.byteAt (2 + k.payloadLength)).1 then .error .crc
  else if !r.gap1 || !r.gap2 then .error .length
  else .handed (r.frameOfKind k)

section
variable {own : Node} {r : RawFrame} {k : Kind}

theorem readFrame_of_mark (broken : r.mark ≠ 1) : readFrame own r = .error .byte := if_pos broken

theorem readFrame_of_stopBit (mark : r.mark = 1) (dominant : (r.byteAt 0).2 = false ∨ (r.byteAt 1).2 = false) :
    readFrame own r = .error .byte := by
  rw [readFrame, if_neg (not_not.2 mark), if_pos (by simpa using dominant)]

theorem readFrame_of_dest (opens : r.Opens) (elsewhere : r.dest ≠ own) : readFrame own r = .onlooker r.followed := by
  obtain ⟨mark, header, address⟩ := opens
  rw [readFrame, if_neg (not_not.2 mark), if_neg (by simp [header, address])]
  exact if_pos elsewhere

theorem readFrame_of_unknown (opens : r.Opens) (here : r.dest = own) (unknown : 23 ≤ r.code.toNat) :
    readFrame own r = .error .format := by
  obtain ⟨mark, header, address⟩ := opens
  have unnamed : Kind.ofCode ((r.byteAt 0).1.extractLsb' 0 5) = none := Kind.ofCode_eq_none_iff.2 unknown
  rw [readFrame, if_neg (not_not.2 mark), if_neg (by simp [header, address])]
  simp only [unnamed]
  exact if_neg (not_not.2 here)

theorem readFrame_of_kind (opens : r.Opens) (here : r.dest = own) (known : r.code = k.code) :
    readFrame own r = r.readPayload k := by
  obtain ⟨mark, header, address⟩ := opens
  have named : Kind.ofCode ((r.byteAt 0).1.extractLsb' 0 5) = some k := Kind.ofCode_eq_some_iff.2 known
  rw [readFrame, if_neg (not_not.2 mark), if_neg (by simp [header, address])]
  simp only [named]
  exact if_neg (not_not.2 here)

theorem RawFrame.readPayload_of_stopBit {i : Nat} (short : i < k.payloadLength + 1)
    (dominant : (r.byteAt (2 + i)).2 = false) : r.readPayload k = .error .byte :=
  if_pos (List.any_eq_true.2 ⟨i, List.mem_range.2 short, by rw [dominant]; rfl⟩)

theorem RawFrame.Stops.none_dominant (stops : r.Stops k) :
    ¬ ((List.range (k.payloadLength + 1)).any fun i => !(r.byteAt (2 + i)).2) = true := by
  intro dominant
  obtain ⟨i, short, dominant⟩ := List.any_eq_true.1 dominant
  rw [stops i (List.mem_range.1 short)] at dominant
  cases dominant

theorem RawFrame.readPayload_of_crc (stops : r.Stops k) (wrong : ¬ r.Checks k) : r.readPayload k = .error .crc :=
  (if_neg stops.none_dominant).trans (if_pos wrong)

theorem RawFrame.readPayload_of_gap (stops : r.Stops k) (checks : r.Checks k) (gap : r.gap1 = false ∨ r.gap2 = false) :
    r.readPayload k = .error .length :=
  (if_neg stops.none_dominant).trans ((if_neg (not_not.2 checks)).trans (if_pos (by simpa using gap)))

theorem RawFrame.readPayload_of_sound (stops : r.Stops k) (checks : r.Checks k) (gap1 : r.gap1 = true)
    (gap2 : r.gap2 = true) : r.readPayload k = .handed (r.frameOfKind k) :=
  (if_neg stops.none_dominant).trans ((if_neg (not_not.2 checks)).trans (if_neg (by simp [gap1, gap2])))

/-- A reading passes every check for a frame of this kind to this node (R133, R135). -/
structure RawFrame.Carries (own : Node) (r : RawFrame) (k : Kind) : Prop where
  opens : r.Opens
  dest : r.dest = own
  kind : r.code = k.code
  stops : r.Stops k
  checks : r.Checks k
  gap1 : r.gap1 = true
  gap2 : r.gap2 = true

theorem RawFrame.Carries.handed (h : r.Carries own k) : readFrame own r = .handed (r.frameOfKind k) := by
  rw [readFrame_of_kind h.opens h.dest h.kind, RawFrame.readPayload_of_sound h.stops h.checks h.gap1 h.gap2]

/-- A frame that is handed to the Decoder has passed every check (R133, R135). -/
theorem carries_of_handed {f : Frame} (handed : readFrame own r = .handed f) :
    ∃ k, r.Carries own k ∧ f = r.frameOfKind k := by
  have mark : r.mark = 1 := by
    by_contra broken; rw [readFrame_of_mark broken] at handed; cases handed
  have opens : r.Opens := by
    by_contra dominant
    rw [readFrame_of_stopBit mark] at handed
    · cases handed
    · by_contra stops
      simp only [not_or, Bool.not_eq_false] at stops
      obtain ⟨header, address⟩ := stops
      exact dominant ⟨mark, header, address⟩
  have dest : r.dest = own := by
    by_contra elsewhere; rw [readFrame_of_dest opens elsewhere] at handed; cases handed
  cases named : Kind.ofCode r.code with
  | none => rw [readFrame_of_unknown opens dest (Kind.ofCode_eq_none_iff.1 named)] at handed; cases handed
  | some k =>
    have kind := Kind.ofCode_eq_some_iff.1 named
    rw [readFrame_of_kind opens dest kind] at handed
    have stops : r.Stops k := fun i short => by
      by_contra dominant
      rw [RawFrame.readPayload_of_stopBit short (by simpa using dominant)] at handed; cases handed
    have checks : r.Checks k := by
      by_contra wrong; rw [RawFrame.readPayload_of_crc stops wrong] at handed; cases handed
    have gaps : ¬ (r.gap1 = false ∨ r.gap2 = false) := fun gap => by
      rw [RawFrame.readPayload_of_gap stops checks gap] at handed; cases handed
    simp only [not_or, Bool.not_eq_false] at gaps
    obtain ⟨gap1, gap2⟩ := gaps
    rw [RawFrame.readPayload_of_sound stops checks gap1 gap2] at handed
    cases handed
    exact ⟨k, ⟨opens, dest, kind, stops, checks, gap1, gap2⟩, rfl⟩

end

/-! #### Words of a payload -/

/-- The bits above the lower part are those of the upper one. -/
theorem extractLsb'_append_add {v w : Nat} (a : BitVec v) (b : BitVec w) (i n : Nat) :
    (a ++ b).extractLsb' (w + i) n = a.extractLsb' i n := by
  refine BitVec.eq_of_getLsbD_eq fun j hj => ?_
  simp only [BitVec.getLsbD_extractLsb', BitVec.getLsbD_append, Nat.add_assoc, Nat.not_lt.2 (Nat.le_add_right w _),
    if_false, Nat.add_sub_cancel_left]

theorem bytes16_append (high low : Byte) : bytes16 (high ++ low) = [high, low] := by
  rw [bytes16, BitVec.extractLsb'_append_eq_left, BitVec.extractLsb'_append_eq_right]

theorem bytes32_append (b3 b2 b1 b0 : Byte) : bytes32 (b3 ++ b2 ++ b1 ++ b0) = [b3, b2, b1, b0] := by
  rw [bytes32, extractLsb'_append_add (b3 ++ b2 ++ b1) b0 16 8, extractLsb'_append_add (b3 ++ b2) b1 8 8,
    extractLsb'_append_add (b3 ++ b2 ++ b1) b0 8 8, extractLsb'_append_add (b3 ++ b2) b1 0 8,
    extractLsb'_append_add (b3 ++ b2 ++ b1) b0 0 8]
  simp only [BitVec.extractLsb'_append_eq_left, BitVec.extractLsb'_append_eq_right]

/-! #### A frame's bytes, written and read -/

theorem addressByte_dest (dest src : Node) : nodeOfBits ((addressByte dest src).extractLsb' 4 4) = dest := by
  rw [addressByte, BitVec.extractLsb'_append_eq_left]
  exact Fin.ext (Nat.mod_eq_of_lt dest.isLt)

theorem addressByte_src (dest src : Node) : nodeOfBits ((addressByte dest src).extractLsb' 0 4) = src := by
  rw [addressByte, BitVec.extractLsb'_append_eq_right]
  exact Fin.ext (Nat.mod_eq_of_lt src.isLt)

theorem headerByte_fields (b : Byte) : headerByte (b.extractLsb' 5 3) (b.extractLsb' 0 5) = b := by
  rw [headerByte, BitVec.extractLsb'_append_extractLsb'_eq_extractLsb' (by decide), BitVec.extractLsb'_eq_self]

theorem addressByte_nodes (b : Byte) :
    addressByte (nodeOfBits (b.extractLsb' 4 4)) (nodeOfBits (b.extractLsb' 0 4)) = b := by
  have node : ∀ x : BitVec 4, BitVec.ofNat 4 (nodeOfBits x).val = x := fun x =>
    BitVec.eq_of_toNat_eq (Nat.mod_eq_of_lt x.isLt)
  rw [addressByte, node, node, BitVec.extractLsb'_append_extractLsb'_eq_extractLsb' (by decide),
    BitVec.extractLsb'_eq_self]

section
variable {own : Node} {f : Frame} {k : Kind} {r : RawFrame}

/-- What passes every check is, byte for byte, the frame it is taken for. -/
theorem RawFrame.Carries.bytes_eq (h : r.Carries own k) :
    (r.frameOfKind k).bytes own = r.firstBytes (k.payloadLength + 3) := by
  have header : headerByte (r.frameOfKind k).head.prio k.code = (r.byteAt 0).1 := by
    rw [← h.kind]; exact headerByte_fields _
  have address : addressByte own (r.frameOfKind k).head.src = (r.byteAt 1).1 := by
    rw [← h.dest]; exact addressByte_nodes _
  have body : [headerByte (r.frameOfKind k).head.prio k.code, addressByte own (r.frameOfKind k).head.src] ++
      (r.frameOfKind k).payload = r.firstBytes (2 + k.payloadLength) := by
    rw [header, address]; exact (r.firstBytes_two_add _).symm
  have crc : crc8 (r.firstBytes (2 + k.payloadLength)) = (r.byteAt (2 + k.payloadLength)).1 := h.checks
  calc (r.frameOfKind k).bytes own
      = r.firstBytes (2 + k.payloadLength) ++ [crc8 (r.firstBytes (2 + k.payloadLength))] := by rw [← body]; rfl
    _ = r.firstBytes (2 + k.payloadLength + 1) := by rw [crc, r.firstBytes_succ]
    _ = r.firstBytes (k.payloadLength + 3) := by rw [show 2 + k.payloadLength + 1 = k.payloadLength + 3 by omega]

theorem byteAt_cleanReading (bytes : List Byte) (i : Nat) :
    (cleanReading bytes).byteAt i = (bytes.getD i 0xFF, true) := by
  simp only [RawFrame.byteAt, cleanReading, List.getD_eq_getElem?_getD, List.getElem?_map]
  cases bytes[i]? <;> rfl

theorem firstBytes_cleanReading (front back : List Byte) :
    (cleanReading (front ++ back)).firstBytes front.length = front := by
  rw [RawFrame.firstBytes_of_le _ (by simp [cleanReading])]
  simp [cleanReading, Function.comp_def]

/-- The frame on the line without an error passes every check, and is taken for itself (R133, R135). -/
theorem cleanReading_carries (length : f.payload.length = f.kind.payloadLength) :
    (cleanReading (f.bytes own)).Carries own f.kind ∧
      (cleanReading (f.bytes own)).frameOfKind f.kind = f := by
  have stop : ∀ i, ((cleanReading (f.bytes own)).byteAt i).2 = true := fun i => by rw [byteAt_cleanReading]
  have header : ((cleanReading (f.bytes own)).byteAt 0).1 = headerByte f.head.prio f.kind.code := rfl
  have address : ((cleanReading (f.bytes own)).byteAt 1).1 = addressByte own f.head.src := rfl
  have front : (cleanReading (f.bytes own)).firstBytes (2 + f.kind.payloadLength) =
      headerByte f.head.prio f.kind.code :: addressByte own f.head.src :: f.payload := by
    rw [← length, Nat.add_comm]
    exact firstBytes_cleanReading (headerByte f.head.prio f.kind.code :: addressByte own f.head.src :: f.payload) _
  have crc : ((cleanReading (f.bytes own)).byteAt (2 + f.kind.payloadLength)).1 =
      crc8 (headerByte f.head.prio f.kind.code :: addressByte own f.head.src :: f.payload) := by
    rw [byteAt_cleanReading, ← length, Nat.add_comm]
    simp [Frame.bytes]
  refine ⟨⟨⟨rfl, stop 0, stop 1⟩, ?_, ?_, fun i _ => stop _, ?_, rfl, rfl⟩, ?_⟩
  · rw [RawFrame.dest, address, addressByte_dest]
  · rw [RawFrame.code, header]
    exact BitVec.extractLsb'_append_eq_right
  · rw [RawFrame.Checks, front, crc]
  · have prio : (headerByte f.head.prio f.kind.code).extractLsb' 5 3 = f.head.prio := BitVec.extractLsb'_append_eq_left
    rw [RawFrame.frameOfKind, header, address, front, prio, addressByte_src]
    rfl

end

/-! #### Commands and the frames that carry them -/

open Laws in
/-- The frame of a well-formed command has its kind's payload length, and carries that command (R152). -/
theorem commandOf_frameOf {c : Instr} {f : Frame} (formed : c.wellFormed = true) (carried : frameOf c = some f) :
    f.payload.length = f.kind.payloadLength ∧ commandOf f = some c := by
  cases c
  case identify => exact Round.identify _ formed f carried
  case linePattern => exact Round.linePattern _ formed f carried
  case queryJunctionPart1 => exact Round.queryJunctionPart1 _ _ formed f carried
  case queryJunctionPart2 => exact Round.queryJunctionPart2 _ formed f carried
  case queryPassage => exact Round.queryPassage _ _ formed f carried
  case queryCell => exact Round.queryCell _ _ formed f carried
  case queryLine => exact Round.queryLine _ formed f carried
  case requestPassage => exact Round.requestPassage _ _ _ _ _ _ formed f carried
  case withdraw => exact Round.withdraw _ _ _ formed f carried
  case lockCells => exact Round.lockCells _ _ formed f carried
  case unlockCells => exact Round.unlockCells _ _ formed f carried
  case setSensor => exact Round.setSensor _ _ _ formed f carried
  case forceRelease => exact Round.forceRelease _ _ _ formed f carried
  case drain => exact Round.drain _ formed f carried
  case resume => exact Round.resume _ formed f carried
  case restart => exact Round.restart _ formed f carried
  case openService => exact Round.openService _ formed f carried
  case loadOptions => exact Round.loadOptions _ _ _ _ _ _ _ formed f carried
  case loadCell => exact Round.loadCell _ _ _ _ _ formed f carried
  case loadApproach => exact Round.loadApproach _ _ _ _ _ formed f carried
  case loadRoute => exact Round.loadRoute _ _ _ _ _ _ formed f carried
  case loadRouteCells => exact Round.loadRouteCells _ _ _ _ _ _ _ _ _ formed f carried
  case loadMaster => exact Round.loadMaster _ _ _ _ _ _ formed f carried
  case commitMap => exact Round.commitMap _ formed f carried
  all_goals cases carried

/-- Every frame with its kind's payload length carries a command (R152). -/
theorem exists_frameOf (hd : FrameHead) : ∀ (k : Kind) (payload : List Byte), payload.length = k.payloadLength →
    ∃ c : Instr, c.wellFormed = true ∧ frameOf c = some ⟨hd, k, payload⟩
  | .identify, [], _ => ⟨.identify hd, rfl, rfl⟩
  | .linePattern, [], _ => ⟨.linePattern hd, rfl, rfl⟩
  | .queryJunction, [part], _ => by
    by_cases second : part = 2
    · exact ⟨.queryJunctionPart2 hd, rfl, by rw [second, frameOf]⟩
    · exact ⟨.queryJunctionPart1 hd part, decide_eq_true second, rfl⟩
  | .queryPassage, [slot], _ => ⟨.queryPassage hd slot, rfl, rfl⟩
  | .queryCell, [cell], _ => ⟨.queryCell hd cell, rfl, rfl⟩
  | .queryLine, [], _ => ⟨.queryLine hd, rfl, rfl⟩
  | .requestPassage, [c1, c0, route, cls, speed, l1, l0], _ =>
    ⟨.requestPassage hd (c1 ++ c0) route cls speed (l1 ++ l0), rfl, by simp [frameOf, bytes16_append]⟩
  | .withdraw, [slot, c1, c0], _ => ⟨.withdraw hd slot (c1 ++ c0), rfl, by simp [frameOf, bytes16_append]⟩
  | .lockCells, [b3, b2, b1, b0], _ =>
    ⟨.lockCells hd (b3 ++ b2 ++ b1 ++ b0), rfl, by simp [frameOf, bytes32_append]⟩
  | .unlockCells, [b3, b2, b1, b0], _ =>
    ⟨.unlockCells hd (b3 ++ b2 ++ b1 ++ b0), rfl, by simp [frameOf, bytes32_append]⟩
  | .setSensor, [cell, mode], _ => ⟨.setSensor hd cell mode, rfl, rfl⟩
  | .forceRelease, [slot, c1, c0], _ => ⟨.forceRelease hd slot (c1 ++ c0), rfl, by simp [frameOf, bytes16_append]⟩
  | .drain, [], _ => ⟨.drain hd, rfl, rfl⟩
  | .resume, [], _ => ⟨.resume hd, rfl, rfl⟩
  | .restart, [], _ => ⟨.restart hd, rfl, rfl⟩
  | .openService, [], _ => ⟨.openService hd, rfl, rfl⟩
  | .loadOptions, [tick, divider, depth, dwell, skip, t1, t0], _ =>
    ⟨.loadOptions hd tick divider depth dwell skip (t1 ++ t0), rfl, by simp [frameOf, bytes16_append]⟩
  | .loadCell, [cell, inUse, l1, l0, sensor], _ =>
    ⟨.loadCell hd cell inUse (l1 ++ l0) sensor, rfl, by simp [frameOf, bytes16_append]⟩
  | .loadApproach, [approach, inUse, d1, d0, limit], _ =>
    ⟨.loadApproach hd approach inUse (d1 ++ d0) limit, rfl, by simp [frameOf, bytes16_append]⟩
  | .loadRoute, [route, inUse, approach, speed, count], _ =>
    ⟨.loadRoute hd route inUse approach speed count, rfl, rfl⟩
  | .loadRouteCells, [route, span, e0, e1, e2, e3, e4, e5], _ =>
    ⟨.loadRouteCells hd route span e0 e1 e2 e3 e4 e5, rfl, rfl⟩
  | .loadMaster, [slot, inUse, node, role, option], _ => ⟨.loadMaster hd slot inUse node role option, rfl, rfl⟩
  | .commitMap, [], _ => ⟨.commitMap hd, rfl, rfl⟩

/-- Settles O2: a clean frame passes every check and is read as itself; what passes every check is the bytes of a frame,
and each frame carries one command. -/
theorem framesDecodeAsTheyEncode : Obligations.FramesDecodeAsTheyEncode := by
  refine ⟨fun own c bytes formed encoded => ?_, fun own r c decoded => ?_⟩
  · obtain ⟨f, carried, rfl⟩ := Option.map_eq_some_iff.1 encoded
    obtain ⟨length, command⟩ := commandOf_frameOf formed carried
    obtain ⟨carries, same⟩ := cleanReading_carries (own := own) length
    rw [decodeFrame, carries.handed, same]
    exact command
  · unfold decodeFrame at decoded
    split at decoded
    · rename_i f handed
      obtain ⟨k, carries, rfl⟩ := carries_of_handed handed
      have length : (r.frameOfKind k).payload.length = k.payloadLength := by
        simp [RawFrame.frameOfKind, RawFrame.firstBytes_length]
      obtain ⟨c', formed, carried⟩ := exists_frameOf (r.frameOfKind k).head k (r.frameOfKind k).payload length
      obtain ⟨-, command⟩ := commandOf_frameOf formed carried
      cases command.symm.trans decoded
      exact ⟨formed, _, carried, length ▸ carries.bytes_eq⟩
    all_goals cases decoded

end Sys2Proof

namespace Sys2Proof.Machine

/-! ### The outcomes of a notice frame -/

/-- No attempt is on the line, and none has been counted for the frame in the shifter (R161). -/
structure State.AttemptClear (s : State) : Prop where
  attempt : s.liu.attempt = none
  attempts : s.notices.attempts = 0
  lateLoss : s.notices.lateLoss = false

theorem State.AttemptClear.select {s : State} (h : s.AttemptClear) : s.select.AttemptClear := by
  obtain ⟨attempt, attempts, lateLoss⟩ := h
  unfold State.select
  split
  · exact ⟨rfl, rfl, rfl⟩
  · exact ⟨attempt, attempts, lateLoss⟩
  · exact ⟨attempt, attempts, lateLoss⟩

theorem State.AttemptClear.promote {s : State} (h : s.AttemptClear) : s.promote.AttemptClear := by
  unfold State.promote
  split
  · exact ⟨rfl, rfl, rfl⟩
  · exact h

theorem State.AttemptClear.refill {s : State} (h : s.AttemptClear) : s.refill.AttemptClear := h.promote.select.select

/-- A selection leaves the frame in the shifter (R161). -/
theorem State.select_keepsShifter {s : State} {g : TxFrame} (full : s.liu.shifter = some g) :
    s.select.liu.shifter = some g := by
  unfold State.select
  split
  case h_1 _ empty _ => cases full.symm.trans empty
  all_goals exact full

/-- The staged frame moves up into the empty shifter, and stays there (R138, R161). -/
theorem State.refill_shifter {s : State} {g : TxFrame} (empty : s.liu.shifter = none) (staged : s.liu.staged = some g) :
    s.refill.liu.shifter = some g := by
  have up : s.promote.liu.shifter = some g := by rw [State.promote_of_staged empty staged]
  exact State.select_keepsShifter (State.select_keepsShifter up)

section
variable (s : State) (k : MasterSlot) (lost : Bool) (rx : Option Receive)

/-- The frame in the shifter has left, and its notice its FIFO; the places are not yet filled (R138, R162). -/
def State.shifterVacated : State :=
  { s with
    liu := { s.liu with shifter := none, attempt := none, rx := rx }
    notices := { s.notices with
      attempts := 0, lateLoss := false
      fifos := s.notices.fifos.set k { queue := s.notices.fifos[k].queue.drop 1, lost := lost } } }

theorem State.retireNotice_eq : s.retireNotice k lost rx = (s.shifterVacated k lost rx).refill := rfl

/-- All that is left when the shifter's frame is done with (R138, R161, R162): `t` follows from `s`. -/
structure Retires (s t : State) (k : MasterSlot) (lost : Bool) (rx : Option Receive) : Prop where
  book : SameBook s t
  outside : SameOutside s t
  line : t.liu.line = s.liu.line
  receive : t.liu.rx = rx
  clear : t.AttemptClear
  fifo : t.notices.fifos[k] = { queue := s.notices.fifos[k].queue.drop 1, lost := lost }
  others : ∀ j : MasterSlot, j ≠ k → t.notices.fifos[j] = s.notices.fifos[j]
  staged : ∀ g, s.liu.staged = some g → t.liu.shifter = some g
  refills : Refills (s.shifterVacated k lost rx) t

theorem State.retireNotice_retires : Retires s (s.retireNotice k lost rx) k lost rx := by
  rw [State.retireNotice_eq]
  obtain ⟨keeps, book⟩ := (s.shifterVacated k lost rx).refill_keepsBook
  have fifos : ∀ j : MasterSlot, (s.shifterVacated k lost rx).refill.notices.fifos[j] =
      if k = j then { queue := s.notices.fifos[k].queue.drop 1, lost := lost } else s.notices.fifos[j] := fun j => by
    rw [State.refill_fifos]; exact s.fifo_setFifo k j _
  obtain ⟨line, receive, -⟩ := keeps.sameLine
  have clear : (s.shifterVacated k lost rx).AttemptClear := ⟨rfl, rfl, rfl⟩
  exact {
    book := book
    outside := keeps.sameOutside
    line := line
    receive := receive
    clear := clear.refill
    fifo := (fifos k).trans (if_pos rfl)
    others := fun j other => (fifos j).trans (if_neg other.symm)
    staged := fun g staged => State.refill_shifter rfl staged
    refills := State.refills_refill _ }

end

/-- The first two BIT errors are recorded and counted, and keep the frame for another attempt (R138, R142). -/
def State.keptForRetry (s : State) : State :=
  { s with
    liu := { s.liu with
      attempt := none, rx := none
      error := { kind := .bit, stamp := s.timer.floor, overrun := decide (s.liu.error.kind ≠ .none) } }
    notices := { s.notices with attempts := s.notices.attempts + 1 } }

section
variable {s : State} {f : TxFrame} {a : Attempt} (running : s.power.phase = .running) (sending : s.liu.attempt = some a)
  (shifter : s.liu.shifter = some f)
include running sending shifter

theorem exec_noticeSentClean : exec .noticeSentClean s = .next (s.retireNotice f.slot
    (s.lostFlag f.slot && !(a.lost && !s.notices.lateLoss)) (some (.closing a.bytes []))) := by
  rw [exec, execNoticeSentClean, whenRunning_running running]
  simp only [sending, shifter]

theorem exec_noticeBitError : exec .noticeBitError s = .next (if s.notices.attempts < 2 then s.keptForRetry else
    ((s.recordError .bit).recordError .txAbandoned).retireNotice f.slot true none) := by
  rw [exec, execNoticeBitError, whenRunning_running running]
  simp only [sending, shifter]
  rfl

end

/-- Settles O35: a clean outcome and the third BIT error retire the frame, the latter behind two records. -/
theorem noticeOutcomes : Obligations.NoticeOutcomes := by
  intro s f a running sending shifter
  have failed := exec_noticeBitError running sending shifter
  refine ⟨?_, fun again => failed.trans (congrArg _ (if_pos again)), fun third => ?_⟩
  · obtain ⟨book, outside, line, receive, clear, fifo, others, staged, refills⟩ :=
      s.retireNotice_retires f.slot (s.lostFlag f.slot && !(a.lost && !s.notices.lateLoss)) (some (.closing a.bytes []))
    exact ⟨_, exec_noticeSentClean running sending shifter, book, outside, line, clear.attempt, clear.attempts,
      clear.lateLoss, receive, fifo, others, staged, refills⟩
  · obtain ⟨book, ⟨-, map, timer, scanner, control, -, -, error, -⟩, line, receive, clear, fifo, others, staged,
      refills⟩ := ((s.recordError .bit).recordError .txAbandoned).retireNotice_retires f.slot true none
    exact ⟨_, failed.trans (congrArg _ (if_neg (Nat.not_lt.2 third))), book, control, map, timer, scanner, line, error,
      clear.attempt, receive, clear.attempts, clear.lateLoss, fifo, others, staged, refills⟩

end Sys2Proof.Machine

namespace Sys2Proof

/-! ### Readings with an error, and frames for other nodes -/

/-! #### Readings that end early, and their stop bits -/

section
variable {l : List (Byte × Bool)} {n i : Nat}

/-- A list of bytes whose stop bits are recessive reads so to its end and past it (R135). -/
theorem stop_getD (recessives : ∀ b ∈ l, b.2 = true) (i : Nat) : (l.getD i recessive).2 = true := by
  by_cases inside : i < l.length
  · rw [List.getD_eq_getElem _ _ inside]
    exact recessives _ (List.getElem_mem inside)
  · rw [List.getD_eq_default _ _ (Nat.le_of_not_lt inside)]
    rfl

/-- A dominant stop bit is found where the reading is looked through. -/
theorem exists_dominant_getD (dominant : ∃ b ∈ l, b.2 = false) (fits : l.length ≤ n) :
    ∃ i < n, (l.getD i recessive).2 = false := by
  obtain ⟨b, member, stop⟩ := dominant
  obtain ⟨i, inside, rfl⟩ := List.getElem_of_mem member
  exact ⟨i, by omega, by rw [List.getD_eq_getElem _ _ inside, stop]⟩

theorem map_getD_range_of_le (fits : l.length ≤ n) :
    (List.range n).map (fun i => (l.getD i recessive).1) = (l.rightpad n recessive).map Prod.fst := by
  have read := congrArg (List.map Prod.fst) (map_getD_range l n recessive)
  rwa [List.map_map, List.take_of_length_le (by rw [List.length_rightpad, Nat.max_eq_left fits])] at read

end

section
variable {r : RawFrame} {own : Node} {k : Kind} {n : Nat} {header address : Byte × Bool} {rest : List (Byte × Bool)}

theorem RawFrame.dest_eq_iff : r.dest = own ↔ ((r.byteAt 1).1.extractLsb' 4 4).toNat = own.val := Fin.ext_iff

section
variable (read : r.bytes = header :: address :: rest)
include read

theorem RawFrame.stops_of_rest (recessives : ∀ b ∈ rest, b.2 = true) : r.Stops k := fun i _ => by
  rw [r.byteAt_two_add read]
  exact stop_getD recessives i

/-- The bytes of a frame with `n` payload bytes (R133, R135). -/
theorem RawFrame.firstBytes_frame (fits : rest.length ≤ n + 1) :
    r.firstBytes (n + 3) = (header :: address :: rest.rightpad (n + 1) recessive).map Prod.fst := by
  rw [r.firstBytes_of_ge (by rw [read]; exact Nat.add_le_add_right fits 2), read]
  simp [List.rightpad]

/-- The last byte of a frame is compared with the CRC-8 of those before it (R134). -/
theorem RawFrame.checks_iff (fits : rest.length ≤ k.payloadLength + 1) :
    r.Checks k ↔
      some (crc8 ((header :: address :: (rest.rightpad (k.payloadLength + 1) recessive).dropLast).map Prod.fst)) =
        (rest.rightpad (k.payloadLength + 1) recessive).getLast?.map Prod.fst := by
  obtain ⟨front, last, split⟩ : ∃ front last, rest.rightpad (k.payloadLength + 1) recessive = front ++ [last] := by
    refine List.eq_nil_or_concat' _ |>.resolve_left fun empty => ?_
    have := congrArg List.length empty
    rw [List.length_rightpad, Nat.max_eq_left fits] at this
    cases this
  have whole : r.firstBytes (2 + k.payloadLength) ++ [(r.byteAt (2 + k.payloadLength)).1] =
      (header :: address :: front).map Prod.fst ++ [last.1] := by
    rw [← r.firstBytes_succ, show 2 + k.payloadLength + 1 = k.payloadLength + 3 by omega,
      RawFrame.firstBytes_frame read fits, split]
    simp
  obtain ⟨fed, crc⟩ := List.append_inj' whole rfl
  rw [RawFrame.Checks, fed, List.singleton_inj.1 crc, split, List.dropLast_concat, List.getLast?_concat,
    Option.map_some, Option.some_inj]

end

/-! #### What an onlooker follows -/

theorem onlookerLength_code (k : Kind) : onlookerLength k.code = some k.payloadLength := by
  have known : k.code ≠ 31 := by cases k <;> decide
  rw [onlookerLength, if_neg known, Kind.ofCode_eq_some_iff.2 rfl]
  rfl

theorem onlookerLength_eq_none {code : BitVec 5} (unknown : 23 ≤ code.toNat) (noNotice : code.toNat ≤ 30) :
    onlookerLength code = none := by
  have other : code ≠ 31 := by rintro rfl; exact absurd noNotice (by decide)
  rw [onlookerLength, if_neg other, Kind.ofCode_eq_none_iff.2 unknown]
  rfl

/-- The lengths an onlooker counts: those of the kinds, and 8 for the notice frame (R133). -/
theorem onlookerLength_eq_some {code : BitVec 5} {n : Nat}
    (counted : (∃ k : Kind, code = k.code ∧ n = k.payloadLength) ∨ code = 31 ∧ n = 8) :
    onlookerLength code = some n := by
  rcases counted with ⟨k, rfl, rfl⟩ | ⟨rfl, rfl⟩
  · exact onlookerLength_code k
  · rfl

theorem RawFrame.followed_of_unknown (unknown : onlookerLength r.code = none) : r.followed = none := by
  unfold RawFrame.followed
  rw [show onlookerLength ((r.byteAt 0).1.extractLsb' 0 5) = none from unknown]

/-- An onlooker follows a frame of a length it knows, with its tail, while the stop bits are recessive (R133). -/
theorem RawFrame.followed_of_length (length : onlookerLength r.code = some n) :
    r.followed =
      if (List.range (n + 3)).all (fun i => (r.byteAt i).2) && (List.range r.tailLength).all (fun i => (r.tailAt i).2)
      then some (r.firstBytes (n + 3), (List.range r.tailLength).map fun i => (r.tailAt i).1) else none := by
  unfold RawFrame.followed
  rw [show onlookerLength ((r.byteAt 0).1.extractLsb' 0 5) = some n from length]

theorem RawFrame.followed_of_dominant (length : onlookerLength r.code = some n)
    (dominant : (∃ i < n + 3, (r.byteAt i).2 = false) ∨ ∃ i < r.tailLength, (r.tailAt i).2 = false) :
    r.followed = none := by
  rw [RawFrame.followed_of_length length, if_neg]
  simp only [Bool.and_eq_true, List.all_eq_true, List.mem_range, not_and_or, not_forall, Bool.not_eq_true, exists_prop]
  exact dominant

theorem RawFrame.followed_of_stops (length : onlookerLength r.code = some n) (stops : ∀ i, (r.byteAt i).2 = true)
    (tailStops : ∀ i < r.tailLength, (r.tailAt i).2 = true) :
    r.followed = some (r.firstBytes (n + 3), (List.range r.tailLength).map fun i => (r.tailAt i).1) := by
  rw [RawFrame.followed_of_length length, if_pos]
  simp only [Bool.and_eq_true, List.all_eq_true, List.mem_range]
  exact ⟨fun i _ => stops i, tailStops⟩

theorem RawFrame.tailLength_of_absent (absent : r.tailMark = false) : r.tailLength = 0 := by
  rw [RawFrame.tailLength, absent]
  rfl

/-- The first tail byte says how long the tail is (R136, R145). -/
theorem RawFrame.tailLength_of_present {first : Byte × Bool} {more : List (Byte × Bool)} (present : r.tailMark = true)
    (tail : r.tail = first :: more) : r.tailLength = (first.1.extractLsb' 5 3).toNat + 2 := by
  rw [RawFrame.tailLength, if_pos present, RawFrame.tailAt, tail]
  rfl

/-- A tail that is no longer than its first byte says (R136, R145). -/
theorem RawFrame.tail_length_le {first : Byte × Bool} {more : List (Byte × Bool)} (present : r.tailMark = true)
    (tail : r.tail = first :: more) (fits : more.length ≤ (first.1.extractLsb' 5 3).toNat + 1) :
    r.tail.length ≤ r.tailLength := by
  rw [RawFrame.tailLength_of_present present tail, tail]
  exact Nat.succ_le_succ fits

end

/-! #### Frames of `n` payload bytes whose reading may end early -/

section
variable {r : RawFrame} {own : Node} {k : Kind} {n : Nat} {header address : Byte × Bool}
  {rest : List (Byte × Bool)} (read : r.bytes = header :: address :: rest)
include read

theorem RawFrame.opens_of_bytes (mark : r.mark = 1) (headerStop : header.2 = true) (addressStop : address.2 = true) :
    r.Opens :=
  ⟨mark, by rw [RawFrame.byteAt, read]; exact headerStop, by rw [RawFrame.byteAt, read]; exact addressStop⟩

theorem RawFrame.readPayload_of_dominant (fits : rest.length ≤ k.payloadLength + 1)
    (dominant : ∃ b ∈ rest, b.2 = false) : r.readPayload k = .error .byte := by
  obtain ⟨i, short, stop⟩ := exists_dominant_getD dominant fits
  exact RawFrame.readPayload_of_stopBit short (by rwa [r.byteAt_two_add read])

theorem RawFrame.followed_of_dominantByte (length : onlookerLength r.code = some n) (fits : rest.length ≤ n + 1)
    (dominant : ∃ b ∈ rest, b.2 = false) : r.followed = none := by
  obtain ⟨i, short, stop⟩ := exists_dominant_getD dominant fits
  exact RawFrame.followed_of_dominant length (.inl ⟨2 + i, by omega, by rwa [r.byteAt_two_add read]⟩)

theorem RawFrame.byteAt_stop (opens : r.Opens) (recessives : ∀ b ∈ rest, b.2 = true) : ∀ i, (r.byteAt i).2 = true
  | 0 => opens.header
  | 1 => opens.address
  | i + 2 => by
    rw [Nat.add_comm, r.byteAt_two_add read]
    exact stop_getD recessives i

section
variable (opens : r.Opens) (length : onlookerLength r.code = some n) (fits : rest.length ≤ n + 1)
  (recessives : ∀ b ∈ rest, b.2 = true)
include opens length fits recessives

/-- A frame without a tail is followed to its CRC byte (R133). -/
theorem RawFrame.followed_untailed (absent : r.tailMark = false) :
    r.followed = some ((header :: address :: rest.rightpad (n + 1) recessive).map Prod.fst, []) := by
  have noTail := RawFrame.tailLength_of_absent absent
  rw [RawFrame.followed_of_stops length (RawFrame.byteAt_stop read opens recessives) (by simp [noTail]),
    RawFrame.firstBytes_frame read fits, noTail]
  rfl

/-- A frame with a tail is followed to the tail's CRC byte (R133, R136). -/
theorem RawFrame.followed_tailed (fitsTail : r.tail.length ≤ r.tailLength) (tailRecessives : ∀ b ∈ r.tail, b.2 = true) :
    r.followed = some ((header :: address :: rest.rightpad (n + 1) recessive).map Prod.fst,
      (r.tail.rightpad r.tailLength recessive).map Prod.fst) := by
  rw [RawFrame.followed_of_stops length (RawFrame.byteAt_stop read opens recessives) fun i _ =>
    stop_getD tailRecessives i, RawFrame.firstBytes_frame read fits, ← map_getD_range_of_le fitsTail]
  rfl

end

end

end Sys2Proof

namespace Sys2Proof.Machine

/-! ### The events of the floor line -/

section
variable {s : State}

/-- An error of this kind is put on record at the present floor time (R142). -/
def State.errorRecord (s : State) (kind : LineError) : ErrorRecord :=
  { kind := kind, stamp := s.timer.floor, overrun := decide (s.liu.error.kind ≠ .none) }

/-- With no attempt to end, an idle line leaves all but its own state, the receive side and the tail (R132). -/
theorem State.sameButTail_idle (s : State) (silent : s.liu.attempt = none) :
    SameButTail s (s.setLiu { s.liu.abort with line := .idle }) := by
  simp [SameButTail, State.setLiu, Liu.abort, silent]

section
variable (running : s.power.phase = .running)
include running

theorem exec_lineBusy (idle : s.liu.line = .idle) :
    exec .lineBusy s = .next { s with liu := { s.liu with line := .busy, rx := some (.data [] []) } } := by
  rw [exec, execLineBusy, whenRunning_running running, if_pos idle]
  rfl

theorem exec_lineBusy_elsewhere (line : s.liu.line ≠ .idle) : exec .lineBusy s = .next s := by
  rw [exec, execLineBusy, whenRunning_running running, if_neg line]

theorem exec_lineIdle (busy : s.liu.line = .busy) (silent : s.liu.attempt = none) (released : s.liu.pulse = none) :
    exec .lineIdle s = .next (s.setLiu { s.liu.abort with line := .idle }) := by
  rw [exec, execLineIdle, whenRunning_running running, if_pos ⟨busy, silent, released⟩]

theorem exec_lineIdle_elsewhere (line : s.liu.line ≠ .busy) : exec .lineIdle s = .next s := by
  rw [exec, execLineIdle, whenRunning_running running, if_neg fun ⟨busy, _⟩ => line busy]

theorem exec_noiseRun {cycles : Nat} (long : 24 ≤ cycles) (short : cycles < 80) :
    exec (.noiseRun cycles) s = .next (s.recordError .noise) := by
  rw [exec, execNoiseRun, whenRunning_running running, if_pos ⟨long, short⟩]

theorem exec_noiseRun_elsewhere {cycles : Nat} (outside : cycles < 24 ∨ 80 ≤ cycles) :
    exec (.noiseRun cycles) s = .next s := by
  have noNoise : ¬ (Config.noiseFromCycles ≤ cycles ∧ cycles < Config.acceptedFromCycles) := by
    unfold Config.noiseFromCycles Config.acceptedFromCycles
    omega
  rw [exec, execNoiseRun, whenRunning_running running, if_neg noNoise]

theorem exec_tailBitError {tail : Tail} (present : s.liu.tail = some tail) (sending : tail.sending = true) :
    exec .tailBitError s = .next
      { s with liu := { s.liu with
          rx := none, tail := some { tail with sending := false }, error := s.errorRecord .bit } } := by
  rw [exec, execTailBitError, whenRunning_running running]
  simp only [present, sending]
  rfl

end

section
variable {raw : RawFrame} (heard : s.hears raw = true)
include heard

/-- The first check that fails is recorded, and the frame is followed no further (R133, R135). -/
theorem exec_frameError_error {fault : FrameFault} (read : Sys2Proof.readFrame s.liu.own raw = .error fault) :
    exec (.frameError raw) s = .next
      { s with liu := { s.liu with
          line := .busy, rx := none, tail := none, error := s.errorRecord (faultKind fault) } } := by
  obtain ⟨running, -⟩ := State.hears_cases heard
  rw [exec, execFrameError, whenRunning_running running]
  simp only [heard, read]
  rfl

/-- A frame to the part is judged by its payload, CRC and gap (R133, R135). -/
theorem exec_frameError_payload {k : Kind} {fault : FrameFault} (opens : raw.Opens) (here : raw.dest = s.liu.own)
    (kind : raw.code = k.code) (failed : raw.readPayload k = .error fault) :
    exec (.frameError raw) s = .next
      { s with liu := { s.liu with
          line := .busy, rx := none, tail := none, error := s.errorRecord (faultKind fault) } } :=
  exec_frameError_error heard ((readFrame_of_kind opens here kind).trans failed)

/-- A frame for another node records nothing, and is followed as far as an onlooker goes (R133). -/
theorem exec_frameError_onlooker {followed : Option (List Byte × List Byte)} (opens : raw.Opens)
    (elsewhere : raw.dest ≠ s.liu.own) (follows : raw.followed = followed) :
    exec (.frameError raw) s = .next
      { s with liu := { s.liu with
          line := .busy, rx := followed.map fun x => .closing x.1 x.2, tail := none } } := by
  obtain ⟨running, -⟩ := State.hears_cases heard
  rw [exec, execFrameError, whenRunning_running running]
  simp only [heard, readFrame_of_dest opens elsewhere, follows]
  rfl

end

end

/-- Settles O36: the line's own events case by case, and a reading by its checks in their order: what is to the part
fails the first one that does not hold, what is for another node is followed as far as its stop bits let it. -/
theorem lineStatesAndErrors : Obligations.LineStatesAndErrors := by
  intro s running
  refine ⟨exec_lineBusy running, exec_lineBusy_elsewhere running, fun busy silent released => ?_,
    exec_lineIdle_elsewhere running, fun cycles => exec_noiseRun running, fun cycles => exec_noiseRun_elsewhere running,
    fun tail => exec_tailBitError running, ?_⟩
  · refine ⟨_, exec_lineIdle running busy silent released, rfl, rfl, fun tail left => ?_, s.sameButTail_idle silent⟩
    · obtain ⟨-, -, rfl⟩ := Option.map_eq_some_iff.1 left
      rfl
  · intro mark header address rest tail gap1 gap2 tailMark raw filled heard fails
    have read : raw.bytes = header :: address :: rest := rfl
    refine ⟨fun broken => exec_frameError_error heard (readFrame_of_mark broken), fun whole =>
      ⟨fun dominant => exec_frameError_error heard (readFrame_of_stopBit whole dominant),
        fun headerStop addressStop here => ?_, fun headerStop addressStop elsewhere => ?_⟩⟩
    · have opens : raw.Opens := RawFrame.opens_of_bytes read whole headerStop addressStop
      have dest : raw.dest = s.liu.own := RawFrame.dest_eq_iff.2 here
      refine ⟨fun unknown => exec_frameError_error heard (readFrame_of_unknown opens dest unknown),
        fun k kind fits => ?_⟩
      have judged := fun {fault} => exec_frameError_payload heard (fault := fault) opens dest kind
      refine ⟨fun dominant => judged (RawFrame.readPayload_of_dominant read fits dominant), fun recessives => ?_⟩
      have stops : raw.Stops k := RawFrame.stops_of_rest read recessives
      have checks := RawFrame.checks_iff (k := k) read fits
      exact ⟨fun wrong => judged (RawFrame.readPayload_of_crc stops (mt checks.1 wrong)),
        fun right gap => judged (RawFrame.readPayload_of_gap stops (checks.2 right) gap)⟩
    · have opens : raw.Opens := RawFrame.opens_of_bytes read whole headerStop addressStop
      have dest : raw.dest ≠ s.liu.own := mt RawFrame.dest_eq_iff.1 elsewhere
      have follows := fun {followed} => exec_frameError_onlooker heard (followed := followed) opens dest
      refine ⟨fun unknown noNotice => follows (RawFrame.followed_of_unknown (onlookerLength_eq_none unknown noNotice)),
        fun n counted fits => ?_⟩
      have length : onlookerLength raw.code = some n := onlookerLength_eq_some counted
      refine ⟨fun dominant => follows (RawFrame.followed_of_dominantByte read length fits dominant), fun recessives =>
        ⟨fun absent => ?_, fun present first more behind fitsTail => ⟨fun dominant => ?_, fun tailRecessives => ?_⟩⟩⟩
      · exact follows (RawFrame.followed_untailed read opens length fits recessives absent)
      · have within : raw.tail.length ≤ raw.tailLength := RawFrame.tail_length_le present behind fitsTail
        exact follows (RawFrame.followed_of_dominant length (.inr (exists_dominant_getD dominant within)))
      · have within : raw.tail.length ≤ raw.tailLength := RawFrame.tail_length_le present behind fitsTail
        have followed := RawFrame.followed_tailed read opens length fits recessives within tailRecessives
        rw [RawFrame.tailLength_of_present (r := raw) present behind] at followed
        exact follows followed

end Sys2Proof.Machine
